-- ==== Sys2Proof/Word.lean ====
section
/-! DEFINITION. The word types of the ZX-2424 and its numbering: bytes, 32-bit counters and timestamps, the
4-bit command sequence, and the index types of the manual's collections (00_scope.md, "Addresses and numbering"). -/

namespace Sys2Proof

/-- One byte of a frame. -/
abbrev Byte := BitVec 8

/-- Report numbers: 16-bit and wrapping (R187). -/
abbrev U16 := BitVec 16

/-- Head timestamps, orders and counters: unsigned 32-bit and wrapping. -/
abbrev U32 := BitVec 32

/-- Stack command sequence numbers, 0 to 15, wrapping (R133). -/
abbrev Seq := BitVec 4

/-- Buses 0 to 23. -/
abbrev Bus := Fin 24

/-- Event Map indices 0 to 31. -/
abbrev EventIx := Fin 32

/-- Release Map indices 0 to 15. -/
abbrev ReleaseIx := Fin 16

/-- Capture channels 0 to 7. -/
abbrev CaptureIx := Fin 8

/-- Envelope rows 0 to 15. -/
abbrev EnvelopeIx := Fin 16

/-- Banks 0 and 1. -/
abbrev BankIx := Fin 2

/-- A node that is a head, a stack or the store head: addresses 1 to 62, `k` standing for address `k + 1`. -/
abbrev Station := Fin 62

/-- The node address of a station, 1 to 62. -/
def Station.address (k : Station) : Nat := k.val + 1

/-- The node of a station, among all nodes 0 to 63. -/
def Station.node (k : Station) : Fin 64 := Fin.ofNat 64 k.address

/-- The station at node address `a`; none for the dispatcher (0), the gateway (63) and anything above. -/
def stationAt? (a : Nat) : Option Station :=
  if h : 1 ≤ a ∧ a ≤ 62 then some ⟨a - 1, by omega⟩ else none

/-- The bus numbered `n`; none outside 0 to 23. -/
def busAt? (n : Nat) : Option Bus := if h : n < 24 then some ⟨n, h⟩ else none

/-- The event index `n`; none outside 0 to 31. -/
def eventAt? (n : Nat) : Option EventIx := if h : n < 32 then some ⟨n, h⟩ else none

/-- The release index `n`; none outside 0 to 15. -/
def releaseAt? (n : Nat) : Option ReleaseIx := if h : n < 16 then some ⟨n, h⟩ else none

/-- The capture channel `n`; none outside 0 to 7. -/
def captureAt? (n : Nat) : Option CaptureIx := if h : n < 8 then some ⟨n, h⟩ else none

/-- The envelope row `n`; none outside 0 to 15. -/
def envelopeAt? (n : Nat) : Option EnvelopeIx := if h : n < 16 then some ⟨n, h⟩ else none

/-- The bank `n`; none outside 0 and 1. -/
def bankAt? (n : Nat) : Option BankIx := if h : n < 2 then some ⟨n, h⟩ else none

end Sys2Proof
end

