-- ==== Sys2Proof/Syntax.lean ====
section
/-! DEFINITION. The commands of the ZX-2424: one constructor for each row of spec/opcode_table.json. A command
that happens at a moment of the outside world (an arrival, a completion, a timer's expiry) carries that moment, in
µs on the dispatcher's own time base. The others take what State holds waiting for the block concerned: the oldest
frame handed to it, the notice or request brought to it, the management request at the head of the request queue. -/

namespace Sys2Proof

/-- When a unit takes an accepted SENSE frame (R6: the detection state change and the actions of the Envelope,
Injection and Capture Units on the same frame may be taken in either order). -/
inductive FrameTurn where
  /-- Bus Watch has taken the frame and passed it on: the unit takes the oldest frame passed to it. -/
  | passedOn
  /-- The unit takes the frame at the head of Bus Watch's frames before Bus Watch does. -/
  | ahead
deriving DecidableEq, Repr

/-- When the Allocator takes the notice of a STACK-STATUS frame, against the tidy RELEASE of the same frame
(R91, R142: either may be taken first). -/
inductive NoticeTurn where
  /-- The notice waits for the Allocator (STACK_NOTICE), after the frame's RELEASE. -/
  | later
  /-- The Allocator takes the notice before the channel looks whether to queue RELEASE. -/
  | first
deriving DecidableEq, Repr

/-- The commands. Operands are numbers as the manual counts them: buses 0 to 23, event indices 0 to 31, stack
addresses 1 to 62, times in µs. -/
inductive Instr where
  /-- POWER_ON (R1 and the power-on values of every chapter). -/
  | powerOn
  /-- FRAME_ARRIVAL (R160): a delimited run of bytes has arrived whole at the ingress port at `time`. -/
  | frameArrival (time : Nat) (bytes : List Byte)
  /-- SENSE_FRAME (R2): Bus Watch takes the oldest SENSE frame handed to it. -/
  | senseFrame
  /-- INJECTION_FRAME (R114): the Injection Unit takes an accepted frame. -/
  | injectionFrame (turn : FrameTurn)
  /-- ENVELOPE_JUDGE (R55): the Envelope Unit takes an accepted frame. -/
  | envelopeJudge (turn : FrameTurn)
  /-- CAPTURE_FRAME (R152): the Capture Unit takes an accepted frame. -/
  | captureFrame (turn : FrameTurn)
  /-- SILENCE_EXPIRY (R18): the silence one-shot of `bus` comes to its expiry at `time`. -/
  | silenceExpiry (time : Nat) (bus : Nat)
  /-- STORE_FRAME (R102): the Allocator takes the oldest STORE frame handed to it. -/
  | storeFrame
  /-- STORE_SILENCE_EXPIRY (R107): the store silence one-shot comes to its expiry at `time`. -/
  | storeSilenceExpiry (time : Nat)
  /-- STACK_STATUS (R136): the Stack Command Channel takes the oldest STACK-STATUS frame handed to it. -/
  | stackStatus (turn : NoticeTurn)
  /-- STACK_NOTICE (R96): the Allocator takes the oldest notice of a status frame. -/
  | stackNotice
  /-- ACK_TIMER_EXPIRY (R139): an acknowledgement timer of the stack at address `stack` expires at `time`. -/
  | ackTimerExpiry (time : Nat) (stack : Nat)
  /-- TOPUP_REQUEST (R73): the Allocator takes the oldest TOPUP request brought to it. -/
  | topupRequest
  /-- SERVICE_PASS (R75): the Allocator makes the service pass that is due. -/
  | servicePass
  /-- FIRST_WAIT_EXPIRY (R84): the wait timer of the FIRST request of `event` expires at `time`. -/
  | firstWaitExpiry (time : Nat) (event : Nat)
  /-- TOPUP_WAIT_EXPIRY (R85): the wait timer of the TOPUP request of `event` expires at `time`. -/
  | topupWaitExpiry (time : Nat) (event : Nat)
  /-- FRAME_COMPLETION (R168): the frame on the egress link completes at `time`. -/
  | frameCompletion (time : Nat)
  /-- READ_IDENTITY (R184), and so below: the Management Unit takes the request of this kind at the head of the
  request queue (R181). -/
  | readIdentity
  /-- LOAD_BUS_ROW (R175). -/
  | loadBusRow
  /-- LOAD_ENVELOPE_ROW (R50). -/
  | loadEnvelopeRow
  /-- LOAD_STORE_PARAMETERS (R177). -/
  | loadStoreParameters
  /-- READ_ROW (R178). -/
  | readRow
  /-- COMMIT_BANK (R179). -/
  | commitBank
  /-- SET_SERVICE_OFF (R20): a SET SERVICE request whose indication is not on. -/
  | setServiceOff
  /-- SET_SERVICE_ON (R21): a SET SERVICE request whose indication is on. -/
  | setServiceOn
  /-- CAPTURE_MASK (R147): a SET CAPTURE MASK request whose indication is masked. -/
  | captureMask
  /-- CAPTURE_UNMASK (R147): a SET CAPTURE MASK request whose indication is not masked. -/
  | captureUnmask
  /-- LOAD_CAPTURE_CHANNEL (R146). -/
  | loadCaptureChannel
  /-- READ_BUS (R184). -/
  | readBus
  /-- TAKE_ALARMS_BUS (R24): a TAKE ALARMS request that names anything but the pool. -/
  | takeAlarmsBus
  /-- TAKE_ALARMS_POOL (R184): a TAKE ALARMS request that names the pool. -/
  | takeAlarmsPool
  /-- READ_EVENT (R48). -/
  | readEvent
  /-- READ_POOL (R87). -/
  | readPool
  /-- READ_RELEASE (R108). -/
  | readRelease
  /-- READ_PORTS (R171). -/
  | readPorts
  /-- LATCH_METERING (R185). -/
  | latchMetering
  /-- READ_SNAPSHOT (R186). -/
  | readSnapshot
  /-- READ_CAPTURE_RECORDS (R156): a READ CAPTURE request not in the channel form. -/
  | readCaptureRecords
  /-- READ_CAPTURE_CHANNEL (R157): a READ CAPTURE request in the channel form. -/
  | readCaptureChannel
  /-- RESTART (R189). -/
  | restart
  /-- UNKNOWN_REQUEST (R182): a request of a kind the dispatcher does not define. -/
  | unknownRequest
deriving DecidableEq, Repr

end Sys2Proof
end

