-- ==== Sys2Proof/Decode.lean ====
section
/-! DEFINITION. The command that a word spells by the opcode table's bits. No row of spec/opcode_table.json gives bits, so no
word spells a command. -/

namespace Sys2Proof

/-- The command of a table word: none, since no row gives bits. -/
def decodeTableWord (_nbits _w : Nat) : Option Instr := none

end Sys2Proof
end

