-- ==== Sys2Proof/Config.lean ====
section
/-! DEFINITION. What the ZX-2424 fixes (capacities, limits, times) and the free values, which the manual leaves
open and of which nothing can be proved. -/

namespace Sys2Proof.Config

/-- Largest value of an energy account, in J (00_scope.md, "Units"). -/
def maxJoules : Nat := 4294967295

/-- Largest value of a metering accumulator, in nJ (R94, R123). -/
def maxNanojoules : Nat := 18446744073709551615

/-- Nanojoules in a joule (R41). -/
def nanoPerJoule : Nat := 1000000000

/-- The acknowledgement time of a command, in µs (R135). -/
def ackTimeout : Nat := 4000

/-- Event Map entries (R28). -/
def eventCapacity : Nat := 32

/-- Release Map entries (R89). -/
def releaseCapacity : Nat := 16

/-- Claims an event or a release may hold (R28, R93). -/
def claimCapacity : Nat := 4

/-- Strikes listed for an event (R14). -/
def strikeCapacity : Nat := 4

/-- Where the strike overflow count stays (R14). -/
def strikeOverflowMax : Nat := 255

/-- The top of the run count's range (section 1.1). -/
def runCountMax : Nat := 64

/-- Commands in transmission or sent and not acknowledged, per stack (section 7.1). -/
def outstandingCapacity : Nat := 3

/-- One unsent DRIVE frame for each stack address 1 to 62 (R169). -/
def driveCapacity : Nat := 62

/-- The response queue (section 9.4). -/
def responseCapacity : Nat := 8

/-- The transit queue (R164). -/
def transitCapacity : Nat := 16

/-- The report queue (R187). -/
def reportCapacity : Nat := 32

/-- The management request queue (R181). -/
def requestCapacity : Nat := 4

/-- Records in the capture memory (chapter 8). -/
def captureRecords : Nat := 65536

/-- Records in one page of the capture memory (chapter 8). -/
def pageRecords : Nat := 4096

/-- The gateway's node address (chapter 9). -/
def gateway : Nat := 63

/-- READ IDENTITY (R184). -/
def vendorCode : Nat := 1

/-- READ IDENTITY (R184). -/
def partNumber : Nat := 2424

/-- READ IDENTITY (R184). -/
def partRevision : Nat := 1

/-- The store voltage above which a STORE frame's voltage is taken as this, in dV (R102). -/
def storeVoltageMax : Nat := 16000

/-- FREE VALUE: the body-length byte of a frame whose answer is longer than the 255 bytes a body may have (an
answer to READ CAPTURE for ten or more records; R156 gives the answer, section 9.1 the limit, no rule the byte). -/
opaque longBodyLength : Nat → Byte

end Sys2Proof.Config
end

