-- ==== Sys2Proof/Machine/State.lean ====
section
/-! DEFINITION. The state of the ZX-2424 as plain data, block by block: every piece of state the manual gives the
part, what has been handed from one block to another and not yet taken, the dispatcher's time base, and the queue of
the commands that are waiting. -/

namespace Sys2Proof.Machine

/-! ## Values of frames -/

/-- A voltage vector in a head's pre-sag reference frame: d and q in per-mille, signed. -/
structure Phasor where
  d : Int
  q : Int
deriving DecidableEq, Repr

/-- One vector for each of the phases A, B and C. -/
structure ThreePhase where
  a : Phasor
  b : Phasor
  c : Phasor
deriving DecidableEq, Repr

/-- One current for each of the phases A, B and C, in whole amperes. -/
structure Currents where
  a : Nat
  b : Nat
  c : Nat
deriving DecidableEq, Repr

/-- The quantities of a SENSE frame's body (R3, R172). -/
structure SenseFrame where
  timestamp : U32
  volts : ThreePhase
  amps : Currents
  degraded : Bool
deriving DecidableEq, Repr

/-- The charger state of a STORE frame (R162). -/
inductive Charger where
  | charging
  | idle
  | fault
deriving DecidableEq, Repr

/-- The state a stack reports (R162, section 7.1). -/
inductive StackState where
  | standby
  | injecting
  | bypassed
  | tripped
deriving DecidableEq, Repr

/-! ## Tables (10.1, 3.1) -/

/-- The compensation method of a bus. -/
inductive Method where
  | presag
  | inphase
deriving DecidableEq, Repr

/-- The breach policy of a bus. -/
inductive BreachPolicy where
  | hold
  | abandon
deriving DecidableEq, Repr

/-- A Bus Table row's fields, in the order of the table of section 10.1. -/
structure BusRow where
  head : Station
  stack : Station
  nominal : Nat
  cls : Nat
  envelope : EnvelopeIx
  sagThreshold : Nat
  recoveryThreshold : Nat
  swellThreshold : Nat
  confirmCount : Nat
  recoverCount : Nat
  silenceTimeout : Nat
  faultLimit : Nat
  method : Method
  policy : BreachPolicy
  injectionLimit : Nat
  grantCap : Nat
  capture : Option CaptureIx
deriving DecidableEq, Repr

/-- A breakpoint of an envelope: a duration in ms and a floor in per-mille. -/
structure Breakpoint where
  duration : Nat
  floor : Nat
deriving DecidableEq, Repr

/-- An Envelope Table row's fields (section 3.1). -/
structure EnvelopeRow where
  breakpoints : List Breakpoint
  continuousFloor : Nat
  margin : Nat
  breachConfirm : Nat
deriving DecidableEq, Repr

/-- A Store Parameters set (section 10.1). -/
structure StoreParameters where
  head : Station
  capacitance : Nat
  floorVoltage : Nat
  reserve : Nat
  silenceTimeout : Nat
  minimumGrant : Nat
deriving DecidableEq, Repr

/-- A bank: a complete set of loadable tables. An invalid row or set holds no field values (R173): it is absent. -/
structure Bank where
  busRows : Vector (Option BusRow) 24
  envelopes : Vector (Option EnvelopeRow) 16
  store : Option StoreParameters
deriving DecidableEq, Repr

/-- The two banks and the active-bank selector (R173). -/
structure Banks where
  bank : Vector Bank 2
  active : BankIx
deriving DecidableEq, Repr

/-! ## Bus Watch (1.1) -/

/-- The detection states (section 1.3). -/
inductive Detection where
  | normal
  | suspect
  | sag
  | recovering
  | faulted
  | silent
  | outOfService
deriving DecidableEq, Repr

/-- A bus's sticky alarms (R24), a set. -/
structure BusAlarms where
  gap : Bool
  swell : Bool
  mapFull : Bool
  breach : Bool
  stackFault : Bool
  headDegraded : Bool
  releaseWait : Bool
deriving DecidableEq, Repr

/-- A bus's eight counters (R25). -/
structure BusCounters where
  accepted : U32
  dips : U32
  eventsOpened : U32
  untrackedSags : U32
  duplicates : U32
  stale : U32
  ignored : U32
  swells : U32
deriving DecidableEq, Repr

/-- A channel's baseline: last sequence and last timestamp, present or absent together (R4). -/
structure Baseline where
  sequence : Byte
  timestamp : U32
deriving DecidableEq, Repr

/-- A bus channel (section 1.1). A one-shot is its expiry time, or absent when STOPPED. -/
structure BusChannel where
  detection : Detection
  runCount : Nat
  suspectStart : Option U32
  suspectLowest : Option Nat
  openEvent : Option EventIx
  untracked : Bool
  baseline : Option Baseline
  silence : Option Nat
  bankInUse : BankIx
  alarms : BusAlarms
  counters : BusCounters
deriving DecidableEq, Repr

/-! ## The Event Map (2.1) -/

/-- The states of an event (section 2.3). -/
inductive EventState where
  | requesting
  | held
  | injecting
  | bypassed
  | closing
  | reporting
deriving DecidableEq, Repr

/-- The outcomes of an event (R38), in the order of its table. -/
inductive EventOutcome where
  | unprotected
  | denied
  | exhausted
  | displaced
  | cut
  | abandoned
  | stackFault
  | downstreamFault
  | lostSight
  | withdrawn
  | breached
  | rideThrough
  | unaided
  | restarted
deriving DecidableEq, Repr

/-- An event's marks (R39), a set. -/
structure Marks where
  breach : Bool
  sat : Bool
  topupDenied : Bool
  truncated : Bool
  noCapture : Bool
  silence : Bool
  downstream : Bool
  stackFault : Bool
deriving DecidableEq, Repr

/-- Why a HELD event cannot draw (R35), a set. -/
structure HeldReasons where
  borrow : Bool
  stack : Bool
  store : Bool
deriving DecidableEq, Repr

/-- The last command queued to the stack for an event (section 2.1). -/
inductive StackOrder where
  | none
  | inject
  | bypass
deriving DecidableEq, Repr

/-- One entry of a bus into sag: an offset in ms and the lowest magnitude in per-mille. -/
structure Strike where
  offset : Nat
  lowest : Nat
deriving DecidableEq, Repr

/-- A claim as its borrower lists it: a release and an amount in J. -/
structure EventClaim where
  release : ReleaseIx
  amount : Nat
deriving DecidableEq, Repr

/-- The opened-under copy of an event (R30). -/
structure OpenedUnder where
  stack : Station
  head : Station
  nominal : Nat
  cls : Nat
  method : Method
  policy : BreachPolicy
  injectionLimit : Nat
  grantCap : Nat
  capture : Option CaptureIx
  envelope : EnvelopeRow
deriving DecidableEq, Repr

/-- A wait for a Release Map entry: when it began, and its place among the waits begun (R92). -/
structure ReleaseWait where
  since : Nat
  order : Nat
deriving DecidableEq, Repr

/-- A held entry of the Event Map (section 2.1). The pending request is the event's entry in the Grant Queue and
stands there; the index is the entry's position in the map. -/
structure Event where
  bus : Bus
  openOrder : U32
  start : U32
  state : EventState
  copy : OpenedUnder
  strikes : List Strike
  strikeOverflow : Nat
  ladderStep : Nat
  deepestStep : Option Nat
  lastReference : Option ThreePhase
  lastFrame : U32
  stackOrder : StackOrder
  grant : Nat
  accumulator : Nat
  spent : Nat
  overdraw : Nat
  returned : Nat
  firstAmount : Nat
  claims : List EventClaim
  held : HeldReasons
  releaseWait : Option ReleaseWait
  /-- RELEASE was queued for the event when its wait began (R90, R92). -/
  releaseQueued : Bool
  releaseCreated : Bool
  lowestResidual : Option Nat
  breachRun : Nat
  outcome : Option EventOutcome
  marks : Marks
  capture : Option CaptureIx
  closeOrder : Option U32
deriving DecidableEq, Repr

/-- The Event Map: its entries, its two order counters (R28), and the number of waits begun. -/
structure EventMap where
  entries : Vector (Option Event) 32
  openCounter : U32
  closeCounter : U32
  waitCounter : Nat
deriving DecidableEq, Repr

/-! ## The Energy Allocator (4.1, 5.1, 5.7) -/

/-- The kinds of request (R72, R73). -/
inductive RequestKind where
  | first
  | topup
deriving DecidableEq, Repr

/-- A request in the Grant Queue (section 4.3); `expiry` is that of its wait timer (R83). -/
structure GrantRequest where
  event : EventIx
  kind : RequestKind
  amount : Nat
  cls : Nat
  entered : Nat
  expiry : Nat
deriving DecidableEq, Repr

/-- The states of a release (section 5.1). -/
inductive ReleaseState where
  | pending
  | unresolved
deriving DecidableEq, Repr

/-- A claim as its release lists it: a borrower and an amount in J. -/
structure ReleaseClaim where
  event : EventIx
  amount : Nat
deriving DecidableEq, Repr

/-- A held entry of the Release Map (section 5.1). -/
structure Release where
  state : ReleaseState
  stack : Station
  bus : Bus
  origin : Option EventIx
  creationOrder : U32
  amount : Nat
  accumulator : Nat
  overdraw : Nat
  awaited : Seq
  claims : List ReleaseClaim
deriving DecidableEq, Repr

/-- The store states (section 4.2). -/
inductive StoreState where
  | unconfigured
  | waiting
  | live
  | silent
deriving DecidableEq, Repr

/-- The Energy Allocator. `passDue`: an occasion of R75 has come and its pass has not been made. -/
structure Pool where
  budget : Nat
  free : Nat
  drawn : Nat
  grantQueue : List GrantRequest
  releases : Vector (Option Release) 16
  creationCounter : U32
  storeState : StoreState
  inEffect : Option StoreParameters
  storeSilence : Option Nat
  storeBaseline : Option U32
  charger : Option Charger
  chargerFault : Bool
  staleStore : U32
  passDue : Bool
deriving DecidableEq, Repr

/-! ## The Injection Unit (6.1) -/

/-- A reference in effect (section 6.1). -/
structure EffectiveReference where
  event : EventIx
  step : Nat
  volts : ThreePhase
  nominal : Nat
deriving DecidableEq, Repr

/-- A stack record (section 6.1). -/
structure StackRecord where
  boundBus : Option Bus
  drawingEvent : Option EventIx
  inEffect : Option EffectiveReference
deriving DecidableEq, Repr

/-- The Injection Unit's own state: stack records and metering rates (R111). -/
structure Injection where
  records : Vector StackRecord 62
  rates : Vector (Option Nat) 32
deriving DecidableEq, Repr

/-! ## The Stack Command Channel (7.1) -/

/-- The kinds of command; INJECT names an event. -/
inductive CommandKind where
  | inject (event : EventIx)
  | bypass
  | release
deriving DecidableEq, Repr

/-- A command: its sequence number and kind. -/
structure Command where
  sequence : Seq
  kind : CommandKind
deriving DecidableEq, Repr

/-- The standing of an outstanding command; a timer is its expiry time. -/
inductive Standing where
  | inTransmission
  | sent (timer : Option Nat)
deriving DecidableEq, Repr

/-- A command in transmission, or sent and not acknowledged. -/
structure Outstanding where
  command : Command
  standing : Standing
deriving DecidableEq, Repr

/-- A stack view (section 7.1); the fault set is the two indications `tripped` and `unresponsive`. -/
structure StackView where
  reported : StackState
  tripped : Bool
  unresponsive : Bool
  derate : Nat
  lastReported : Option Seq
  lastAcknowledged : Option Seq
  nextSequence : Seq
  outstanding : List Outstanding
  unsent : Option Command
deriving DecidableEq, Repr

/-! ## The Capture Unit (8.1) -/

/-- The states of a capture channel. -/
inductive CaptureState where
  | masked
  | idle
  | running
  | done
deriving DecidableEq, Repr

/-- The modes of a capture channel. -/
inductive CaptureMode where
  | single
  | continuous
deriving DecidableEq, Repr

/-- What a capture channel knows of its attached event's entry. -/
inductive EventStatus where
  | opened
  | ended
  | freed
deriving DecidableEq, Repr

/-- The kinds of capture record. -/
inductive RecordKind where
  | none
  | start
  | sample
deriving DecidableEq, Repr

/-- A capture record (section 8.1); `head` is the node address, 0 in a record never written. -/
structure CaptureRecord where
  kind : RecordKind
  event : Nat
  head : Nat
  sequence : Byte
  frame : SenseFrame
deriving DecidableEq, Repr

/-- A capture channel (section 8.1). -/
structure CaptureChannel where
  state : CaptureState
  base : Nat
  count : Nat
  mode : CaptureMode
  current : Nat
  written : Nat
  halfNotified : Bool
  passCount : U32
  bus : Option Bus
  event : Option EventIx
  status : EventStatus
  startFrame : Option Byte
deriving DecidableEq, Repr

/-- The capture memory: (address, record) pairs in one canonical form (`Memory.wf` in Machine/Ops.lean). -/
abbrev Memory := List (Nat × CaptureRecord)

/-- The Capture Unit. -/
structure Capture where
  channels : Vector CaptureChannel 8
  memory : Memory
deriving DecidableEq, Repr

/-! ## Reports, responses and requests (10.3, 10.5) -/

/-- The cause of a BUS-STATE or STORE-STATE report (R22, R109). -/
inductive ReportCause where
  | frame
  | expiry
  | management
deriving DecidableEq, Repr

/-- The fields CAPTURE-HALF and CAPTURE-END share (R153). -/
structure CaptureNotice where
  channel : CaptureIx
  event : Option EventIx
  bus : Option Bus
  base : Nat
  count : Nat
  passCount : U32
  address : Nat
  written : Nat
deriving DecidableEq, Repr

/-- The report bodies: EVENT-CLOSED (R45), BUS-STATE (R22), STACK-FAULT (R140), CAPTURE-HALF and CAPTURE-END (R153,
R154), SHORTFALL (R110), STORE-STATE (R109). -/
inductive Report where
  | eventClosed (index : EventIx) (event : Event)
  | busState (bus : Bus) (left entered : Detection) (cause : ReportCause) (timestamp : Option U32)
  | stackFault (stack : Station) (bus : Option Bus) (expired : Option Command) (flushed : Nat)
      (event : Option EventIx) (release : Option ReleaseIx)
  | captureHalf (notice : CaptureNotice)
  | captureEnd (notice : CaptureNotice) (goesTo : CaptureState)
  | shortfall (timestamp : U32) (voltage budget total fromEvents fromReleases events toCut releases : Nat)
  | storeState (left entered : StoreState) (cause : ReportCause) (budget : Nat) (frame : Option (U32 × Nat))
deriving DecidableEq, Repr

/-- A report with its report number (R187). -/
structure NumberedReport where
  number : U16
  body : Report
deriving DecidableEq, Repr

/-- A management request: its header's sequence number (R163), its tag, its kind code and the bytes of its fields
(R183). -/
structure Request where
  header : Byte
  tag : Byte
  kind : Byte
  fields : List Byte
deriving DecidableEq, Repr

/-- The reasons of a refusal (R182). A RANGE reason names the field, by its place, and the value found. -/
inductive Reason where
  | range (place value : Nat)
  | conflict (bus : Option Bus)
  | bank
  | busy
  | state (bus : Option Bus)
  | unknown
deriving DecidableEq, Repr

/-- A snapshot's copy of a held Event Map entry (R185). -/
structure SnapshotEvent where
  index : EventIx
  bus : Bus
  state : EventState
  grant : Nat
  spent : Nat
deriving DecidableEq, Repr

/-- The metering snapshot (R185). -/
structure Snapshot where
  time : Nat
  budget : Nat
  free : Nat
  drawn : Nat
  events : List SnapshotEvent
  releases : List (ReleaseIx × Nat)
deriving DecidableEq, Repr

/-- The ring ports' counters (R171). -/
structure PortCounters where
  received : U32
  checkFailures : U32
  malformed : U32
  returned : U32
  unknownKind : U32
  foreignManagement : U32
  stray : U32
  requestOverflow : U32
  transitOverflow : U32
  driveSent : U32
  responsesSent : U32
  transitSent : U32
  reportsSent : U32
deriving DecidableEq, Repr

/-- READ EVENT's answer for a held entry (R48, R131). -/
structure EventAnswer where
  index : EventIx
  event : Event
  request : Option GrantRequest
  rate : Option Nat
deriving DecidableEq, Repr

/-- READ POOL's answer (R87, R108). -/
structure PoolAnswer where
  budget : Nat
  free : Nat
  drawn : Nat
  releaseSum : Nat
  storeState : StoreState
  requests : Nat
  releasesInUse : Nat
  waiting : Nat
  charger : Option Charger
  chargerFault : Bool
  staleStore : U32
  baseline : Option U32
deriving DecidableEq, Repr

/-- READ RELEASE's answer for a held entry (R108). -/
structure ReleaseAnswer where
  index : ReleaseIx
  release : Release
  ownerClass : Nat
deriving DecidableEq, Repr

/-- READ PORTS's answer (R171, R184). -/
structure PortsAnswer where
  counters : PortCounters
  sending : Bool
  drive : Nat
  responses : Nat
  transit : Nat
  reports : Nat
  dropped : U32
  nextNumber : U16
  requests : Nat
deriving DecidableEq, Repr

/-- The fields of a DONE response, by request. -/
inductive Answer where
  | nothing
  | identity (active : BankIx) (differing : Nat)
  | busRow (row : Option BusRow)
  | envelopeRow (row : Option EnvelopeRow)
  | storeRow (row : Option StoreParameters)
  | committed (deferred : List Bus)
  | bus (channel : BusChannel)
  | busAlarms (alarms : BusAlarms)
  | poolAlarms (chargerFault : Bool)
  | event (entry : Option EventAnswer)
  | pool (figures : PoolAnswer)
  | release (entry : Option ReleaseAnswer)
  | ports (figures : PortsAnswer)
  | latched (alreadyHeld : Bool)
  | snapshotPool (snapshot : Snapshot)
  | snapshotEvents (events : List SnapshotEvent)
  | records (records : List CaptureRecord)
  | captureChannel (channel : CaptureChannel)
  | restarted (force : Bool) (events : List (EventIx × Bus × EventOutcome)) (releases bypasses : Nat)
deriving DecidableEq, Repr

/-- The result of a request (R182). -/
inductive Result where
  | done (answer : Answer)
  | refused (reason : Reason)
deriving DecidableEq, Repr

/-- A MANAGEMENT-RESPONSE (R182): the request's tag and kind as received, and the result. -/
structure Response where
  tag : Byte
  kind : Byte
  result : Result
deriving DecidableEq, Repr

/-- The Management Unit's own state (R181, R185, R187). -/
structure Management where
  requests : List Request
  snapshot : Option Snapshot
  reportCounter : U16
  reportsDropped : U32
deriving DecidableEq, Repr

/-! ## The ring ports (9.4) -/

/-- The reference part of a DRIVE frame (R119). `nominal`, the nominal phase voltage of the event's copy, goes with the part
to the stack record (R120) and is not sent. -/
abbrev ReferencePart := EffectiveReference

/-- A DRIVE frame: a reference part, a command part, or both (R169). -/
structure DriveFrame where
  stack : Station
  reference : Option ReferencePart
  command : Option Command
deriving DecidableEq, Repr

/-- A frame of one of the four egress queues. -/
inductive EgressFrame where
  | drive (frame : DriveFrame)
  | response (response : Response)
  | transit (bytes : List Byte)
  | report (report : NumberedReport)
deriving DecidableEq, Repr

/-- The frame in transmission and its bytes as they go out (R167). -/
structure Sending where
  frame : EgressFrame
  bytes : List Byte
deriving DecidableEq, Repr

/-- The ring ports (section 9.4): the port, absent when IDLE, the four queues, the egress sequence counters and the
port counters. -/
structure Ring where
  port : Option Sending
  drive : List DriveFrame
  responses : List Response
  transit : List (List Byte)
  reports : List NumberedReport
  egressSequence : Vector Byte 64
  counters : PortCounters
deriving DecidableEq, Repr

/-! ## What has been handed over and not yet taken -/

/-- The units that took a SENSE frame ahead of Bus Watch (R6). -/
structure TakenAhead where
  injection : Bool
  envelope : Bool
  capture : Bool
deriving DecidableEq, Repr

/-- A SENSE frame handed to Bus Watch, as sent, with its header (R163). -/
structure HandedSense where
  source : Nat
  sequence : Byte
  frame : SenseFrame
  taken : TakenAhead
deriving DecidableEq, Repr

/-- An accepted SENSE frame with its clamped values, its bus, and the bus's previous timestamp (R5, R122). -/
structure AcceptedFrame where
  bus : Bus
  head : Station
  sequence : Byte
  frame : SenseFrame
  previous : Option U32
deriving DecidableEq, Repr

/-- A STORE frame handed to the Allocator, with its header's source and sequence number (R162, R163). -/
structure HandedStore where
  source : Nat
  header : Byte
  timestamp : U32
  voltage : Nat
  charger : Charger
deriving DecidableEq, Repr

/-- A STACK-STATUS frame handed to the Stack Command Channel, with its header's source and sequence number (R162,
R163); `sequence` is the command sequence its body reports. -/
structure HandedStatus where
  source : Nat
  header : Byte
  state : StackState
  sequence : Seq
  derate : Nat
deriving DecidableEq, Repr

/-- The channel's notice of a status frame (R136 step 4): what the frame reported, the last acknowledged sequence
after it, and whether it emptied the fault set. -/
structure Notice where
  stack : Station
  state : StackState
  reported : Seq
  acknowledged : Option Seq
  recovered : Bool
deriving DecidableEq, Repr

/-- A TOPUP request brought to the Allocator (R73); the open order tells the event from a later one of its index. -/
structure BroughtTopup where
  event : EventIx
  openOrder : U32
deriving DecidableEq, Repr

/-- Everything handed over and not yet taken, oldest first. -/
structure Handed where
  sense : List HandedSense
  injection : List AcceptedFrame
  envelope : List AcceptedFrame
  capture : List AcceptedFrame
  store : List HandedStore
  status : List HandedStatus
  topups : List BroughtTopup
  notices : List Notice
deriving DecidableEq, Repr

/-! ## The whole -/

/-- The state of the part. -/
structure State where
  /-- The dispatcher's time base, in µs. -/
  now : Nat
  /-- The commands that are waiting, first in, first out. -/
  pending : List Instr
  channels : Vector BusChannel 24
  events : EventMap
  pool : Pool
  injection : Injection
  views : Vector StackView 62
  capture : Capture
  ring : Ring
  banks : Banks
  management : Management
  handed : Handed
deriving DecidableEq, Repr

/-- The part's commands never fault: the manual stops the machine nowhere, so there is no fault to name. -/
inductive Fault where
deriving DecidableEq, Repr

/-- Why a command has no meaning. -/
inductive Refusal where
  /-- Raised only by an arm of `exec` whose command has not been given its meaning; safe (the model stops). No arm
  raises it now. -/
  | notModelled (mnemonic : String)
deriving DecidableEq, Repr

/-! ## Power-on values -/

/-- No alarm (R1). -/
def BusAlarms.empty : BusAlarms := ⟨false, false, false, false, false, false, false⟩

/-- No mark. -/
def Marks.empty : Marks := ⟨false, false, false, false, false, false, false, false⟩

/-- No reason. -/
def HeldReasons.empty : HeldReasons := ⟨false, false, false⟩

/-- A bus channel after power-on (R1). -/
def BusChannel.reset : BusChannel where
  detection := .outOfService
  runCount := 0
  suspectStart := none
  suspectLowest := none
  openEvent := none
  untracked := false
  baseline := none
  silence := none
  bankInUse := 0
  alarms := .empty
  counters := ⟨0, 0, 0, 0, 0, 0, 0, 0⟩

/-- The Event Map after power-on (R28). -/
def EventMap.reset : EventMap where
  entries := Vector.replicate 32 none
  openCounter := 0
  closeCounter := 0
  waitCounter := 0

/-- The Energy Allocator after power-on (R65, R89, R102, R106, R107). -/
def Pool.reset : Pool where
  budget := 0
  free := 0
  drawn := 0
  grantQueue := []
  releases := Vector.replicate 16 none
  creationCounter := 0
  storeState := .unconfigured
  inEffect := none
  storeSilence := none
  storeBaseline := none
  charger := none
  chargerFault := false
  staleStore := 0
  passDue := false

/-- The Injection Unit after power-on (R111). -/
def Injection.reset : Injection where
  records := Vector.replicate 62 ⟨none, none, none⟩
  rates := Vector.replicate 32 none

/-- A stack view after power-on (R132). -/
def StackView.reset : StackView where
  reported := .standby
  tripped := false
  unresponsive := false
  derate := 0
  lastReported := none
  lastAcknowledged := none
  nextSequence := 0
  outstanding := []
  unsent := none

/-- A capture channel after power-on (R145). -/
def CaptureChannel.reset : CaptureChannel where
  state := .masked
  base := 0
  count := 0
  mode := .single
  current := 0
  written := 0
  halfNotified := false
  passCount := 0
  bus := none
  event := none
  status := .freed
  startFrame := none

/-- The ring ports after power-on (R171). -/
def Ring.reset : Ring where
  port := none
  drive := []
  responses := []
  transit := []
  reports := []
  egressSequence := Vector.replicate 64 0
  counters := ⟨0, 0, 0, 0, 0, 0, 0, 0, 0, 0, 0, 0, 0⟩

/-- A bank with every row and set invalid (R49, R173). -/
def Bank.reset : Bank where
  busRows := Vector.replicate 24 none
  envelopes := Vector.replicate 16 none
  store := none

/-- Nothing handed over. -/
def Handed.empty : Handed := ⟨[], [], [], [], [], [], [], []⟩

/-- The part right after power-on, with no command waiting; the time base starts at 0 (DESIGN CHOICE, entry 1). -/
def State.reset : State where
  now := 0
  pending := []
  channels := Vector.replicate 24 .reset
  events := .reset
  pool := .reset
  injection := .reset
  views := Vector.replicate 62 .reset
  capture := ⟨Vector.replicate 8 .reset, []⟩
  ring := .reset
  banks := ⟨Vector.replicate 2 .reset, 0⟩
  management := ⟨[], none, 0, 0⟩
  handed := .empty

end Sys2Proof.Machine
end

