-- ==== Sys2Proof/Machine/Arith.lean ====
section
/-! DEFINITION. The integer arithmetic of the manual (00_scope.md, "Arithmetic"): integer square root, division
truncated toward zero, clamping, squares of vectors, head-time differences, and the energy above the store's floor. -/

namespace Sys2Proof.Machine

/-- The bits of the integer square root of `n` from bit `k - 1` down, `r` holding those above. -/
def isqrtBits : Nat → Nat → Nat → Nat
  | 0, _, r => r
  | k + 1, n, r => isqrtBits k n (if (r + 2 ^ k) * (r + 2 ^ k) ≤ n then r + 2 ^ k else r)

/-- The floor of the square root of `n`. -/
def isqrt (n : Nat) : Nat := isqrtBits (n.log2 / 2 + 1) n 0

/-- `x` raised to `low` if below it and lowered to `high` if above it. -/
def clampInt (x low high : Int) : Int := if x < low then low else if high < x then high else x

/-- An energy in J, clamped to 32 bits (00_scope.md, "Units"). -/
def clampJoules (n : Nat) : Nat := min n Config.maxJoules

/-- d² + q² of a vector. -/
def Phasor.square (p : Phasor) : Nat := (p.d * p.d + p.q * p.q).toNat

/-- The magnitude of a vector in per-mille. -/
def Phasor.magnitude (p : Phasor) : Nat := isqrt p.square

/-- The sum of two vectors. -/
def Phasor.add (p r : Phasor) : Phasor := ⟨p.d + r.d, p.q + r.q⟩

/-- Each component times `num` divided by `den`, truncated toward zero. -/
def Phasor.scale (p : Phasor) (num den : Nat) : Phasor :=
  ⟨(p.d * num).tdiv den, (p.q * num).tdiv den⟩

/-- A function of a vector applied to each phase. -/
def ThreePhase.map (f : Phasor → Phasor) (v : ThreePhase) : ThreePhase := ⟨f v.a, f v.b, f v.c⟩

/-- The phase sums of two triples of vectors. -/
def ThreePhase.add (v w : ThreePhase) : ThreePhase := ⟨v.a.add w.a, v.b.add w.b, v.c.add w.c⟩

/-- The smallest d² + q² of the three phases (R3: m_min²). -/
def ThreePhase.minSquare (v : ThreePhase) : Nat := min v.a.square (min v.b.square v.c.square)

/-- The largest d² + q² of the three phases (R3: m_max²). -/
def ThreePhase.maxSquare (v : ThreePhase) : Nat := max v.a.square (max v.b.square v.c.square)

/-- A component as Bus Watch takes it: −2,000 to 2,000 per-mille (R3). -/
def clampPhasor (p : Phasor) : Phasor := ⟨clampInt p.d (-2000) 2000, clampInt p.q (-2000) 2000⟩

/-- A frame's quantities as Bus Watch takes them (R3). -/
def SenseFrame.clamped (f : SenseFrame) : SenseFrame :=
  { f with
    volts := f.volts.map clampPhasor
    amps := ⟨min f.amps.a 4000, min f.amps.b 4000, min f.amps.c 4000⟩ }

/-- Whether a current of the three is above `limit` (R7, R15). -/
def Currents.anyAbove (c : Currents) (limit : Nat) : Bool :=
  decide (limit < c.a ∨ limit < c.b ∨ limit < c.c)

/-- The difference of two head timestamps in µs, modulo 2³² (00_scope.md, "Units"). -/
def elapsedMicros (later earlier : U32) : Nat := (later - earlier).toNat

/-- The elapsed time in ms, truncated (R14, R53). -/
def elapsedMillis (later earlier : U32) : Nat := elapsedMicros later earlier / 1000

/-- Whether a timestamp is older than the baseline: their forward difference is above 2³¹ (R4, R102). -/
def isStale (timestamp baseline : U32) : Bool := decide (2147483648 < elapsedMicros timestamp baseline)

/-- The power sum over the phases of |reference| × V × I, in ‰·V·A (R72, R122). -/
def injectedPower (reference : ThreePhase) (nominal : Nat) (amps : Currents) : Nat :=
  reference.a.magnitude * nominal * amps.a + reference.b.magnitude * nominal * amps.b
    + reference.c.magnitude * nominal * amps.c

/-- The budget B of R66 for a store voltage in dV. -/
def storeBudget (p : StoreParameters) (voltage : Nat) : Nat :=
  let above := if voltage ≤ p.floorVoltage then 0
    else p.capacitance * (voltage * voltage - p.floorVoltage * p.floorVoltage) / 2000
  clampJoules (above - p.reserve)

end Sys2Proof.Machine
end

