-- ==== Sys2Proof/Machine/Flags.lean ====
section
/-! DEFINITION. The manual's sets of indications (sticky alarms, marks, held reasons, fault sets) and the outcome
rule: how a member is added, when a set is empty, and the byte mask a set is sent as (R183: the first member
listed stands for bit 0). -/

namespace Sys2Proof.Machine

/-- The sticky alarms of a bus (R24), in the order of its list in section 1.1. -/
inductive BusAlarm where
  | gap
  | swell
  | mapFull
  | breach
  | stackFault
  | headDegraded
  | releaseWait
deriving DecidableEq, Repr

/-- An alarm added to the set; adding one already there changes nothing (R24). -/
def BusAlarms.add (s : BusAlarms) : BusAlarm → BusAlarms
  | .gap => { s with gap := true }
  | .swell => { s with swell := true }
  | .mapFull => { s with mapFull := true }
  | .breach => { s with breach := true }
  | .stackFault => { s with stackFault := true }
  | .headDegraded => { s with headDegraded := true }
  | .releaseWait => { s with releaseWait := true }

/-- The marks of an event (R39). -/
inductive Mark where
  | breach
  | sat
  | topupDenied
  | truncated
  | noCapture
  | silence
  | downstream
  | stackFault
deriving DecidableEq, Repr

/-- A mark added to the set; a mark already there is not added twice (R39). -/
def Marks.add (s : Marks) : Mark → Marks
  | .breach => { s with breach := true }
  | .sat => { s with sat := true }
  | .topupDenied => { s with topupDenied := true }
  | .truncated => { s with truncated := true }
  | .noCapture => { s with noCapture := true }
  | .silence => { s with silence := true }
  | .downstream => { s with downstream := true }
  | .stackFault => { s with stackFault := true }

/-- Whether no reason holds the event (R35). -/
def HeldReasons.isEmpty (r : HeldReasons) : Bool := !(r.borrow || r.stack || r.store)

/-- A stack is faulted when its fault set is not empty (R132). -/
def StackView.faulted (v : StackView) : Bool := v.tripped || v.unresponsive

/-- The byte whose bit n is the n-th member (R183). -/
def maskByte : List Bool → Nat
  | [] => 0
  | b :: rest => (if b then 1 else 0) + 2 * maskByte rest

/-- A bus's alarms as a byte. -/
def BusAlarms.mask (s : BusAlarms) : Nat :=
  maskByte [s.gap, s.swell, s.mapFull, s.breach, s.stackFault, s.headDegraded, s.releaseWait]

/-- An event's marks as a byte. -/
def Marks.mask (s : Marks) : Nat :=
  maskByte [s.breach, s.sat, s.topupDenied, s.truncated, s.noCapture, s.silence, s.downstream, s.stackFault]

/-- Held reasons as a byte. -/
def HeldReasons.mask (s : HeldReasons) : Nat := maskByte [s.borrow, s.stack, s.store]

/-- The outcome after a cause: the first cause sets it and none changes it (R38). -/
def firstOutcome (present : Option EventOutcome) (cause : EventOutcome) : Option EventOutcome :=
  match present with
  | some o => some o
  | none => some cause

end Sys2Proof.Machine
end

