-- ==== Sys2Proof/Machine/Ops.lean ====
section
/-! DEFINITION. The named operations over the state: one reader and one writer for each table the blocks keep, the
capture memory, the ordered lists, and the look-ups that several blocks make. -/

namespace Sys2Proof.Machine

/-! ## The capture memory -/

/-- The record an address reads as before anything is written there: kind NONE with every other field 0 (R145). -/
def CaptureRecord.empty : CaptureRecord :=
  ⟨.none, 0, 0, 0, ⟨0, ⟨⟨0, 0⟩, ⟨0, 0⟩, ⟨0, 0⟩⟩, ⟨0, 0, 0⟩, false⟩⟩

/-- The record at an address. -/
def Memory.read : Memory → Nat → CaptureRecord
  | [], _ => .empty
  | (k, r) :: rest, a => if k = a then r else Memory.read rest a

/-- The memory after a record is written at an address; the canonical form is kept. -/
def Memory.write : Memory → Nat → CaptureRecord → Memory
  | [], a, r => if r = .empty then [] else [(a, r)]
  | (k, v) :: rest, a, r =>
    if a < k then (if r = .empty then (k, v) :: rest else (a, r) :: (k, v) :: rest)
    else if a = k then (if r = .empty then rest else (a, r) :: rest)
    else (k, v) :: Memory.write rest a r

/-- Whether every listed address is at least `low` and below the number of records, the addresses rise, and no listed
record is the empty one. -/
def Memory.wfFrom : Nat → Memory → Bool
  | _, [] => true
  | low, (k, r) :: rest =>
    decide (low ≤ k) && decide (k < Config.captureRecords) && decide (r ≠ .empty) && Memory.wfFrom (k + 1) rest

/-- The canonical form of the capture memory. -/
def Memory.wf (m : Memory) : Bool := Memory.wfFrom 0 m

/-! ## Readers and writers -/

def State.channel (s : State) (b : Bus) : BusChannel := s.channels[b]

def State.setChannel (s : State) (b : Bus) (c : BusChannel) : State := { s with channels := s.channels.set b c }

def State.modChannel (s : State) (b : Bus) (f : BusChannel → BusChannel) : State := s.setChannel b (f (s.channel b))

/-- The Event Map entry at an index; absent when free. -/
def State.entry (s : State) (i : EventIx) : Option Event := s.events.entries[i]

def State.setEntry (s : State) (i : EventIx) (e : Option Event) : State :=
  { s with events.entries := s.events.entries.set i e }

/-- A change to the entry, when it is held. -/
def State.modEvent (s : State) (i : EventIx) (f : Event → Event) : State :=
  match s.entry i with
  | none => s
  | some e => s.setEntry i (some (f e))

/-- The Release Map entry at an index; absent when free. -/
def State.release (s : State) (r : ReleaseIx) : Option Release := s.pool.releases[r]

def State.setRelease (s : State) (r : ReleaseIx) (x : Option Release) : State :=
  { s with pool.releases := s.pool.releases.set r x }

def State.modRelease (s : State) (r : ReleaseIx) (f : Release → Release) : State :=
  match s.release r with
  | none => s
  | some x => s.setRelease r (some (f x))

def State.view (s : State) (k : Station) : StackView := s.views[k]

def State.setView (s : State) (k : Station) (v : StackView) : State := { s with views := s.views.set k v }

def State.modView (s : State) (k : Station) (f : StackView → StackView) : State := s.setView k (f (s.view k))

def State.record (s : State) (k : Station) : StackRecord := s.injection.records[k]

def State.setRecord (s : State) (k : Station) (x : StackRecord) : State :=
  { s with injection.records := s.injection.records.set k x }

def State.modRecord (s : State) (k : Station) (f : StackRecord → StackRecord) : State :=
  s.setRecord k (f (s.record k))

/-- The metering rate of an event index (R111). -/
def State.rate (s : State) (i : EventIx) : Option Nat := s.injection.rates[i]

def State.setRate (s : State) (i : EventIx) (x : Option Nat) : State :=
  { s with injection.rates := s.injection.rates.set i x }

def State.recorder (s : State) (k : CaptureIx) : CaptureChannel := s.capture.channels[k]

def State.setRecorder (s : State) (k : CaptureIx) (c : CaptureChannel) : State :=
  { s with capture.channels := s.capture.channels.set k c }

def State.modRecorder (s : State) (k : CaptureIx) (f : CaptureChannel → CaptureChannel) : State :=
  s.setRecorder k (f (s.recorder k))

/-- The other bank. -/
def BankIx.other (b : BankIx) : BankIx := if b = 0 then 1 else 0

def State.bank (s : State) (b : BankIx) : Bank := s.banks.bank[b]

/-- The active bank (R173). -/
def State.activeBank (s : State) : Bank := s.bank s.banks.active

/-- The standby bank's number (R173). -/
def State.standbyIx (s : State) : BankIx := BankIx.other s.banks.active

/-- The standby bank (R173). -/
def State.standbyBank (s : State) : Bank := s.bank s.standbyIx

def State.setStandby (s : State) (b : Bank) : State :=
  { s with banks.bank := s.banks.bank.set s.standbyIx b }

/-- The bus's row: that of the bank named by its bank-in-use (section 1.1); absent when invalid. -/
def State.row (s : State) (b : Bus) : Option BusRow := (s.bank (s.channel b).bankInUse).busRows[b]

def State.countPort (s : State) (f : PortCounters → PortCounters) : State :=
  { s with ring.counters := f s.ring.counters }

def State.countBus (s : State) (b : Bus) (f : BusCounters → BusCounters) : State :=
  s.modChannel b fun c => { c with counters := f c.counters }

/-- An alarm added to a bus's sticky alarms (R24). -/
def State.addAlarm (s : State) (b : Bus) (a : BusAlarm) : State :=
  s.modChannel b fun c => { c with alarms := c.alarms.add a }

/-- A mark added to an event's marks, in whatever state it is held (R39). -/
def State.addMark (s : State) (i : EventIx) (m : Mark) : State :=
  s.modEvent i fun e => { e with marks := e.marks.add m }

/-- A function applied to every member of a table. -/
def eachMember {α : Type} {n : Nat} (f : α → α) (v : Vector α n) : Vector α n := Vector.ofFn fun i => f v[i]

/-! ## Ordered lists -/

/-- `x` placed before the first member of a larger key. -/
def insertByKey {α : Type} (key : α → Nat) (x : α) : List α → List α
  | [] => [x]
  | y :: rest => if key x < key y then x :: y :: rest else y :: insertByKey key x rest

/-- The list in rising order of a key, members of one key as they stood. -/
def sortByKey {α : Type} (key : α → Nat) (l : List α) : List α := l.foldl (fun sorted x => insertByKey key x sorted) []

/-- How far an order lies behind its map's counter: 1 for the newest (R28, R89: orders are compared modulo 2³²). -/
def orderAge (counter order : U32) : Nat := (counter - order).toNat

/-- A key by which class 3 comes first, and within a class the newest order first (R80, R104, R105). -/
def leastCriticalKey (cls : Nat) (age : Nat) : Nat := (3 - cls) * 4294967296 + age

/-- A key by which the oldest order comes first. -/
def oldestKey (counter order : U32) : Nat := 4294967296 - orderAge counter order

/-- Every bus, event, release, capture channel and station, in rising order. -/
def allBuses : List Bus := List.finRange 24
def allEvents : List EventIx := List.finRange 32
def allReleases : List ReleaseIx := List.finRange 16
def allRecorders : List CaptureIx := List.finRange 8
def allStations : List Station := List.finRange 62

/-! ## Look-ups -/

/-- The unspent energy of an event: its grant less its accounted spent (section 2.1). -/
def Event.unspent (e : Event) : Nat := e.grant - e.spent

/-- The lowest-index free Event Map entry (R29). -/
def State.freeEntry (s : State) : Option EventIx := allEvents.find? fun i => (s.entry i).isNone

/-- The lowest-index free Release Map entry (R90). -/
def State.freeRelease (s : State) : Option ReleaseIx := allReleases.find? fun r => (s.release r).isNone

/-- The release a stack owns; a stack has at most one (R90). -/
def State.releaseOf (s : State) (k : Station) : Option ReleaseIx :=
  allReleases.find? fun r => match s.release r with
    | some x => decide (x.stack = k)
    | none => false

/-- The events satisfying a test, in rising index. -/
def State.eventsWhere (s : State) (p : Event → Bool) : List EventIx :=
  allEvents.filter fun i => match s.entry i with
    | some e => p e
    | none => false

/-- The stack's bus (R132): the bus whose row in its own bank-in-use names the stack; else the stack record's bound
bus; else none. -/
def State.busOfStack (s : State) (k : Station) : Option Bus :=
  match allBuses.find? (fun b => match s.row b with | some r => decide (r.stack = k) | none => false) with
  | some b => some b
  | none => (s.record k).boundBus

/-- The event's entry in the Grant Queue: its pending request (R74). -/
def State.requestOf (s : State) (i : EventIx) : Option GrantRequest :=
  s.pool.grantQueue.find? fun r => decide (r.event = i)

/-- The owner class of a release (R89): the class in its originating event's copy while that event is held, else 3. -/
def State.ownerClass (s : State) (x : Release) : Nat :=
  match x.origin with
  | none => 3
  | some i => match s.entry i with
    | some e => e.copy.cls
    | none => 3

/-- The available amount of a release: its amount less the sum of its claims, or 0 (R77, R89). -/
def Release.available (x : Release) : Nat := x.amount - (x.claims.map (·.amount)).sum

end Sys2Proof.Machine
end

