-- ==== Sys2Proof/Machine/Operands.lean ====
section
/-! DEFINITION. Reading what arrives: the byte layouts of R172 and R162, the check sequence of R159, and the field
checks of the management requests (R50, R146, R156, R175, R177, R178, R182, R183). -/

namespace Sys2Proof.Machine

/-! ## Bytes -/

/-- The byte at a position, as a number. -/
def byteAt (l : List Byte) (i : Nat) : Nat := (l.getD i 0).toNat

/-- Two bytes, low-order first (R172). -/
def wordAt (l : List Byte) (i : Nat) : Nat := byteAt l i + 256 * byteAt l (i + 1)

/-- Four bytes, low-order first (R172). -/
def longAt (l : List Byte) (i : Nat) : Nat := wordAt l i + 65536 * wordAt l (i + 2)

/-- Two bytes in two's complement (R172). -/
def signedAt (l : List Byte) (i : Nat) : Int := (BitVec.ofNat 16 (wordAt l i)).toInt

/-! ## The check sequence (R159) -/

/-- `n` bits of the remainder's shift, the byte's bits already entered at its top. -/
def crcBits : Nat → BitVec 16 → BitVec 16
  | 0, r => r
  | n + 1, r => crcBits n (if r.msb then (r <<< 1) ^^^ 0x1021#16 else r <<< 1)

/-- One byte entered into the remainder, most significant bit first. -/
def crcByte (r : BitVec 16) (b : Byte) : BitVec 16 := crcBits 8 (r ^^^ (b.setWidth 16 <<< 8))

/-- The check sequence over header and body: x¹⁶ + x¹² + x⁵ + 1 from all ones. -/
def checkSequence (bytes : List Byte) : BitVec 16 := bytes.foldl crcByte 0xFFFF#16

/-- The check sequence as it is sent, low-order byte first. -/
def checkBytes (bytes : List Byte) : List Byte :=
  let c := checkSequence bytes
  [c.setWidth 8, (c >>> 8).setWidth 8]

/-! ## Bodies -/

/-- A phase's vector at a position of a SENSE body. -/
def phasorAt (l : List Byte) (i : Nat) : Phasor := ⟨signedAt l i, signedAt l (i + 2)⟩

/-- A SENSE body of 23 bytes (R172). -/
def decodeSense (body : List Byte) : SenseFrame where
  timestamp := BitVec.ofNat 32 (longAt body 0)
  volts := ⟨phasorAt body 4, phasorAt body 10, phasorAt body 16⟩
  amps := ⟨wordAt body 8, wordAt body 14, wordAt body 20⟩
  degraded := byteAt body 22 % 2 = 1

/-- The charger state of a code (R162). -/
def chargerOf? : Nat → Option Charger
  | 0 => some .charging
  | 1 => some .idle
  | 2 => some .fault
  | _ => none

/-- The stack state of a code (R162). -/
def stackStateOf? : Nat → Option StackState
  | 0 => some .standby
  | 1 => some .injecting
  | 2 => some .bypassed
  | 3 => some .tripped
  | _ => none

/-- A STORE body under its header (R162); absent when malformed. -/
def decodeStore (source : Nat) (header : Byte) (body : List Byte) : Option HandedStore :=
  if body.length = 7 then
    (chargerOf? (byteAt body 6)).map fun c => ⟨source, header, BitVec.ofNat 32 (longAt body 0), wordAt body 4, c⟩
  else none

/-- A STACK-STATUS body under its header (R162); absent when malformed. -/
def decodeStatus (source : Nat) (header : Byte) (body : List Byte) : Option HandedStatus :=
  if body.length = 3 ∧ byteAt body 1 ≤ 15 ∧ byteAt body 2 ≤ 3 then
    (stackStateOf? (byteAt body 0)).map fun st => ⟨source, header, st, BitVec.ofNat 4 (byteAt body 1), byteAt body 2⟩
  else none

/-! ## Management requests -/

/-- The rows of the opcode table that take a management request. -/
inductive RequestRow where
  | readIdentity
  | loadBusRow
  | loadEnvelopeRow
  | loadStoreParameters
  | readRow
  | commitBank
  | setServiceOff
  | setServiceOn
  | captureMask
  | captureUnmask
  | loadCaptureChannel
  | readBus
  | takeAlarmsBus
  | takeAlarmsPool
  | readEvent
  | readPool
  | readRelease
  | readPorts
  | latchMetering
  | readSnapshot
  | readCaptureRecords
  | readCaptureChannel
  | restart
  | unknownRequest
deriving DecidableEq, Repr

/-- The row a request belongs to: by its kind code (R183), and for the kinds the table splits by the field that
splits them. -/
def Request.row (r : Request) : RequestRow :=
  match r.kind.toNat with
  | 1 => .readIdentity
  | 2 => .loadBusRow
  | 3 => .loadEnvelopeRow
  | 4 => .loadStoreParameters
  | 5 => .readRow
  | 6 => .commitBank
  | 7 => if byteAt r.fields 1 = 1 then .setServiceOn else .setServiceOff
  | 8 => if byteAt r.fields 1 = 1 then .captureMask else .captureUnmask
  | 9 => .loadCaptureChannel
  | 10 => .readBus
  | 11 => if byteAt r.fields 0 = 255 then .takeAlarmsPool else .takeAlarmsBus
  | 12 => .readEvent
  | 13 => .readPool
  | 14 => .readRelease
  | 15 => .readPorts
  | 16 => .latchMetering
  | 17 => .readSnapshot
  | 18 => if byteAt r.fields 0 = 0 then .readCaptureChannel else .readCaptureRecords
  | 19 => .restart
  | _ => .unknownRequest

/-- The place by which a RANGE refusal names the body length; fields are numbered from 0 in the order carried
(DESIGN CHOICE, entry 7). -/
def bodyLengthPlace : Nat := 255

/-- RANGE naming the body length unless the fields are `expected` bytes long (R182). -/
def checkLength (fields : List Byte) (expected : Nat) : Option Reason :=
  if fields.length = expected then none else some (.range bodyLengthPlace (fields.length + 2))

/-- RANGE naming a field unless its value lies in the range. -/
def checkRange (place value low high : Nat) : Option Reason :=
  if low ≤ value ∧ value ≤ high then none else some (.range place value)

/-- The first refusal of a list of checks in order. -/
def firstRefusal : List (Option Reason) → Option Reason
  | [] => none
  | none :: rest => firstRefusal rest
  | some r :: _ => some r

/-- The method of a code: its place in the list PRESAG, INPHASE (R183). -/
def methodOf (n : Nat) : Method := if n = 0 then .presag else .inphase

/-- The breach policy of a code: its place in the list HOLD, ABANDON (R183). -/
def policyOf (n : Nat) : BreachPolicy := if n = 0 then .hold else .abandon

/-- The capture mode of a code: its place in the list SINGLE, CONTINUOUS (R183). -/
def modeOf (n : Nat) : CaptureMode := if n = 0 then .single else .continuous

/-- The length a LOAD BUS ROW's fields must have by its valid indication (R183); none is wrong when the indication is
neither. -/
def busRowLength (fields : List Byte) : Option Reason :=
  match byteAt fields 1 with
  | 0 => checkLength fields 2
  | 1 => checkLength fields 29
  | _ => if fields.length < 2 then checkLength fields 2 else none

/-- The field checks of a LOAD BUS ROW with valid yes, in order (R175 step 3). -/
def busRowChecks (f : List Byte) : Option Reason :=
  firstRefusal
    [ checkRange 2 (byteAt f 2) 1 62, checkRange 3 (byteAt f 3) 1 62, checkRange 4 (wordAt f 4) 50 600,
      checkRange 5 (byteAt f 6) 0 3, checkRange 6 (byteAt f 7) 0 15, checkRange 7 (wordAt f 8) 500 980,
      checkRange 8 (wordAt f 10) (wordAt f 8 + 1) 995, checkRange 9 (wordAt f 12) 1050 1500,
      checkRange 10 (byteAt f 14) 1 16, checkRange 11 (byteAt f 15) 1 64, checkRange 12 (wordAt f 16) 500 20000,
      checkRange 13 (wordAt f 18) 1 4000, checkRange 14 (byteAt f 20) 0 1, checkRange 15 (byteAt f 21) 0 1,
      checkRange 16 (wordAt f 22) 100 600, checkRange 17 (longAt f 24) 1 4294967295,
      if byteAt f 28 = 255 then none else checkRange 18 (byteAt f 28) 0 7 ]

/-- The station at an address already checked to be 1 to 62. -/
def stationAt (a : Nat) : Station := Fin.ofNat 62 (a - 1)

/-- The row a LOAD BUS ROW carries. -/
def busRowOf (f : List Byte) : BusRow where
  head := stationAt (byteAt f 2)
  stack := stationAt (byteAt f 3)
  nominal := wordAt f 4
  cls := byteAt f 6
  envelope := Fin.ofNat 16 (byteAt f 7)
  sagThreshold := wordAt f 8
  recoveryThreshold := wordAt f 10
  swellThreshold := wordAt f 12
  confirmCount := byteAt f 14
  recoverCount := byteAt f 15
  silenceTimeout := wordAt f 16
  faultLimit := wordAt f 18
  method := methodOf (byteAt f 20)
  policy := policyOf (byteAt f 21)
  injectionLimit := wordAt f 22
  grantCap := longAt f 24
  capture := captureAt? (byteAt f 28)

/-- The `n` breakpoints from a position on. -/
def breakpointsAt (f : List Byte) (at_ : Nat) : Nat → List Breakpoint
  | 0 => []
  | n + 1 => ⟨wordAt f at_, wordAt f (at_ + 2)⟩ :: breakpointsAt f (at_ + 4) n

/-- The checks of a breakpoint list in order: each duration in range and above its predecessor's, then each floor in
range and not below its predecessor's (R50 step 3); `place` is the first breakpoint's duration's. -/
def breakpointChecks (place lowDuration lowFloor : Nat) : List Breakpoint → List (Option Reason)
  | [] => []
  | b :: rest =>
    checkRange place b.duration lowDuration 10000 :: checkRange (place + 1) b.floor lowFloor 1000
      :: breakpointChecks (place + 2) (b.duration + 1) b.floor rest

/-- The last breakpoint's floor. -/
def lastFloor (l : List Breakpoint) : Nat := match l.getLast? with
  | some b => b.floor
  | none => 0

/-- The duration of the last breakpoint: the protection horizon (section 3.1). -/
def lastDuration (l : List Breakpoint) : Nat := match l.getLast? with
  | some b => b.duration
  | none => 0

/-- The envelope row a LOAD ENVELOPE ROW carries (R183). -/
def envelopeRowOf (f : List Byte) : EnvelopeRow :=
  let n := byteAt f 1
  ⟨breakpointsAt f 2 n, wordAt f (2 + 4 * n), byteAt f (4 + 4 * n), byteAt f (5 + 4 * n)⟩

/-- The checks of a LOAD ENVELOPE ROW, in order (R50). -/
def envelopeRowChecks (f : List Byte) : Option Reason :=
  let n := byteAt f 1
  let e := envelopeRowOf f
  firstRefusal
    ([checkRange 0 (byteAt f 0) 0 15, checkRange 1 n 2 8] ++ breakpointChecks 2 1 0 e.breakpoints
      ++ [ checkRange (2 + 2 * n) e.continuousFloor (lastFloor e.breakpoints) 1000,
           checkRange (3 + 2 * n) e.margin 0 100, checkRange (4 + 2 * n) e.breachConfirm 1 8 ])

/-- The length a LOAD STORE PARAMETERS's fields must have by its valid indication (R183). -/
def storeLength (fields : List Byte) : Option Reason :=
  match byteAt fields 0 with
  | 0 => checkLength fields 1
  | 1 => checkLength fields 18
  | _ => if fields.length < 1 then checkLength fields 1 else none

/-- The checks of a LOAD STORE PARAMETERS with valid yes, in order (R177). -/
def storeChecks (f : List Byte) : Option Reason :=
  firstRefusal
    [ checkRange 1 (byteAt f 1) 1 62, checkRange 2 (wordAt f 2) 1 65535, checkRange 3 (wordAt f 4) 0 16000,
      checkRange 4 (longAt f 6) 0 4294967295, checkRange 5 (longAt f 10) 1000 100000,
      checkRange 6 (longAt f 14) 1 1000000 ]

/-- The set a LOAD STORE PARAMETERS carries. -/
def storeOf (f : List Byte) : StoreParameters where
  head := stationAt (byteAt f 1)
  capacitance := wordAt f 2
  floorVoltage := wordAt f 4
  reserve := longAt f 6
  silenceTimeout := longAt f 10
  minimumGrant := longAt f 14

end Sys2Proof.Machine
end

