-- ==== Sys2Proof/Machine/Encode.lean ====
section
/-! DEFINITION. Writing what leaves: the frame header, the DRIVE, MANAGEMENT-RESPONSE and REPORT bodies and the
check sequence (R159, R167, R172, R183). Where R183 leaves a code to its conventions the choice is in log entry 7. -/

namespace Sys2Proof.Machine

/-! ## The conventions of R183 -/

/-- One byte. -/
def put1 (n : Nat) : List Byte := [BitVec.ofNat 8 n]

/-- Two bytes, low-order first. -/
def put2 (n : Nat) : List Byte := put1 n ++ put1 (n / 256)

/-- Four bytes, low-order first. -/
def put4 (n : Nat) : List Byte := put2 n ++ put2 (n / 65536)

/-- Eight bytes, low-order first. -/
def put8 (n : Nat) : List Byte := put4 n ++ put4 (n / 4294967296)

/-- A signed ‰ component: two bytes, two's complement. -/
def putSigned (x : Int) : List Byte := put2 (BitVec.ofInt 16 x).toNat

/-- A two-way indication. -/
def putBool (b : Bool) : List Byte := put1 (if b then 1 else 0)

/-- An optional field: 1 and the value, or 0. -/
def putOption {α : Type} (f : α → List Byte) : Option α → List Byte
  | none => put1 0
  | some x => put1 1 ++ f x

/-- A list: the number of its members, then the members. -/
def putList {α : Type} (f : α → List Byte) (l : List α) : List Byte := put1 l.length ++ l.flatMap f

/-- A 32-bit value. -/
def putU32 (x : U32) : List Byte := put4 x.toNat

/-- A time of the dispatcher's time base. -/
def putTime (t : Nat) : List Byte := put4 t

/-- A capture channel, NONE coded 255. -/
def putCaptureChoice (c : Option CaptureIx) : List Byte :=
  match c with
  | none => put1 255
  | some k => put1 k.val

/-! ## Names by their place in their lists -/

def Detection.code : Detection → Nat
  | .normal => 0
  | .suspect => 1
  | .sag => 2
  | .recovering => 3
  | .faulted => 4
  | .silent => 5
  | .outOfService => 6

def EventState.code : EventState → Nat
  | .requesting => 0
  | .held => 1
  | .injecting => 2
  | .bypassed => 3
  | .closing => 4
  | .reporting => 5

def EventOutcome.code : EventOutcome → Nat
  | .unprotected => 0
  | .denied => 1
  | .exhausted => 2
  | .displaced => 3
  | .cut => 4
  | .abandoned => 5
  | .stackFault => 6
  | .downstreamFault => 7
  | .lostSight => 8
  | .withdrawn => 9
  | .breached => 10
  | .rideThrough => 11
  | .unaided => 12
  | .restarted => 13

def Method.code : Method → Nat
  | .presag => 0
  | .inphase => 1

/-- The start step of a method (R112). -/
def Method.startStep : Method → Nat
  | .presag => 0
  | .inphase => 1

def BreachPolicy.code : BreachPolicy → Nat
  | .hold => 0
  | .abandon => 1

def StackOrder.code : StackOrder → Nat
  | .none => 0
  | .inject => 1
  | .bypass => 2

def RequestKind.code : RequestKind → Nat
  | .first => 0
  | .topup => 1

def ReleaseState.code : ReleaseState → Nat
  | .pending => 0
  | .unresolved => 1

def StoreState.code : StoreState → Nat
  | .unconfigured => 0
  | .waiting => 1
  | .live => 2
  | .silent => 3

/-- R162's codes. -/
def Charger.code : Charger → Nat
  | .charging => 0
  | .idle => 1
  | .fault => 2

def CaptureState.code : CaptureState → Nat
  | .masked => 0
  | .idle => 1
  | .running => 2
  | .done => 3

def CaptureMode.code : CaptureMode → Nat
  | .single => 0
  | .continuous => 1

def EventStatus.code : EventStatus → Nat
  | .opened => 0
  | .ended => 1
  | .freed => 2

def RecordKind.code : RecordKind → Nat
  | .none => 0
  | .start => 1
  | .sample => 2

def ReportCause.code : ReportCause → Nat
  | .frame => 0
  | .expiry => 1
  | .management => 2

/-- R172's codes. -/
def CommandKind.code : CommandKind → Nat
  | .inject _ => 1
  | .bypass => 2
  | .release => 3

/-! ## Records and rows -/

def putPhasor (p : Phasor) : List Byte := putSigned p.d ++ putSigned p.q

def putThreePhase (v : ThreePhase) : List Byte := putPhasor v.a ++ putPhasor v.b ++ putPhasor v.c

def putStrike (x : Strike) : List Byte := put4 x.offset ++ put2 x.lowest

def putEnvelope (e : EnvelopeRow) : List Byte :=
  putList (fun b => put2 b.duration ++ put2 b.floor) e.breakpoints ++ put2 e.continuousFloor ++ put1 e.margin
    ++ put1 e.breachConfirm

def putBusRow (r : BusRow) : List Byte :=
  put1 r.head.address ++ put1 r.stack.address ++ put2 r.nominal ++ put1 r.cls ++ put1 r.envelope.val
    ++ put2 r.sagThreshold ++ put2 r.recoveryThreshold ++ put2 r.swellThreshold ++ put1 r.confirmCount
    ++ put1 r.recoverCount ++ put2 r.silenceTimeout ++ put2 r.faultLimit ++ put1 r.method.code ++ put1 r.policy.code
    ++ put2 r.injectionLimit ++ put4 r.grantCap ++ putCaptureChoice r.capture

def putStore (p : StoreParameters) : List Byte :=
  put1 p.head.address ++ put2 p.capacitance ++ put2 p.floorVoltage ++ put4 p.reserve ++ put4 p.silenceTimeout
    ++ put4 p.minimumGrant

def putOpenedUnder (c : OpenedUnder) : List Byte :=
  put1 c.stack.address ++ put1 c.head.address ++ put2 c.nominal ++ put1 c.cls ++ put1 c.method.code
    ++ put1 c.policy.code ++ put2 c.injectionLimit ++ put4 c.grantCap ++ putCaptureChoice c.capture
    ++ putEnvelope c.envelope

/-- A held entry, in the order of the table of section 2.1, then its unspent and its metering rate (R48, R131). -/
def putEvent (x : EventAnswer) : List Byte :=
  let e := x.event
  put1 x.index.val ++ put1 e.bus.val ++ putU32 e.openOrder ++ putU32 e.start ++ put1 e.state.code
    ++ putOpenedUnder e.copy ++ putList putStrike e.strikes ++ put1 e.strikeOverflow
    ++ put1 e.ladderStep ++ putOption put1 e.deepestStep ++ putOption putThreePhase e.lastReference
    ++ putU32 e.lastFrame ++ put1 e.stackOrder.code
    ++ put4 e.grant ++ put8 e.accumulator ++ put4 e.spent ++ put4 e.overdraw ++ put4 e.returned
    ++ putOption (fun q => put1 q.kind.code ++ put4 q.amount ++ putTime q.entered) x.request
    ++ put4 e.firstAmount ++ putList (fun c => put1 c.release.val ++ put4 c.amount) e.claims
    ++ put1 e.held.mask ++ putOption (fun w => putTime w.since) e.releaseWait ++ putBool e.releaseCreated
    ++ putOption put2 e.lowestResidual ++ put1 e.breachRun
    ++ putOption (fun o => put1 o.code) e.outcome ++ put1 e.marks.mask ++ putOption (fun k => put1 k.val) e.capture
    ++ putOption putU32 e.closeOrder ++ put4 e.unspent ++ putOption put8 x.rate

/-- A held release, in the order of the table of section 5.1, then its owner class and available amount (R108). -/
def putRelease (x : ReleaseAnswer) : List Byte :=
  let r := x.release
  put1 x.index.val ++ put1 r.state.code ++ put1 r.stack.address ++ put1 r.bus.val
    ++ putOption (fun i => put1 i.val) r.origin ++ putU32 r.creationOrder ++ put4 r.amount ++ put8 r.accumulator
    ++ put4 r.overdraw ++ put1 r.awaited.toNat ++ putList (fun c => put1 c.event.val ++ put4 c.amount) r.claims
    ++ put1 x.ownerClass ++ put4 r.available

def putBusCounters (c : BusCounters) : List Byte :=
  putU32 c.accepted ++ putU32 c.dips ++ putU32 c.eventsOpened ++ putU32 c.untrackedSags ++ putU32 c.duplicates
    ++ putU32 c.stale ++ putU32 c.ignored ++ putU32 c.swells

/-- READ BUS (R184). -/
def putChannel (c : BusChannel) : List Byte :=
  put1 c.detection.code ++ put1 c.runCount ++ putOption (fun i => put1 i.val) c.openEvent ++ putBool c.untracked
    ++ putOption putTime c.silence ++ put1 c.bankInUse.val ++ put1 c.alarms.mask ++ putBusCounters c.counters

def putPortCounters (c : PortCounters) : List Byte :=
  putU32 c.received ++ putU32 c.checkFailures ++ putU32 c.malformed ++ putU32 c.returned ++ putU32 c.unknownKind
    ++ putU32 c.foreignManagement ++ putU32 c.stray ++ putU32 c.requestOverflow ++ putU32 c.transitOverflow
    ++ putU32 c.driveSent ++ putU32 c.responsesSent ++ putU32 c.transitSent ++ putU32 c.reportsSent

def putCurrent (n : Nat) : List Byte := put2 n

/-- A capture record, in the order of the record table of section 8.1: d and q of each phase, then the three currents. -/
def putRecord (r : CaptureRecord) : List Byte :=
  let f := r.frame
  put1 r.kind.code ++ put1 r.event ++ put1 r.head ++ [r.sequence] ++ putU32 f.timestamp
    ++ putThreePhase f.volts ++ putCurrent f.amps.a ++ putCurrent f.amps.b ++ putCurrent f.amps.c
    ++ putBool f.degraded

/-- A capture channel (section 8.1, R157). -/
def putRecorder (c : CaptureChannel) : List Byte :=
  put1 c.state.code ++ put2 c.base ++ put2 c.count ++ put1 c.mode.code ++ put2 c.current ++ put2 c.written
    ++ putBool c.halfNotified ++ putU32 c.passCount ++ putOption (fun b => put1 b.val) c.bus
    ++ putOption (fun i => put1 i.val) c.event ++ put1 c.status.code ++ putOption (fun q => [q]) c.startFrame

def putSnapshotEvent (x : SnapshotEvent) : List Byte :=
  put1 x.index.val ++ put1 x.bus.val ++ put1 x.state.code ++ put4 x.grant ++ put4 x.spent

/-! ## Responses -/

/-- The fields of a DONE answer, in the order of the rule that specifies the request. READ PORTS sends the port's state as one
byte, 0 IDLE and 1 SENDING, without the frame in transmission (DESIGN CHOICE, log entry 38). -/
def Answer.bytes : Answer → List Byte
  | .nothing => []
  | .identity active differing =>
    put1 Config.vendorCode ++ put2 Config.partNumber ++ put1 Config.partRevision ++ put1 24
      ++ put1 Config.eventCapacity ++ put1 Config.releaseCapacity ++ put1 8 ++ put4 Config.captureRecords
      ++ put1 Config.driveCapacity ++ put1 Config.responseCapacity ++ put1 Config.transitCapacity
      ++ put1 Config.reportCapacity ++ put1 Config.requestCapacity ++ put1 active.val ++ put1 differing
  | .busRow row => putOption putBusRow row
  | .envelopeRow row => putOption putEnvelope row
  | .storeRow row => putOption putStore row
  | .committed deferred => putList (fun b => put1 b.val) deferred
  | .bus channel => putChannel channel
  | .busAlarms alarms => put1 alarms.mask
  | .poolAlarms fault => put1 (maskByte [fault])
  | .event entry => putOption putEvent entry
  | .pool x =>
    put4 x.budget ++ put4 x.free ++ put4 x.drawn ++ put4 x.releaseSum ++ put1 x.storeState.code ++ put1 x.requests
      ++ put1 x.releasesInUse ++ put1 x.waiting ++ putOption (fun c => put1 c.code) x.charger
      ++ put1 (maskByte [x.chargerFault]) ++ putU32 x.staleStore ++ putOption putU32 x.baseline
  | .release entry => putOption putRelease entry
  | .ports x =>
    putPortCounters x.counters ++ putBool x.sending ++ put1 x.drive ++ put1 x.responses ++ put1 x.transit
      ++ put1 x.reports ++ putU32 x.dropped ++ put2 x.nextNumber.toNat ++ put1 x.requests
  | .latched alreadyHeld => putBool alreadyHeld
  | .snapshotPool x =>
    putTime x.time ++ put4 x.budget ++ put4 x.free ++ put4 x.drawn
      ++ putList (fun r => put1 r.1.val ++ put4 r.2) x.releases
  | .snapshotEvents l => putList putSnapshotEvent l
  | .records l => putList putRecord l
  | .captureChannel c => putRecorder c
  | .restarted force events releases bypasses =>
    putBool force ++ putList (fun x => put1 x.1.val ++ put1 x.2.1.val ++ put1 x.2.2.code) events ++ put1 releases
      ++ put1 bypasses

/-- The reason of a refusal and what it names (R182, R183). -/
def Reason.bytes : Reason → List Byte
  | .range place value => put1 1 ++ put1 place ++ put4 value
  | .conflict bus => put1 2 ++ (match bus with | some b => put1 b.val | none => [])
  | .bank => put1 3
  | .busy => put1 4
  | .state bus => put1 5 ++ (match bus with | some b => put1 b.val | none => [])
  | .unknown => put1 6

/-- A MANAGEMENT-RESPONSE body (R183). -/
def Response.body (r : Response) : List Byte :=
  [r.tag, r.kind] ++ (match r.result with
    | .done answer => put1 0 ++ answer.bytes
    | .refused reason => put1 1 ++ reason.bytes)

/-! ## Reports -/

def putCaptureNotice (n : CaptureNotice) : List Byte :=
  put1 n.channel.val ++ putOption (fun i => put1 i.val) n.event ++ putOption (fun b => put1 b.val) n.bus
    ++ put2 n.base ++ put2 n.count ++ putU32 n.passCount ++ put2 n.address ++ put2 n.written

/-- The report kind's code (R183). -/
def Report.code : Report → Nat
  | .eventClosed .. => 1
  | .busState .. => 2
  | .stackFault .. => 3
  | .captureHalf .. => 4
  | .captureEnd .. => 5
  | .shortfall .. => 6
  | .storeState .. => 7

/-- The fields of a report, in the order of the rule that specifies it. -/
def Report.fields : Report → List Byte
  | .eventClosed i e =>
    put1 i.val ++ put1 e.bus.val ++ put1 e.copy.cls ++ putU32 e.start ++ putU32 e.lastFrame
      ++ put1 (match e.outcome with | some o => o.code | none => 0) ++ put1 e.marks.mask
      ++ putList putStrike e.strikes ++ put1 e.strikeOverflow
      ++ put1 e.copy.method.code ++ put1 e.copy.method.startStep ++ putOption put1 e.deepestStep
      ++ put4 e.firstAmount ++ put4 e.grant ++ put4 e.returned ++ put4 e.spent ++ put4 e.overdraw
      ++ putOption put2 e.lowestResidual ++ putBool e.releaseCreated ++ putOption (fun k => put1 k.val) e.capture
  | .busState b left entered cause t =>
    put1 b.val ++ put1 left.code ++ put1 entered.code ++ put1 cause.code ++ putOption putU32 t
  | .stackFault k b expired flushed event release =>
    put1 k.address ++ putOption (fun x => put1 x.val) b ++ put1 (if expired.isSome then 1 else 0)
      ++ putOption (fun c => put1 c.sequence.toNat) expired ++ putOption (fun c => put1 c.kind.code) expired
      ++ putOption (fun _ => put1 flushed) expired
      ++ putOption (fun i => put1 i.val) event ++ putOption (fun r => put1 r.val) release
  | .captureHalf n => putCaptureNotice n
  | .captureEnd n goesTo => putCaptureNotice n ++ put1 goesTo.code
  | .shortfall t v b total fromEvents fromReleases events toCut releases =>
    putU32 t ++ put2 v ++ put4 b ++ put4 total ++ put4 fromEvents ++ put4 fromReleases ++ put1 events ++ put1 toCut
      ++ put1 releases
  | .storeState left entered cause b frame =>
    put1 left.code ++ put1 entered.code ++ put1 cause.code ++ put4 b ++ putOption (fun x => putU32 x.1) frame
      ++ putOption (fun x => put2 x.2) frame

/-- A REPORT body (R183): kind, number, fields. -/
def NumberedReport.bytes (r : NumberedReport) : List Byte :=
  put1 r.body.code ++ put2 r.number.toNat ++ r.body.fields

/-! ## DRIVE bodies and whole frames -/

/-- A reference part (R172). -/
def putReference (r : ReferencePart) : List Byte := put1 r.event.val ++ put1 r.step ++ putThreePhase r.volts

/-- A command part (R172). -/
def putCommand (c : Command) : List Byte :=
  put1 c.sequence.toNat ++ put1 c.kind.code ++ put1 (match c.kind with | .inject i => i.val | _ => 0)

/-- A DRIVE body (R172). -/
def DriveFrame.body (f : DriveFrame) : List Byte :=
  put1 ((if f.reference.isSome then 1 else 0) + (if f.command.isSome then 2 else 0))
    ++ (match f.reference with | some r => putReference r | none => [])
    ++ (match f.command with | some c => putCommand c | none => [])

/-- The body-length byte; above 255 bytes the manual gives none (entry 2). -/
def lengthByte (n : Nat) : Byte := if n ≤ 255 then BitVec.ofNat 8 n else Config.longBodyLength n

/-- A frame the dispatcher originates (R167, R172): source 0, the header, the body, the check sequence. -/
def originate (destination kind : Nat) (sequence : Byte) (body : List Byte) : List Byte :=
  let head := put1 destination ++ put1 0 ++ put1 kind ++ [lengthByte body.length, sequence]
  head ++ body ++ checkBytes (head ++ body)

end Sys2Proof.Machine
end

