-- ==== Sys2Proof/Machine/Egress.lean ====
section
/-! DEFINITION. The Egress Arbiter and what it starts: the choice of the next frame (R166), the start of a frame with
its notices (R167), the freeing of an Event Map entry (R46), the report queue (R45, R187), the response and transit
queues (R164, R170), and the DRIVE queue's three changes (R169). -/

namespace Sys2Proof.Machine

/-! ## Freeing an entry -/

/-- The Capture Unit told that an entry is freed (R155). -/
def CaptureChannel.eventFreed (i : EventIx) (c : CaptureChannel) : CaptureChannel :=
  if c.event = some i ∧ c.status ≠ .freed then { c with status := .freed } else c

/-- The Capture Unit told that an event ended (R155). -/
def CaptureChannel.eventEnded (i : EventIx) (c : CaptureChannel) : CaptureChannel :=
  if c.event = some i ∧ c.status = .opened then { c with status := .ended } else c

/-- The drawing event absent where it is event `i` (R111). -/
def StackRecord.forget (i : EventIx) (x : StackRecord) : StackRecord :=
  if x.drawingEvent = some i then { x with drawingEvent := none } else x

/-- No drawing event is event `i` any longer (R111). -/
def State.forgetDrawing (s : State) (i : EventIx) : State :=
  { s with injection.records := eachMember (StackRecord.forget i) s.injection.records }

/-- The originating event absent where it is event `i` (R46). -/
def forgetOrigin (i : EventIx) (x : Option Release) : Option Release :=
  x.map fun r => if r.origin = some i then { r with origin := none } else r

/-- An entry freed (R46): the releases it made lose their originating event, the Capture Unit and the Injection Unit are
told (R111, R155). -/
def State.freeEvent (s : State) (i : EventIx) : State :=
  let s := { s with pool.releases := eachMember (forgetOrigin i) s.pool.releases }
  let s := { s with capture.channels := eachMember (CaptureChannel.eventFreed i) s.capture.channels }
  ((s.forgetDrawing i).setRate i none).setEntry i none

/-! ## EVENT-CLOSED reports -/

/-- A report put at the tail of the report queue under the next number (R187). -/
def State.appendReport (s : State) (body : Report) : State :=
  { s with
    ring.reports := s.ring.reports ++ [⟨s.management.reportCounter, body⟩]
    management.reportCounter := s.management.reportCounter + 1 }

/-- An entry's EVENT-CLOSED report queued and the entry freed (R45, R46). -/
def State.queueClosed (s : State) (i : EventIx) : State :=
  match s.entry i with
  | none => s
  | some e => (s.appendReport (.eventClosed i e)).freeEvent i

/-- The entry waiting in REPORTING with the oldest close order (R187). -/
def State.oldestReporting (s : State) : Option EventIx :=
  (sortByKey (fun i => match s.entry i with
      | some e => oldestKey s.events.closeCounter (e.closeOrder.getD 0)
      | none => 0)
    (s.eventsWhere fun e => e.state = .reporting)).head?

/-- A slot of the report queue has freed: a waiting REPORTING entry takes it first (R45, R167, R187). -/
def State.serveReporting (s : State) : State :=
  if s.ring.reports.length < Config.reportCapacity then
    match s.oldestReporting with
    | some i => s.queueClosed i
    | none => s
  else s

/-! ## Choosing and starting a frame -/

/-- The oldest frame of the first queue that holds one, in the order DRIVE, response, transit, report, and the ring
without it (R166). -/
def Ring.choose (r : Ring) : Option (EgressFrame × Ring) :=
  match r.drive with
  | f :: rest => some (.drive f, { r with drive := rest })
  | [] => match r.responses with
    | f :: rest => some (.response f, { r with responses := rest })
    | [] => match r.transit with
      | f :: rest => some (.transit f, { r with transit := rest })
      | [] => match r.reports with
        | f :: rest => some (.report f, { r with reports := rest })
        | [] => none

/-- The frame numbered by its destination's egress sequence counter, which is incremented, and put on the link (R167). -/
def Ring.number (r : Ring) (frame : EgressFrame) (destination : Fin 64) (kind : Nat) (body : List Byte) : Ring :=
  let n := r.egressSequence[destination]
  { r with
    egressSequence := r.egressSequence.set destination (n + 1)
    port := some ⟨frame, originate destination.val kind n body⟩ }

/-- The frame's bytes completed and put on the link (R167); a transit frame leaves as it arrived (R164). -/
def Ring.transmit (r : Ring) (frame : EgressFrame) : Ring :=
  match frame with
  | .drive f => r.number frame f.stack.node 4 f.body
  | .response x => r.number frame 63 6 x.body
  | .report x => r.number frame 63 7 x.bytes
  | .transit bytes => { r with port := some ⟨frame, bytes⟩ }

/-- The channel told that a DRIVE frame's command is on the link: it leaves the unsent slot and joins the outstanding
list (R135). -/
def StackView.commandStarted (v : StackView) (c : Command) : StackView :=
  { v with unsent := none, outstanding := v.outstanding ++ [⟨c, .inTransmission⟩] }

/-- The notices at a frame's start (R167). -/
def State.startNotices (s : State) (frame : EgressFrame) : State :=
  match frame with
  | .drive f => match f.command with
    | some c => s.modView f.stack fun v => v.commandStarted c
    | none => s
  | .report _ => s.serveReporting
  | .response _ => s
  | .transit _ => s

/-- When the port is IDLE and a queue holds a frame, the next frame starts (R166, R167). -/
def State.kick (s : State) : State :=
  match s.ring.port with
  | some _ => s
  | none => match s.ring.choose with
    | none => s
    | some (frame, rest) => { s with ring := rest.transmit frame }.startNotices frame

/-! ## Queues -/

/-- A report other than EVENT-CLOSED produced (R187): it takes a number, and is queued, or dropped and counted. -/
def State.report (s : State) (body : Report) : State :=
  if s.ring.reports.length < Config.reportCapacity then (s.appendReport body).kick
  else
    { s with
      management.reportCounter := s.management.reportCounter + 1
      management.reportsDropped := s.management.reportsDropped + 1 }

/-- A response at the tail of the response queue (R181). -/
def State.respond (s : State) (r : Response) : State :=
  { s with ring.responses := s.ring.responses ++ [r] }.kick

/-- A transit frame at the tail of the transit queue, or discarded and counted (R164). -/
def State.enqueueTransit (s : State) (bytes : List Byte) : State :=
  if s.ring.transit.length < Config.transitCapacity then
    { s with ring.transit := s.ring.transit ++ [bytes] }.kick
  else s.countPort fun c => { c with transitOverflow := c.transitOverflow + 1 }

/-- An event enters REPORTING (R44, R45): its drawing event goes (R111), and its report is queued at once when there is
room. -/
def State.enterReporting (s : State) (i : EventIx) : State :=
  let s := (s.modEvent i fun e => { e with state := .reporting }).forgetDrawing i
  if s.ring.reports.length < Config.reportCapacity then (s.queueClosed i).kick else s

/-! ## The DRIVE queue (R169) -/

/-- The stack's unsent frame changed in its place, or a new frame at the tail. -/
def placeInDrive (k : Station) (f : DriveFrame → DriveFrame) (fresh : DriveFrame) : List DriveFrame → List DriveFrame
  | [] => [fresh]
  | x :: rest => if x.stack = k then f x :: rest else x :: placeInDrive k f fresh rest

/-- A reference part placed (R119, R169). -/
def State.placeReference (s : State) (k : Station) (r : ReferencePart) : State :=
  { s with ring.drive :=
      placeInDrive k (fun x => { x with reference := some r }) ⟨k, some r, none⟩ s.ring.drive }.kick

/-- A command part placed (R134, R169). -/
def State.placeCommand (s : State) (k : Station) (c : Command) : State :=
  { s with ring.drive :=
      placeInDrive k (fun x => { x with command := some c }) ⟨k, none, some c⟩ s.ring.drive }.kick

/-- The command part of the stack's unsent frame taken out; a frame left with no part leaves the queue (R139, R169). -/
def takeOutOfDrive (k : Station) : List DriveFrame → List DriveFrame
  | [] => []
  | x :: rest =>
    if x.stack = k then
      (match x.reference with
        | some _ => { x with command := none } :: rest
        | none => rest)
    else x :: takeOutOfDrive k rest

/-- The command part taken out of the stack's unsent DRIVE frame (R139, R169). -/
def State.takeOutCommand (s : State) (k : Station) : State :=
  { s with ring.drive := takeOutOfDrive k s.ring.drive }

end Sys2Proof.Machine
end

