-- ==== Sys2Proof/Machine/Commands.lean ====
section
/-! DEFINITION. Queuing a command for a stack (R133, R134) and what follows for a release (R91). -/

namespace Sys2Proof.Machine

/-- The release made to await a sequence, where it is the stack's (R91). -/
def Release.awaitOn (k : Station) (q : Seq) (x : Release) : Release :=
  if x.stack = k then { x with awaited := q } else x

/-- The stack's release awaits the command of sequence `q` (R91). -/
def State.awaitOn (s : State) (k : Station) (q : Seq) : State :=
  { s with pool.releases := eachMember (Option.map (Release.awaitOn k q)) s.pool.releases }

/-- The sequence number the next command asked for takes: a superseded command's, or the next (R133). -/
def StackView.takenSequence (v : StackView) : Seq :=
  match v.unsent with
  | some c => c.sequence
  | none => v.nextSequence

/-- The view with the command in its unsent slot; the next sequence advances unless a command was superseded (R133). -/
def StackView.queued (v : StackView) (kind : CommandKind) : StackView :=
  { v with
    unsent := some ⟨v.takenSequence, kind⟩
    nextSequence := match v.unsent with
      | some _ => v.nextSequence
      | none => v.nextSequence + 1 }

/-- A command queued for a stack, whatever its view holds (R133), placed when the outstanding list has room (R134); the
stack's release awaits it (R91). -/
def State.queueCommand (s : State) (k : Station) (kind : CommandKind) : State :=
  let v := s.view k
  let s := (s.setView k (v.queued kind)).awaitOn k v.takenSequence
  if v.outstanding.length < Config.outstandingCapacity then s.placeCommand k ⟨v.takenSequence, kind⟩ else s

/-- A command held in the channel placed, now that the outstanding list has room (R134). -/
def State.placeHeld (s : State) (k : Station) : State :=
  match (s.view k).unsent with
  | some c => if (s.view k).outstanding.length < Config.outstandingCapacity then s.placeCommand k c else s
  | none => s

/-- The sequence of the last command queued to the stack, sent or unsent (R90). -/
def StackView.lastQueued (v : StackView) : Seq := v.nextSequence - 1

/-- Whether the stack is quiescent with the command of sequence `q` applied and acknowledged (R90, R96). -/
def StackView.quiescentAt (v : StackView) (q : Seq) : Bool :=
  decide (v.lastAcknowledged = some q ∧ v.lastReported = some q ∧ (v.reported = .standby ∨ v.reported = .bypassed))

end Sys2Proof.Machine
end

