-- ==== Sys2Proof/Machine/CaptureUnit.lean ====
section
/-! DEFINITION. The Capture Unit: attaching to an event, truncation, writing records, the half and end of a pass
(R148 to R155). -/

namespace Sys2Proof.Machine

/-- The address after `a` within its page (R151 step 2). -/
def nextAddress (a : Nat) : Nat :=
  if (a + 1) % Config.pageRecords = 0 then a / Config.pageRecords * Config.pageRecords else a + 1

/-- The fields of a CAPTURE-HALF or CAPTURE-END report (R153). -/
def CaptureChannel.notice (c : CaptureChannel) (k : CaptureIx) (address : Nat) : CaptureNotice :=
  ⟨k, c.event, c.bus, c.base, c.count, c.passCount, address, c.written⟩

/-- The half test after a write at `address` (R153): the mark is half the window's records, rounded up. -/
def State.halfTest (s : State) (k : CaptureIx) (address : Nat) : State :=
  let c := s.recorder k
  if c.halfNotified = false ∧ (c.count + 2) / 2 ≤ c.written then
    (s.setRecorder k { c with halfNotified := true }).report (.captureHalf (c.notice k address))
  else s

/-- The state a channel goes to at the end of a pass (R154). -/
def CaptureChannel.endState (c : CaptureChannel) : CaptureState :=
  match c.mode, c.status with
  | .continuous, .opened => .running
  | _, _ => .done

/-- The channel after a complete pass: a new pass from the base, or DONE (R154). -/
def CaptureChannel.afterPass (c : CaptureChannel) : CaptureChannel :=
  match c.mode, c.status with
  | .continuous, .opened =>
    { c with current := c.base, written := 0, halfNotified := false, passCount := c.passCount + 1 }
  | _, _ => { c with state := .done }

/-- The end test after a write at `address` (R154). -/
def State.endTest (s : State) (k : CaptureIx) (address : Nat) : State :=
  let c := s.recorder k
  if c.count + 1 ≤ c.written then
    (s.setRecorder k c.afterPass).report (.captureEnd (c.notice k address) c.endState)
  else s

/-- The record a channel writes for a frame: the frame's fields under the attached event's index (R149, R152). -/
def CaptureChannel.recordOf (c : CaptureChannel) (kind : RecordKind) (f : AcceptedFrame) : CaptureRecord :=
  ⟨kind, (match c.event with | some i => i.val | none => 0), f.head.address, f.sequence, f.frame⟩

/-- One record write of a channel, in the four steps of R151. -/
def State.writeRecord (s : State) (k : CaptureIx) (kind : RecordKind) (f : AcceptedFrame) : State :=
  let c := s.recorder k
  let s := { s with capture.memory := Memory.write s.capture.memory c.current (c.recordOf kind f) }
  let s := s.setRecorder k { c with current := nextAddress c.current, written := c.written + 1 }
  (s.halfTest k c.current).endTest k c.current

/-- A RUNNING channel's pass ended early: the attached event gains TRUNCATED unless its entry is freed (R150). -/
def State.truncatePass (s : State) (k : CaptureIx) : State :=
  match (s.recorder k).event with
  | some i => if (s.recorder k).status = .freed then s else s.addMark i .truncated
  | none => s

/-- A channel attaches to an event and writes its START record (R149). -/
def State.attachRecorder (s : State) (k : CaptureIx) (i : EventIx) (f : AcceptedFrame) : State :=
  let s := s.modRecorder k fun c =>
    { c with
      state := .running, bus := some f.bus, event := some i, status := .opened
      current := c.base, written := 0, halfNotified := false, passCount := 1 }
  let s := s.modEvent i fun e => { e with capture := some k }
  (s.writeRecord k .start f).modRecorder k fun c => { c with startFrame := some f.sequence }

/-- One channel takes an accepted frame of its attached bus: a SAMPLE record unless it is the start frame; the start
frame becomes absent (R152). -/
def State.sampleOn (s : State) (f : AcceptedFrame) (k : CaptureIx) : State :=
  let c := s.recorder k
  if c.bus = some f.bus then
    let s := if c.state = .running ∧ c.startFrame ≠ some f.sequence then s.writeRecord k .sample f else s
    s.modRecorder k fun c => { c with startFrame := none }
  else s

/-- The Capture Unit takes an accepted frame (R152). Channels attached to one bus take it in rising channel number
(DESIGN CHOICE, log entry 35). -/
def State.captureTakes (s : State) (f : AcceptedFrame) : State :=
  allRecorders.foldl (fun s k => s.sampleOn f k) s

/-- The accepted frames of a bus that still wait for the Capture Unit taken, oldest first. -/
def State.captureCaughtUp (s : State) (b : Bus) : State :=
  (s.handed.capture.filter fun f => decide (f.bus = b)).foldl State.captureTakes
    { s with handed.capture := s.handed.capture.filter fun f => decide (f.bus ≠ b) }

/-- The Capture Unit takes the opening of an event whose copy names `choice` (R148). The frames of the bus that Bus Watch
handed over before the opening are taken before the attachment, so that no earlier frame stands between the START record
and its confirming frame (R149, R152; DEDUCED, log entry 30). -/
def State.captureOpening (s : State) (i : EventIx) (choice : Option CaptureIx) (f : AcceptedFrame) : State :=
  match choice with
  | none => s
  | some k =>
    if (s.recorder k).state = .masked then s.addMark i .noCapture
    else
      let s := s.captureCaughtUp f.bus
      let s := if (s.recorder k).state = .running then s.truncatePass k else s
      s.attachRecorder k i f

/-- The Capture Unit is told that an event has ended (R155). -/
def State.captureEnded (s : State) (i : EventIx) : State :=
  { s with capture.channels := eachMember (CaptureChannel.eventEnded i) s.capture.channels }

end Sys2Proof.Machine
end

