-- ==== Sys2Proof/Machine/Energy.lean ====
section
/-! DEFINITION. The movements of energy (R41, R42, R67): an event's spending, the return of unspent to Free or to a
release, the release's life from creation to payment, and an event's ways off its protected path (R34 to R37, R78,
R79, R89 to R98). Each operation takes from one term of the balance of R67 what it adds to another. -/

namespace Sys2Proof.Machine

/-! ## Free and the pass -/

/-- An occasion for a service pass has come (R75). -/
def State.duePass (s : State) : State := { s with pool.passDue := true }

/-- Free grows; each growth leads to a pass (R68). -/
def State.addFree (s : State) (n : Nat) : State :=
  { s with pool.free := s.pool.free + n, pool.passDue := s.pool.passDue || decide (0 < n) }

/-! ## An event's spending (R41) -/

/-- Accounted spent and overdraw from the accumulator and the grant (R41). -/
def Event.recount (e : Event) : Event :=
  { e with
    spent := min (e.accumulator / Config.nanoPerJoule) e.grant
    overdraw := clampJoules (e.accumulator / Config.nanoPerJoule - e.grant) }

/-- An entry whose accumulator or grant has changed: both figures are computed again, and D grows by the increase in
accounted spent (R41, R69). -/
def State.putRecounted (s : State) (i : EventIx) (e : Event) : State :=
  { s with
    events.entries := s.events.entries.set i (some e.recount)
    pool.drawn := s.pool.drawn + (e.recount.spent - e.spent) }

/-- The unspent given up: it is added to returned, and the grant becomes the accounted spent (R42). -/
def Event.giveUp (e : Event) : Event :=
  { e with returned := clampJoules (e.returned + e.unspent), grant := e.spent }

/-- The event's unspent moves to Free (R42, first case). -/
def State.giveToFree (s : State) (i : EventIx) : State :=
  match s.entry i with
  | none => s
  | some e => (s.setEntry i (some e.giveUp)).addFree e.unspent

/-! ## Requests -/

/-- The event's request leaves the Grant Queue with its timer; when it was the head a pass follows (R75, R88). -/
def State.dropRequest (s : State) (i : EventIx) : State :=
  { s with
    pool.grantQueue := s.pool.grantQueue.filter fun r => decide (r.event ≠ i)
    pool.passDue := s.pool.passDue || (match s.pool.grantQueue with
      | [] => false
      | r :: _ => decide (r.event = i)) }

/-! ## Availability (R78) -/

/-- Whether an event named by this copy's stack waits for a Release Map entry (R42, R78). -/
def State.waitsOn (s : State) (k : Station) : Bool :=
  allEvents.any fun i => match s.entry i with
    | some e => e.releaseWait.isSome && decide (e.copy.stack = k)
    | none => false

/-- Whether a stack is available (R78): no fault, no release, no event waiting for an entry. -/
def State.stackAvailable (s : State) (k : Station) : Bool :=
  !(s.view k).faulted && (s.releaseOf k).isNone && !s.waitsOn k

/-! ## Leaving the protected path and entering INJECTING -/

/-- The entry to BYPASSED less the stack and the energy (R37): the outcome is the first cause's, the request is
withdrawn, the held reasons are empty. -/
def State.leavePath (s : State) (i : EventIx) (cause : EventOutcome) : State :=
  (s.dropRequest i).modEvent i fun e =>
    { e with state := .bypassed, outcome := firstOutcome e.outcome cause, ladderStep := 3, held := .empty }

/-- BYPASSED from a state that commands no stack: the unspent goes to Free (R37, R42). -/
def State.bypassIdle (s : State) (i : EventIx) (cause : EventOutcome) : State := (s.leavePath i cause).giveToFree i

/-- An event enters INJECTING (R36); INJECT is queued, and the stack record is bound (R111). -/
def State.enterInjecting (s : State) (i : EventIx) : State :=
  match s.entry i with
  | none => s
  | some e =>
    let s := s.setEntry i (some { e with
      state := .injecting, stackOrder := .inject, held := .empty
      deepestStep := some (e.deepestStep.getD e.ladderStep) })
    let s := s.modRecord e.copy.stack fun x => { x with boundBus := some e.bus, drawingEvent := some i }
    s.queueCommand e.copy.stack (.inject i)

/-- A HELD event whose last reason has gone (R35): INJECTING on its grant, or DENIED with none; a stack faulted meanwhile
takes it to STACK-FAULT (R143). -/
def State.leaveHeld (s : State) (i : EventIx) : State :=
  match s.entry i with
  | none => s
  | some e =>
    if e.state = .held ∧ e.held.isEmpty then
      if e.grant = 0 then s.bypassIdle i .denied
      else if (s.view e.copy.stack).faulted then (s.addMark i .stackFault).bypassIdle i .stackFault
      else s.enterInjecting i
    else s

/-- The reason STACK removed from one HELD event of a stack that is available (R79). -/
def State.freeOfStack (k : Station) (s : State) (i : EventIx) : State :=
  match s.entry i with
  | none => s
  | some e =>
    if e.state = .held ∧ e.held.stack ∧ e.copy.stack = k ∧ s.stackAvailable k then
      (s.setEntry i (some { e with held.stack := false })).leaveHeld i
    else s

/-- The availability check for a stack (R79). Several HELD events of it lose STACK, and leave HELD, in rising event index
(DESIGN CHOICE, log entry 37). -/
def State.availabilityCheck (s : State) (k : Station) : State := allEvents.foldl (State.freeOfStack k) s

/-! ## Releases: payment (R97) -/

/-- One claim taken: the borrower's grant grows by the payment and the claim leaves its list (R97). -/
def payClaim (r : ReleaseIx) (x : State × Nat) (c : ReleaseClaim) : State × Nat :=
  match x.1.entry c.event with
  | none => x
  | some e =>
    (x.1.putRecounted c.event
      { e with grant := e.grant + min c.amount x.2, claims := e.claims.filter fun y => decide (y.release ≠ r) },
     x.2 - min c.amount x.2)

/-- The release paid out: its claims in the order made, the rest to Free, the entry freed (R97). -/
def State.payOut (s : State) (r : ReleaseIx) (x : Release) : State :=
  let paid := x.claims.foldl (payClaim r) (s, x.amount)
  ((paid.1.setRelease r none).addFree paid.2).duePass

/-! ## Releases: creation (R90) -/

/-- Whether the stack must yet be told to stop: no command has told it, and no RELEASE was queued for the event while it
waited (R90). -/
def Event.needsRelease (e : Event) : Bool := decide (e.stackOrder = .inject) && !e.releaseQueued

/-- The release the event's unspent makes (R90). -/
def Event.releaseFor (e : Event) (i : EventIx) (v : StackView) (order : U32) : Release where
  state := if e.marks.stackFault || v.faulted then .unresolved else .pending
  stack := e.copy.stack
  bus := e.bus
  origin := some i
  creationOrder := order
  amount := e.unspent
  accumulator := 0
  overdraw := 0
  awaited := v.lastQueued
  claims := []

/-- The release written into an entry, and the event settled (R42, R90). -/
def State.putNewRelease (s : State) (i : EventIx) (r : ReleaseIx) (e : Event) : State :=
  let x := e.releaseFor i (s.view e.copy.stack) s.pool.creationCounter
  let s := { s.setRelease r (some x) with pool.creationCounter := s.pool.creationCounter + 1 }
  (s.setEntry i (some { e.giveUp with releaseCreated := true, releaseWait := none })).forgetDrawing i

/-- A release created in an entry for the event's unspent (R90). A PENDING release of a stack that is quiescent already is
confirmed at once: its amount goes to Free. The freed entry is not offered here (`offerEntries` does). -/
def State.newRelease (s : State) (i : EventIx) (r : ReleaseIx) : State :=
  match s.entry i with
  | none => s
  | some e =>
    let s := if e.needsRelease then s.queueCommand e.copy.stack .release else s
    match s.entry i with
    | none => s
    | some e =>
      let s := s.putNewRelease i r e
      match s.release r with
      | none => s
      | some x =>
        if x.state = .pending ∧ (s.view x.stack).quiescentAt x.awaited then
          (s.payOut r x).availabilityCheck x.stack
        else s

/-! ## Waiting for an entry (R92) -/

/-- The wait of an event has ended: a CLOSING event goes to REPORTING, and the availability check is made (R79, R92). -/
def State.afterWait (s : State) (i : EventIx) : State :=
  match s.entry i with
  | none => s
  | some e =>
    let s := if e.state = .closing then s.enterReporting i else s
    s.availabilityCheck e.copy.stack

/-- The event's wait ends with no release (R42, R92). -/
def State.endWait (s : State) (i : EventIx) : State :=
  (s.modEvent i fun e => { e with releaseWait := none }).afterWait i

/-- An event that waits for a Release Map entry leaves the wait when its unspent is 0 (R92). The availability check that
follows is made at once, within stage 1 of R114 where it is metering that spends the last of it: a HELD event it takes to
INJECTING passes through stages 2 to 5 on the same frame (DESIGN CHOICE, log entry 33). -/
def State.endSpentWait (s : State) (i : EventIx) : State :=
  match s.entry i with
  | none => s
  | some e => if e.releaseWait.isSome ∧ e.unspent = 0 then s.endWait i else s

/-- The waiting event with the oldest release wait (R92). -/
def State.oldestWaiting (s : State) : Option EventIx :=
  (sortByKey (fun i => match s.entry i with
      | some e => (match e.releaseWait with | some w => w.order | none => 0)
      | none => 0)
    (s.eventsWhere fun e => e.releaseWait.isSome)).head?

/-- Freed entries offered to the waiting events, oldest first, at most `n` of them (R92). -/
def State.offer : Nat → State → State
  | 0, s => s
  | n + 1, s => match s.freeRelease, s.oldestWaiting with
    | some r, some i => State.offer n ((s.newRelease i r).afterWait i)
    | _, _ => s

/-- Freed entries offered to the waiting events (R92). -/
def State.offerEntries (s : State) : State := State.offer Config.eventCapacity s

/-- The event begins to wait for an entry: RELEASE-WAIT, and RELEASE for a stack ordered INJECT (R42, R92). -/
def State.beginWait (s : State) (i : EventIx) : State :=
  match s.entry i with
  | none => s
  | some e =>
    let s := s.setEntry i (some { e with
      releaseWait := some ⟨s.now, s.events.waitCounter⟩
      releaseQueued := e.releaseQueued || decide (e.stackOrder = .inject) })
    let s := { s with events.waitCounter := s.events.waitCounter + 1 }.addAlarm e.bus .releaseWait
    if e.stackOrder = .inject then s.queueCommand e.copy.stack .release else s

/-! ## Disposal (R42) -/

/-- The event has stopped drawing: its unspent goes to Free, into a release, or into a wait (R42, R90, R92); an event that
waits already goes on waiting. -/
def State.dispose (s : State) (i : EventIx) : State :=
  match s.entry i with
  | none => s
  | some e =>
    if e.unspent = 0 ∨ e.releaseWait.isSome then s
    else if e.stackOrder = .none ∨ e.releaseCreated ∨ (s.releaseOf e.copy.stack).isSome then s.giveToFree i
    else match s.freeRelease with
      | some r => s.newRelease i r
      | none => s.beginWait i

/-- An event enters BYPASSED (R37). `commanded`: the stack's BYPASS is queued by the fault that brings the cause (R140). -/
def State.bypass (s : State) (i : EventIx) (cause : EventOutcome) (commanded : Bool) : State :=
  let s := s.leavePath i cause
  match s.entry i with
  | none => s
  | some e =>
    if e.stackOrder = .inject then
      let s := s.setEntry i (some { e with stackOrder := .bypass })
      (if commanded then s else s.queueCommand e.copy.stack .bypass).dispose i
    else s.dispose i

/-! ## Confirmation and its consequences (R97, R98) -/

/-- Whether an event has stopped drawing. -/
def EventState.stopped : EventState → Bool
  | .bypassed => true
  | .closing => true
  | .reporting => true
  | _ => false

/-- A borrower after a settlement (R79, R98 step 1): with no claim left it loses BORROW; one that has stopped drawing gives
the payment up, unless it waits for an entry (R42). -/
def State.settleBorrower (s : State) (i : EventIx) : State :=
  match s.entry i with
  | none => s
  | some e =>
    let s := if e.claims = [] then s.setEntry i (some { e with held.borrow := false }) else s
    if e.state.stopped then
      if e.releaseWait.isSome ∧ e.state ≠ .reporting then s else s.giveToFree i
    else s.leaveHeld i

/-- The release confirmed: paid out, and its consequences in order (R97, R98). Step 1 of R98 gives its borrowers no order:
they lose BORROW, and leave HELD, in the order of the release's claims list (DESIGN CHOICE, log entry 37). -/
def State.confirmRelease (s : State) (r : ReleaseIx) : State :=
  match s.release r with
  | none => s
  | some x =>
    let s := s.payOut r x
    let s := x.claims.foldl (fun s c => s.settleBorrower c.event) s
    ((s.availabilityCheck x.stack).offerEntries).duePass

end Sys2Proof.Machine
end

