-- ==== Sys2Proof/Machine/Reference.lean ====
section
/-! DEFINITION. Envelope figures (R53, R54, R63) and the computation of references (R112, R115 to R118), and the
sizing of a FIRST request from the trial reference (R72). -/

namespace Sys2Proof.Machine

/-- The floor at `t` ms: that of the first breakpoint whose duration exceeds `t`, else the continuous floor (R53). -/
def EnvelopeRow.floorAt (e : EnvelopeRow) (t : Nat) : Nat :=
  match e.breakpoints.find? fun b => decide (t < b.duration) with
  | some b => b.floor
  | none => e.continuousFloor

/-- The protection horizon in ms: the duration of the last breakpoint (R54). -/
def EnvelopeRow.horizon (e : EnvelopeRow) : Nat := lastDuration e.breakpoints

/-- The grant wait limit in ms: the duration of the first breakpoint (R54). -/
def EnvelopeRow.waitLimit (e : EnvelopeRow) : Nat :=
  match e.breakpoints with
  | [] => 0
  | b :: _ => b.duration

/-- Step 0, PRESAG-FULL (R115). -/
def presagReference (p : Phasor) : Phasor := ⟨1000 - p.d, -p.q⟩

/-- Steps 1 and 2: the vector raised along its own direction to the target magnitude (R116). -/
def inphaseReference (target : Nat) (p : Phasor) : Phasor :=
  if p.magnitude = 0 then ⟨target, 0⟩
  else if target ≤ p.magnitude then ⟨0, 0⟩
  else p.scale (target - p.magnitude) p.magnitude

/-- The target of step 2: the floor plus the margin, at most 1,000 per-mille (R63, R116). -/
def EnvelopeRow.floorTarget (e : EnvelopeRow) (t : Nat) : Nat := min 1000 (e.floorAt t + e.margin)

/-- The effective limit (R117). -/
def OpenedUnder.effectiveLimit (c : OpenedUnder) (derate : Nat) : Nat := c.injectionLimit * (4 - derate) / 4

/-- A raw reference held within the effective limit, its direction kept (R117). -/
def limitReference (limit : Nat) (p : Phasor) : Phasor :=
  if p.square ≤ limit * limit then p else p.scale limit (isqrt p.square)

/-- The raw reference of a phase at a ladder step, `t` ms into the event (R115, R116). -/
def OpenedUnder.rawReference (c : OpenedUnder) (step t : Nat) (p : Phasor) : Phasor :=
  match step with
  | 0 => presagReference p
  | 1 => inphaseReference 1000 p
  | _ => inphaseReference (c.envelope.floorTarget t) p

/-- The reference at a ladder step for a frame's vectors (R115 to R117). -/
def OpenedUnder.reference (c : OpenedUnder) (derate step t : Nat) (v : ThreePhase) : ThreePhase :=
  v.map fun p => limitReference (c.effectiveLimit derate) (c.rawReference step t p)

/-- The amount of a FIRST request (R72), from the trial reference at the start step (R118). -/
def OpenedUnder.firstAmount (c : OpenedUnder) (derate minimumGrant : Nat) (f : SenseFrame) : Nat :=
  let trial := c.reference derate c.method.startStep 0 f.volts
  let power := injectedPower trial c.nominal f.amps / 1000
  let energy := clampJoules (power * c.envelope.horizon / 1000)
  min (max energy minimumGrant) c.grantCap

end Sys2Proof.Machine
end

