-- ==== Sys2Proof/Machine/Grants.lean ====
section
/-! DEFINITION. The Grant Queue and its service (R70 to R85): requests, borrowing, displacement, the service pass, and
the expiry of wait timers. -/

namespace Sys2Proof.Machine

/-- The minimum grant of the parameters in effect; 1 J while none are (R71). -/
def State.minimumGrant (s : State) : Nat :=
  match s.pool.inEffect with
  | some p => p.minimumGrant
  | none => 1

/-- A request enters the Grant Queue behind its class, with a fresh wait timer; a pass follows (R74, R75, R83). -/
def State.enqueueRequest (s : State) (i : EventIx) (e : Event) (kind : RequestKind) (amount : Nat) : State :=
  let q : GrantRequest := ⟨i, kind, amount, e.copy.cls, s.now, s.now + e.copy.envelope.waitLimit * 1000⟩
  { s with pool.grantQueue := insertByKey (·.cls) q s.pool.grantQueue }.duePass

/-- The Allocator takes a TOPUP request brought to it (R73): it enters the queue when its event is INJECTING and has no
request there, and is discarded otherwise. -/
def State.takeTopup (s : State) (x : BroughtTopup) : State :=
  match s.entry x.event with
  | none => s
  | some e =>
    if e.openOrder = x.openOrder ∧ e.state = .injecting ∧ (s.requestOf x.event).isNone then
      s.enqueueRequest x.event e .topup e.firstAmount
    else s

/-! ## Borrowing (R77) -/

/-- The PENDING releases, oldest first. -/
def State.pendingOldestFirst (s : State) : List ReleaseIx :=
  sortByKey (fun r => match s.release r with
      | some x => oldestKey s.pool.creationCounter x.creationOrder
      | none => 0)
    (allReleases.filter fun r => match s.release r with
      | some x => decide (x.state = .pending)
      | none => false)

/-- Whether a claims list holds a claim on a release. -/
def claimsOn (claims : List EventClaim) (r : ReleaseIx) : Bool := claims.any fun c => decide (c.release = r)

/-- The releases open to a requester with these claims and so many free slots, each with its available amount (R77, R93). -/
def State.openReleases (s : State) (claims : List EventClaim) : Nat → List ReleaseIx → List (ReleaseIx × Nat)
  | _, [] => []
  | slots, r :: rest => match s.release r with
    | none => s.openReleases claims slots rest
    | some x =>
      if x.available = 0 then s.openReleases claims slots rest
      else if claimsOn claims r then (r, x.available) :: s.openReleases claims slots rest
      else if Config.claimCapacity ≤ x.claims.length then s.openReleases claims slots rest
      else match slots with
        | 0 => s.openReleases claims 0 rest
        | k + 1 => (r, x.available) :: s.openReleases claims k rest

/-- The claims an event holds. -/
def State.claimsOf (s : State) (i : EventIx) : List EventClaim :=
  match s.entry i with
  | some e => e.claims
  | none => []

/-- The releases open to a requester (R77). -/
def State.openTo (s : State) (i : EventIx) : List (ReleaseIx × Nat) :=
  s.openReleases (s.claimsOf i) (Config.claimCapacity - (s.claimsOf i).length) s.pendingOldestFirst

/-- The borrowable energy of a list of open releases (R77). -/
def borrowable (l : List (ReleaseIx × Nat)) : Nat := (l.map (·.2)).sum

/-- The free claim slots left after those the open releases use (R80). -/
def State.slotsLeft (s : State) (i : EventIx) : Nat :=
  Config.claimCapacity - (s.claimsOf i).length
    - ((s.openTo i).filter fun x => !claimsOn (s.claimsOf i) x.1).length

/-- A claim on a release made at the end of the event's list, or grown in its place (R77). -/
def growEventClaim (r : ReleaseIx) (n : Nat) (l : List EventClaim) : List EventClaim :=
  if claimsOn l r then l.map fun c => if c.release = r then { c with amount := c.amount + n } else c
  else l ++ [⟨r, n⟩]

/-- A claim of an event made at the end of the release's list, or grown in its place (R77). -/
def growReleaseClaim (i : EventIx) (n : Nat) (l : List ReleaseClaim) : List ReleaseClaim :=
  if l.any fun c => decide (c.event = i) then
    l.map fun c => if c.event = i then { c with amount := c.amount + n } else c
  else l ++ [⟨i, n⟩]

/-- A claim laid on both lists (R77). -/
def State.growClaim (s : State) (i : EventIx) (r : ReleaseIx) (n : Nat) : State :=
  (s.modEvent i fun e => { e with claims := growEventClaim r n e.claims }).modRelease r fun x =>
    { x with claims := growReleaseClaim i n x.claims }

/-- The borrowed part laid on the open releases, oldest first, each receiving what it can until nothing is left (R77). -/
def State.layClaims (i : EventIx) : List (ReleaseIx × Nat) → Nat → State → State
  | [], _, s => s
  | (r, available) :: rest, left, s =>
    if min left available = 0 then s
    else State.layClaims i rest (left - min left available) (s.growClaim i r (min left available))

/-! ## A request served (R76, R78) -/

/-- The state of an event after its FIRST request is served (R78). -/
def State.afterFirst (s : State) (i : EventIx) (firm : Nat) : State :=
  match s.entry i with
  | none => s
  | some e =>
    let available := s.stackAvailable e.copy.stack
    if 0 < firm ∧ available then s.enterInjecting i
    else s.setEntry i (some { e with state := .held, held := ⟨decide (firm = 0), !available, false⟩ })

/-- A request served with an amount: its firm part out of Free, the rest borrowed (R76). -/
def State.serve (s : State) (q : GrantRequest) (amount : Nat) : State :=
  let firm := min s.pool.free amount
  let taken := s.openTo q.event
  let s := { s with pool.grantQueue := s.pool.grantQueue.filter fun r => decide (r.event ≠ q.event) }
  match s.entry q.event with
  | none => s
  | some e =>
    let s := { s with pool.free := s.pool.free - firm }.putRecounted q.event { e with grant := e.grant + firm }
    let s := State.layClaims q.event taken (amount - firm) s
    match q.kind with
    | .first => s.afterFirst q.event firm
    | .topup => s

/-! ## Displacement (R80, R81) -/

/-- The candidates for displacement by a request of a class, in order (R80). -/
def State.candidates (s : State) (cls : Nat) : List EventIx :=
  sortByKey (fun i => match s.entry i with
      | some e => leastCriticalKey e.copy.cls (orderAge s.events.openCounter e.openOrder)
      | none => 0)
    (s.eventsWhere fun e => e.state = .injecting && decide (cls < e.copy.cls) && decide (0 < e.unspent))

/-- The walk over the candidates (R80): the victims with the entries set aside for them, and the sum reached. -/
def State.chooseVictims (s : State) (goal : Nat) :
    Nat → Nat → List ReleaseIx → List EventIx → List (EventIx × ReleaseIx) × Nat
  | sum, _, _, [] => ([], sum)
  | sum, slots, free, i :: rest =>
    if goal ≤ sum then ([], sum)
    else match slots, free with
      | k + 1, r :: more =>
        let unspent := match s.entry i with
          | some e => e.unspent
          | none => 0
        let next := s.chooseVictims goal (sum + unspent) k more rest
        ((i, r) :: next.1, next.2)
      | _, _ => ([], sum)

/-- One victim displaced: BYPASSED with DISPLACED, its stack commanded BYPASS, its unspent a release on its entry (R81). -/
def State.displaceVictim (s : State) (v : EventIx × ReleaseIx) : State :=
  let s := s.leavePath v.1 .displaced
  match s.entry v.1 with
  | none => s
  | some e =>
    ((s.setEntry v.1 (some { e with stackOrder := .bypass })).queueCommand e.copy.stack .bypass).newRelease v.1 v.2

/-- The head request served by displacement, all or nothing (R80, R81). The free Release Map entries are set aside for the
victims in rising index (DESIGN CHOICE, log entry 32). -/
def State.serveByDisplacement (s : State) (q : GrantRequest) : Option State :=
  let chosen := s.chooseVictims q.amount (s.pool.free + borrowable (s.openTo q.event)) (s.slotsLeft q.event)
    (allReleases.filter fun r => (s.release r).isNone) (s.candidates q.cls)
  if s.minimumGrant ≤ chosen.2 then
    let s := chosen.1.foldl State.displaceVictim s
    some (s.serve q (min q.amount (s.pool.free + borrowable (s.openTo q.event))))
  else none

/-- The head request served by the first step of R75 that can; none when no step can. -/
def State.serveHead (s : State) (q : GrantRequest) : Option State :=
  if q.amount ≤ s.pool.free then some (s.serve q q.amount)
  else if s.minimumGrant ≤ s.pool.free + borrowable (s.openTo q.event) then
    some (s.serve q (min q.amount (s.pool.free + borrowable (s.openTo q.event))))
  else s.serveByDisplacement q

/-- A service pass of at most `n` requests (R75). -/
def State.pass : Nat → State → State
  | 0, s => s
  | n + 1, s => match s.pool.grantQueue with
    | [] => s
    | q :: _ => match s.serveHead q with
      | some s => State.pass n s
      | none => s

/-- The service pass that is due, in LIVE alone (R70, R75). -/
def State.servicePass (s : State) : State :=
  if s.pool.passDue ∧ s.pool.storeState = .live then
    State.pass s.pool.grantQueue.length { s with pool.passDue := false }
  else s

/-! ## Wait timers (R84, R85) -/

/-- The wait timer of the event's request of a kind has come to its expiry. -/
def State.waitExpired (s : State) (i : EventIx) (kind : RequestKind) : Bool :=
  match s.requestOf i with
  | some q => decide (q.kind = kind ∧ q.expiry ≤ s.now)
  | none => false

/-- The expiry of a FIRST request's wait timer: BYPASSED with DENIED (R84). -/
def State.firstExpires (s : State) (i : EventIx) : State :=
  if s.waitExpired i .first then s.bypass i .denied false else s

/-- The expiry of a TOPUP request's wait timer: the request goes, TOPUP-DENIED is marked (R85). -/
def State.topupExpires (s : State) (i : EventIx) : State :=
  if s.waitExpired i .topup then (s.dropRequest i).addMark i .topupDenied else s

end Sys2Proof.Machine
end

