-- ==== Sys2Proof/Machine/EventLife.lean ====
section
/-! DEFINITION. What Bus Watch brings the Event Map: an opening (R29 to R31), the strikes of an open event (R14, R32),
and its end (R43, R44). -/

namespace Sys2Proof.Machine

/-! ## Opening -/

/-- The opened-under copy of a bus row and an envelope row (R30). -/
def BusRow.openedUnder (r : BusRow) (envelope : EnvelopeRow) : OpenedUnder where
  stack := r.stack
  head := r.head
  nominal := r.nominal
  cls := r.cls
  method := r.method
  policy := r.policy
  injectionLimit := r.injectionLimit
  grantCap := r.grantCap
  capture := r.capture
  envelope := envelope

/-- The envelope of a bus's row, from the bank the bus uses (R30). R52 lets no bus use a row whose envelope is invalid;
the empty envelope stands for that case, which no run reaches. -/
def State.envelopeOf (s : State) (b : Bus) (r : BusRow) : EnvelopeRow :=
  ((s.bank (s.channel b).bankInUse).envelopes[r.envelope]).getD ⟨[], 0, 0, 0⟩

/-- A freshly filled entry (R29, R31): REQUESTING at the start step of its method. -/
def Event.opened (b : Bus) (order start : U32) (copy : OpenedUnder) (lowest : Nat) (lastFrame : U32) : Event where
  bus := b
  openOrder := order
  start := start
  state := .requesting
  copy := copy
  strikes := [⟨0, lowest⟩]
  strikeOverflow := 0
  ladderStep := copy.method.startStep
  deepestStep := none
  lastReference := none
  lastFrame := lastFrame
  stackOrder := .none
  grant := 0
  accumulator := 0
  spent := 0
  overdraw := 0
  returned := 0
  firstAmount := 0
  claims := []
  held := .empty
  releaseWait := none
  releaseQueued := false
  releaseCreated := false
  lowestResidual := none
  breachRun := 0
  outcome := none
  marks := .empty
  capture := none
  closeOrder := none

/-- An entry opened UNPROTECTED (R31). -/
def Event.unprotected (e : Event) : Event :=
  { e with state := .bypassed, outcome := some .unprotected, ladderStep := 3 }

/-- The starting state by the stack's view (R31): UNPROTECTED, or REQUESTING with a FIRST request sized and queued (R72). -/
def State.startEvent (s : State) (i : EventIx) (e : Event) (f : SenseFrame) : State :=
  let v := s.view e.copy.stack
  if v.faulted then s.setEntry i (some e.unprotected)
  else
    let amount := e.copy.firstAmount v.derate s.minimumGrant f
    (s.setEntry i (some { e with firstAmount := amount })).enqueueRequest i e .first amount

/-- An entry allocated for a confirmed sag (R29 to R31): the lowest free one, none when the map is full. -/
def State.openEvent (s : State) (r : BusRow) (start : U32) (lowest : Nat) (f : AcceptedFrame) :
    Option (EventIx × State) :=
  match s.freeEntry with
  | none => none
  | some i =>
    let copy := r.openedUnder (s.envelopeOf f.bus r)
    let e := Event.opened f.bus s.events.openCounter start copy lowest f.frame.timestamp
    let s := { s with events.openCounter := s.events.openCounter + 1 }.setRate i none
    some (i, (s.startEvent i e f.frame).captureOpening i copy.capture f)

/-! ## Strikes -/

/-- A new strike listed while fewer than 4 are, else counted in the overflow, up to 255 (R14, R32). -/
def Event.addStrike (offset lowest : Nat) (e : Event) : Event :=
  if e.strikes.length < Config.strikeCapacity then { e with strikes := e.strikes ++ [⟨offset, lowest⟩] }
  else { e with strikeOverflow := min (e.strikeOverflow + 1) Config.strikeOverflowMax }

/-- The last strike's lowest magnitude lowered to `m` if that is lower (R14). -/
def lowerLast (m : Nat) : List Strike → List Strike
  | [] => []
  | [x] => [{ x with lowest := min x.lowest m }]
  | x :: rest => x :: lowerLast m rest

/-- The current strike's lowest magnitude lowered; nothing while the current strike overflowed the list (R14). -/
def Event.lowerStrike (m : Nat) (e : Event) : Event :=
  if 0 < e.strikeOverflow then e else { e with strikes := lowerLast m e.strikes }

/-! ## The end -/

/-- The causes with which Bus Watch ends an event (R15). -/
inductive EndCause where
  | recovered
  | downstreamFault
  | lostSight
  | withdrawn
deriving DecidableEq, Repr

/-- The outcome a cause sets where none is set (R43 step 1). -/
def EndCause.outcome (cause : EndCause) (e : Event) : EventOutcome :=
  match cause with
  | .downstreamFault => .downstreamFault
  | .lostSight => .lostSight
  | .withdrawn => .withdrawn
  | .recovered =>
    if e.marks.breach ∧ e.copy.policy = .hold then .breached
    else if e.state = .injecting then .rideThrough
    else .unaided

/-- The cause's mark, SILENCE or DOWNSTREAM (R43 step 2). -/
def EndCause.mark (cause : EndCause) (m : Marks) : Marks :=
  match cause with
  | .lostSight => m.add .silence
  | .downstreamFault => m.add .downstream
  | .recovered => m
  | .withdrawn => m

/-- A borrower's claim removed from a release; its amount stays in the release (R93). -/
def Release.withdrawClaims (i : EventIx) (x : Release) : Release :=
  { x with claims := x.claims.filter fun c => decide (c.event ≠ i) }

/-- An event's unsettled claims removed from every release (R43 step 3, R93). -/
def State.withdrawClaims (s : State) (i : EventIx) : State :=
  { s with pool.releases := eachMember (Option.map (Release.withdrawClaims i)) s.pool.releases }

/-- The entry after steps 1 to 3 of R43. -/
def Event.ended (cause : EndCause) (e : Event) : Event :=
  { e with
    outcome := firstOutcome e.outcome (cause.outcome e)
    marks := cause.mark e.marks
    claims := []
    held := .empty }

/-- Step 4 of R43: BYPASS for a stack ordered INJECT on the three fault causes (R15), RELEASE for one whose event recovers
with no unspent. -/
def State.endStack (s : State) (i : EventIx) (cause : EndCause) : State :=
  match s.entry i with
  | none => s
  | some e =>
    if e.stackOrder = .inject then
      match cause with
      | .recovered => if e.unspent = 0 then s.queueCommand e.copy.stack .release else s
      | .downstreamFault | .lostSight | .withdrawn =>
        (s.setEntry i (some { e with stackOrder := .bypass })).queueCommand e.copy.stack .bypass
    else s

/-- Step 5 of R43: step 3, CLOSING, the close order, and the notice to the Capture Unit. -/
def State.closeEvent (s : State) (i : EventIx) : State :=
  let order := s.events.closeCounter
  let s := s.modEvent i fun e => { e with ladderStep := 3, state := .closing, closeOrder := some order }
  { s with events.closeCounter := order + 1 }.captureEnded i

/-- A CLOSING event that waits for no entry goes to REPORTING (R44). -/
def State.settleClosing (s : State) (i : EventIx) : State :=
  match s.entry i with
  | none => s
  | some e => if e.state = .closing ∧ e.releaseWait.isNone then s.enterReporting i else s

/-- Bus Watch ends an event (R43, R44). -/
def State.endEvent (s : State) (i : EventIx) (cause : EndCause) : State :=
  let s := ((s.dropRequest i).withdrawClaims i).modEvent i (Event.ended cause)
  (((s.endStack i cause).closeEvent i).dispose i).settleClosing i

end Sys2Proof.Machine
end

