-- ==== Sys2Proof/Machine/Store.lean ====
section
/-! DEFINITION. STORE frames and store confirmation: acceptance (R102), the confirmation in its eight steps (R101,
R103), the shortfall cut (R104, R105), the store state and the store silence one-shot (R70, R106, R107). -/

namespace Sys2Proof.Machine

/-! ## Dissolution (R101) -/

/-- The UNRESOLVED releases, oldest first. -/
def State.unresolvedOldestFirst (s : State) : List ReleaseIx :=
  sortByKey (fun r => match s.release r with
      | some x => oldestKey s.pool.creationCounter x.creationOrder
      | none => 0)
    (allReleases.filter fun r => match s.release r with
      | some x => decide (x.state = .unresolved)
      | none => false)

/-- A claim on a release removed from its borrower, with nothing paid (R101). -/
def State.settleWithNothing (s : State) (r : ReleaseIx) (c : ReleaseClaim) : State :=
  s.modEvent c.event fun e => { e with claims := e.claims.filter fun y => decide (y.release ≠ r) }

/-- A release dissolved: its claims settle with nothing and its entry is freed (R101). -/
def State.dissolve (s : State) (r : ReleaseIx) : State :=
  match s.release r with
  | none => s
  | some x => ((x.claims.foldl (fun s c => s.settleWithNothing r c) s).setRelease r none).duePass

/-! ## The sums of R103 -/

/-- The sum of the unspent of every held entry. -/
def State.unspentSum (s : State) : Nat :=
  (allEvents.map fun i => match s.entry i with
    | some e => e.unspent
    | none => 0).sum

/-- The sum of the amounts of every held release. -/
def State.releaseSum (s : State) : Nat :=
  (allReleases.map fun r => match s.release r with
    | some x => x.amount
    | none => 0).sum

/-! ## The shortfall cut (R104, R105) -/

/-- An event cut by `n`: its grant is lowered. A HELD event cut to 0 while it holds claims has the reason BORROW (R35,
R104). -/
def Event.cutBy (n : Nat) (e : Event) : Event :=
  { e with
    grant := e.grant - n
    held.borrow := e.held.borrow ||
      (decide (e.state = .held) && decide (e.unspent ≤ n) && !e.claims.isEmpty) }

/-- The events with unspent, in the order of the cut. -/
def State.eventsToCut (s : State) : List EventIx :=
  sortByKey (fun i => match s.entry i with
      | some e => leastCriticalKey e.copy.cls (orderAge s.events.openCounter e.openOrder)
      | none => 0)
    (s.eventsWhere fun e => decide (0 < e.unspent))

/-- The unspent of an entry, 0 of a free one. -/
def State.unspentOf (s : State) (i : EventIx) : Nat :=
  match s.entry i with
  | some e => e.unspent
  | none => 0

/-- The events cut in turn until the shortfall is met: the state, what is left of the shortfall, the events cut. -/
def State.cutEvents : List EventIx → Nat → State → State × Nat × List EventIx
  | [], left, s => (s, left, [])
  | i :: rest, left, s =>
    if left = 0 then (s, 0, [])
    else
      let n := min (s.unspentOf i) left
      let next := State.cutEvents rest (left - n) (s.modEvent i (Event.cutBy n))
      (next.1, next.2.1, i :: next.2.2)

/-- The releases with an amount, in the order of the cut (R105). -/
def State.releasesToCut (s : State) : List ReleaseIx :=
  sortByKey (fun r => match s.release r with
      | some x => leastCriticalKey (s.ownerClass x) (orderAge s.pool.creationCounter x.creationOrder)
      | none => 0)
    (allReleases.filter fun r => match s.release r with
      | some x => decide (0 < x.amount)
      | none => false)

/-- The amount of a release, 0 of a free entry. -/
def State.amountOf (s : State) (r : ReleaseIx) : Nat :=
  match s.release r with
  | some x => x.amount
  | none => 0

/-- The releases cut in turn until the shortfall is met: the state, what is left, the number of releases cut. -/
def State.cutReleases : List ReleaseIx → Nat → State → State × Nat × Nat
  | [], left, s => (s, left, 0)
  | r :: rest, left, s =>
    if left = 0 then (s, 0, 0)
    else
      let n := min (s.amountOf r) left
      let next := State.cutReleases rest (left - n) (s.modRelease r fun x => { x with amount := x.amount - n })
      (next.1, next.2.1, next.2.2 + 1)

/-- Whether an event that has been cut will reach the outcome CUT (R104). -/
def State.reachesCut (s : State) (i : EventIx) : Bool :=
  match s.entry i with
  | none => false
  | some e => decide (e.unspent = 0) &&
      (decide (e.state = .injecting) || (decide (e.state = .held) && e.claims.isEmpty))

/-- Steps 5 and 6 of R103: Free set from B and both sums, or the shortfall cut made and reported; the events cut. -/
def State.setFree (s : State) (timestamp : U32) (voltage : Nat) : State × List EventIx :=
  let sums := s.unspentSum + s.releaseSum
  if sums ≤ s.pool.budget then ({ s with pool.free := s.pool.budget - sums }, [])
  else
    let shortfall := sums - s.pool.budget
    let events := State.cutEvents s.eventsToCut shortfall s
    let releases := State.cutReleases events.1.releasesToCut events.2.1 events.1
    let s := { releases.1 with pool.free := 0 }
    (s.report (.shortfall timestamp voltage s.pool.budget (shortfall - releases.2.1) (shortfall - events.2.1)
        (events.2.1 - releases.2.1) events.2.2.length (events.2.2.filter fun i => s.reachesCut i).length
        releases.2.2),
      events.2.2)

/-- The outcome CUT of one event that was cut, where it reaches it (R104). -/
def State.cutOutcome (s : State) (i : EventIx) : State := if s.reachesCut i then s.bypass i .cut false else s

/-- Step 8 of R103 for the events that were cut: every outcome CUT, then the waits, whose end leads to availability
checks (DEDUCED, log entry 14). -/
def State.cutConsequences (s : State) (cut : List EventIx) : State :=
  cut.foldl State.endSpentWait (cut.foldl State.cutOutcome s)

/-! ## The store state (R70, R107) -/

/-- STORE added to a HELD event's reasons (R70). -/
def Event.holdForStore (e : Event) : Event :=
  if e.state = .held then { e with held.store := true } else e

/-- STORE added to the reasons of every HELD event (R70). -/
def State.holdForStore (s : State) : State :=
  { s with events.entries := eachMember (Option.map Event.holdForStore) s.events.entries }

/-- STORE removed from one HELD event (R70). An event the cut took to 0 waits for its outcome CUT (R104). -/
def State.freeOfStore (cut : List EventIx) (s : State) (i : EventIx) : State :=
  match s.entry i with
  | none => s
  | some e =>
    if e.state = .held then
      let held := s.setEntry i (some { e with held.store := false })
      if i ∈ cut ∧ s.reachesCut i then held else held.leaveHeld i
    else s

/-- Step 7 of R103: LIVE, with the removals and the report of a change, and the one-shot started (R70, R107, R109). The
HELD events lose STORE, and leave HELD, in rising event index (DESIGN CHOICE, log entry 31). -/
def State.enterLive (s : State) (p : StoreParameters) (cut : List EventIx) (timestamp : U32) (voltage : Nat) : State :=
  let left := s.pool.storeState
  let s := { s with pool.storeState := .live, pool.storeSilence := some (s.now + p.silenceTimeout) }
  if left = .live then s
  else
    (allEvents.foldl (State.freeOfStore cut) s).report
      (.storeState left .live .frame s.pool.budget (some (timestamp, voltage)))

/-! ## Store confirmation (R103) -/

/-- The consequences of the dissolution (R98, R101): the borrowers release by release, the oldest first, and within a release in
the order of its claims list (DESIGN CHOICE, log entry 37). -/
def State.dissolutionConsequences (s : State) (gone : List Release) : State :=
  let s := gone.foldl (fun s x => x.claims.foldl (fun s c => s.settleBorrower c.event) s) s
  let s := gone.foldl (fun s x => s.availabilityCheck x.stack) s
  if gone.isEmpty then s else s.offerEntries

/-- The store confirmation of an accepted frame under the active bank's set (R103). -/
def State.confirmStore (s : State) (p : StoreParameters) (timestamp : U32) (voltage : Nat) : State :=
  let s := { s with pool.inEffect := some p, pool.budget := storeBudget p voltage }
  let gone := s.unresolvedOldestFirst
  let releases := gone.filterMap s.release
  let s := gone.foldl State.dissolve s
  let s := { s with pool.drawn := 0 }
  let balanced := s.setFree timestamp voltage
  let s := balanced.1.enterLive p balanced.2 timestamp voltage
  ((s.cutConsequences balanced.2).dissolutionConsequences releases).duePass

/-! ## STORE frames (R102) -/

/-- Whether a STORE frame is older than the baseline (R102). -/
def State.staleStoreFrame (s : State) (timestamp : U32) : Bool :=
  match s.pool.storeBaseline with
  | some t => isStale timestamp t
  | none => false

/-- The Allocator takes a STORE frame (R102, R163). -/
def State.takeStore (s : State) (x : HandedStore) : State :=
  let stray := s.countPort fun c => { c with stray := c.stray + 1 }
  match s.activeBank.store with
  | none => stray
  | some p =>
    if x.source ≠ p.head.address then stray
    else if s.staleStoreFrame x.timestamp then { s with pool.staleStore := s.pool.staleStore + 1 }
    else
      let s := { s with
        pool.storeBaseline := some x.timestamp
        pool.charger := some x.charger
        pool.chargerFault := s.pool.chargerFault || decide (x.charger = Charger.fault) }
      s.confirmStore p x.timestamp (min x.voltage Config.storeVoltageMax)

/-! ## Store silence (R107) -/

/-- The store silence one-shot has come to its expiry. -/
def State.storeSilenceDue (s : State) : Bool :=
  match s.pool.storeSilence with
  | some t => decide (t ≤ s.now)
  | none => false

/-- The expiry of the store silence one-shot (R70, R107, R109). -/
def State.storeExpires (s : State) : State :=
  if s.storeSilenceDue then
    let left := s.pool.storeState
    let s := { s with
      pool.storeState := .silent
      pool.storeSilence := none
      pool.storeBaseline := none }
    s.holdForStore.report (.storeState left .silent .expiry s.pool.budget none)
  else s

/-- The Allocator takes a commit (R106, R180). -/
def State.storeCommitted (s : State) : State :=
  if s.pool.storeState = .unconfigured ∧ s.activeBank.store.isSome then
    { s with pool.storeState := .waiting }.report
      (.storeState .unconfigured .waiting .management s.pool.budget none)
  else s

end Sys2Proof.Machine
end

