-- ==== Sys2Proof/Machine/StackChannel.lean ====
section
/-! DEFINITION. The Stack Command Channel: STACK-STATUS frames (R136 to R138, R141, R142), the notice to the Allocator
(R96), the expiry of an acknowledgement timer (R139), and what a stack fault brings (R140). -/

namespace Sys2Proof.Machine

/-! ## Faults (R140) -/

/-- Whether a stack fault reaches an entry (R39, R140). -/
def Event.reachedByFault (k : Station) (e : Event) : Bool :=
  decide (e.copy.stack = k) &&
    !((decide (e.state = .closing) || decide (e.state = .reporting)) && decide (e.stackOrder = .none))

/-- Whether an event is on its protected path: REQUESTING, HELD or INJECTING. -/
def EventState.protected : EventState → Bool
  | .requesting => true
  | .held => true
  | .injecting => true
  | .bypassed => false
  | .closing => false
  | .reporting => false

/-- The cause STACK-FAULT brought to one entry (R140 step 2); the stack's BYPASS is queued apart. -/
def State.faultEvent (k : Station) (s : State) (i : EventIx) : State :=
  match s.entry i with
  | none => s
  | some e =>
    if e.reachedByFault k then
      if e.state.protected then (s.addMark i .stackFault).bypass i .stackFault true
      else s.addMark i .stackFault
    else s

/-- A release turned UNRESOLVED (R100). -/
def Release.turnUnresolved (x : Release) : Release := { x with state := .unresolved }

/-- The PENDING release of a stack. -/
def State.pendingReleaseOf (s : State) (k : Station) : Option ReleaseIx :=
  (s.releaseOf k).filter fun r => match s.release r with
    | some x => decide (x.state = .pending)
    | none => false

/-- The event of a stack that a fault takes off its protected path, as the STACK-FAULT report names it (R140): of several, the
one with the lowest index (DESIGN CHOICE, log entry 37). -/
def State.faultVictim (s : State) (k : Station) : Option EventIx :=
  allEvents.find? fun i => match s.entry i with
    | some e => decide (e.copy.stack = k) && e.state.protected
    | none => false

/-- Whether a fault reaches an event ordered INJECT (R140 step 3). -/
def State.faultMeetsInject (s : State) (k : Station) : Bool :=
  allEvents.any fun i => match s.entry i with
    | some e => e.reachedByFault k && decide (e.stackOrder = .inject)
    | none => false

/-- Steps 1 and 2 of R140: the release turns UNRESOLVED, the cause reaches the events, in rising event index (DESIGN CHOICE, log
entry 37). -/
def State.faultEffects (s : State) (k : Station) : State :=
  let s := match s.pendingReleaseOf k with
    | some r => s.modRelease r Release.turnUnresolved
    | none => s
  allEvents.foldl (State.faultEvent k) s

/-- Step 4 of R140: the alarm of the stack's bus and the STACK-FAULT report. -/
def State.reportFault (s : State) (k : Station) (expired : Option Command) (flushed : Nat) (event : Option EventIx)
    (release : Option ReleaseIx) : State :=
  let bus := s.busOfStack k
  let s := match bus with
    | some b => s.addAlarm b .stackFault
    | none => s
  s.report (.stackFault k bus expired flushed event release)

/-- A status frame reports TRIPPED (R138, R140). -/
def State.trip (s : State) (k : Station) : State :=
  let v := s.view k
  if v.tripped then s
  else
    let s := s.setView k { v with tripped := true }
    if v.unresponsive then s.reportFault k none 0 none none
    else
      let victim := s.faultVictim k
      let release := s.pendingReleaseOf k
      let commanded := s.faultMeetsInject k
      let s := s.faultEffects k
      let s := if commanded then s.queueCommand k .bypass else s
      s.reportFault k none 0 victim release

/-! ## Acknowledgement, recovery, and the tidy RELEASE -/

/-- What remains of an outstanding list when the SENT command of sequence `q` and all before it are acknowledged; absent when
no SENT command has it (R136 step 1). -/
def acknowledge (q : Seq) : List Outstanding → Option (List Outstanding)
  | [] => none
  | o :: rest => match o.standing with
    | .sent _ => if o.command.sequence = q then some rest else acknowledge q rest
    | .inTransmission => acknowledge q rest

/-- Step 1 of R136: acknowledgement, and a held command placed. -/
def State.settleAcknowledged (s : State) (k : Station) (q : Seq) : State :=
  match acknowledge q (s.view k).outstanding with
  | none => s
  | some rest =>
    (s.modView k fun v => { v with outstanding := rest, lastAcknowledged := some q }).placeHeld k

/-- Step 2 of R136: the view fields of the frame. -/
def StackView.reports (x : HandedStatus) (v : StackView) : StackView :=
  { v with reported := x.state, derate := x.derate, lastReported := some x.sequence }

/-- A timer started for a SENT command that has none (R141). -/
def Outstanding.startTimer (expiry : Nat) (o : Outstanding) : Outstanding :=
  match o.standing with
  | .sent none => { o with standing := .sent (some expiry) }
  | .sent (some _) => o
  | .inTransmission => o

/-- A faulted stack recovers (R141). -/
def StackView.recover (expiry : Nat) (v : StackView) : StackView :=
  { v with
    tripped := false
    unresponsive := false
    outstanding := v.outstanding.map (Outstanding.startTimer expiry) }

/-- Whether a status of this state ends a fault (R141) and may confirm a release (R96). -/
def StackState.quiet : StackState → Bool
  | .standby => true
  | .bypassed => true
  | .injecting => false
  | .tripped => false

/-- Step 3 of R136: TRIPPED is a fault, STANDBY and BYPASSED end one. -/
def State.settleFaults (s : State) (k : Station) (x : StackState) : State :=
  if x = .tripped then s.trip k
  else if x.quiet ∧ (s.view k).faulted then s.modView k (StackView.recover (s.now + Config.ackTimeout))
  else s

/-- Whether the stack's bus has an open event; no for a stack with no bus. -/
def State.busHasEvent (s : State) (k : Station) : Bool :=
  match s.busOfStack k with
  | some b => (s.channel b).openEvent.isSome
  | none => false

/-- Step 5 of R136 (R142). -/
def State.tidyStack (s : State) (k : Station) (x : StackState) : State :=
  let v := s.view k
  if x = .bypassed ∧ ¬ v.faulted ∧ v.outstanding = [] ∧ v.unsent = none ∧ ¬ s.busHasEvent k then
    s.queueCommand k .release
  else s

/-! ## The notice (R79, R96) -/

/-- Whether a notice confirms a release (R96). -/
def Notice.confirms (n : Notice) (x : Release) : Bool :=
  decide (x.state = .pending) && decide (n.acknowledged = some x.awaited) && decide (n.reported = x.awaited)
    && n.state.quiet

/-- The Allocator takes the notice of a status frame: confirmation (R96), then the availability check of a stack whose fault
set the frame emptied (R79, R141). -/
def State.takeNotice (s : State) (n : Notice) : State :=
  let s := match s.releaseOf n.stack with
    | none => s
    | some r => match s.release r with
      | none => s
      | some x => if n.confirms x then s.confirmRelease r else s
  if n.recovered then s.availabilityCheck n.stack else s

/-! ## The status frame (R136) -/

/-- Whether the channel takes a frame from this stack (R136). -/
def State.takesStatus (s : State) (k : Station) : Bool :=
  (allBuses.any fun b => match s.row b with
    | some r => decide (r.stack = k)
    | none => false)
    || !(s.view k).outstanding.isEmpty || (s.view k).unsent.isSome || (s.releaseOf k).isSome

/-- Step 4 of R136: the notice brought to the Allocator, taken at once where it is taken before step 5 (R91). -/
def State.notify (s : State) (n : Notice) (turn : NoticeTurn) : State :=
  match turn, s.handed.notices with
  | .first, [] => s.takeNotice n
  | _, _ => { s with handed.notices := s.handed.notices ++ [n] }

/-- A taken STACK-STATUS frame, in the five steps of R136. -/
def State.statusSteps (s : State) (k : Station) (x : HandedStatus) (turn : NoticeTurn) : State :=
  let s := (s.settleAcknowledged k x.sequence).modView k (StackView.reports x)
  let faulted := (s.view k).faulted
  let s := s.settleFaults k x.state
  let notice : Notice :=
    ⟨k, x.state, x.sequence, (s.view k).lastAcknowledged, faulted && !(s.view k).faulted⟩
  (s.notify notice turn).tidyStack k x.state

/-- The channel takes a STACK-STATUS frame, or counts it stray (R136). -/
def State.takeStatus (s : State) (x : HandedStatus) (turn : NoticeTurn) : State :=
  let stray := s.countPort fun c => { c with stray := c.stray + 1 }
  match stationAt? x.source with
  | none => stray
  | some k => if s.takesStatus k then s.statusSteps k x turn else stray

/-! ## The acknowledgement timer (R139) -/

/-- Whether an outstanding command's timer has come to its expiry. -/
def Outstanding.due (now : Nat) (o : Outstanding) : Bool :=
  match o.standing with
  | .sent (some t) => decide (t ≤ now)
  | .sent none => false
  | .inTransmission => false

/-- The view with its commands removed; the next command takes the number of an unsent one removed (R139). -/
def StackView.flushed (v : StackView) : StackView :=
  { v with
    unresponsive := true
    outstanding := []
    unsent := none
    nextSequence := v.takenSequence }

/-- How many commands a flush removes. -/
def StackView.liveCommands (v : StackView) : Nat := v.outstanding.length + (if v.unsent.isSome then 1 else 0)

/-- The stack's commands flushed and BYPASS queued (R139). -/
def State.flush (s : State) (k : Station) : State :=
  ((s.modView k StackView.flushed).takeOutCommand k).queueCommand k .bypass

/-- The expiry of an acknowledgement timer of a stack (R139, R140). -/
def State.ackExpires (s : State) (k : Station) : State :=
  let v := s.view k
  match v.outstanding.find? (Outstanding.due s.now) with
  | none => s
  | some o =>
    let s := s.flush k
    if v.tripped then s.reportFault k (some o.command) v.liveCommands none none
    else
      let victim := s.faultVictim k
      let release := s.pendingReleaseOf k
      (s.faultEffects k).reportFault k (some o.command) v.liveCommands victim release

end Sys2Proof.Machine
end

