-- ==== Sys2Proof/Machine/BusWatch.lean ====
section
/-! DEFINITION. Bus Watch: delivery and acceptance of SENSE frames (R2 to R5), the evaluation of an accepted frame in each
detection state (R7 to R16, R19), entering NORMAL (R23), silence (R17, R18) and service (R20, R21), and what it hands the
units that act on the same frame (R5, R6). -/

namespace Sys2Proof.Machine

/-! ## Entering NORMAL (R23) -/

/-- The bus adopts the active bank where it does not use it yet (R23 step 1). -/
def State.adopt (s : State) (b : Bus) : State := s.modChannel b fun c => { c with bankInUse := s.banks.active }

/-- The tidy RELEASE (R23 step 2). -/
def State.tidyBus (s : State) (b : Bus) : State :=
  match s.row b with
  | none => s
  | some r =>
    let v := s.view r.stack
    if v.reported = .bypassed ∧ ¬ v.unresponsive ∧ (s.releaseOf r.stack).isNone ∧ v.unsent = none ∧ v.outstanding = []
    then s.queueCommand r.stack .release
    else s

/-- The channel in NORMAL with nothing of a sag left (R23). -/
def BusChannel.cleared (c : BusChannel) : BusChannel :=
  { c with
    detection := .normal
    runCount := 0
    suspectStart := none
    suspectLowest := none
    openEvent := none
    untracked := false }

/-- A bus enters NORMAL (R23). -/
def State.enterNormal (s : State) (b : Bus) : State := ((s.modChannel b BusChannel.cleared).adopt b).tidyBus b

/-! ## The end of a sag (R13, R15) -/

/-- An untracked sag counted and ended (R13). -/
def State.endUntracked (s : State) (b : Bus) : State :=
  if (s.channel b).untracked then
    (s.countBus b fun c => { c with untrackedSags := c.untrackedSags + 1 }).modChannel b fun c =>
      { c with untracked := false }
  else s

/-- The sag of a bus ends: its open event with a cause, an untracked sag by being counted (R13, R15). -/
def State.endSag (s : State) (b : Bus) (cause : EndCause) : State :=
  let s := s.endUntracked b
  match (s.channel b).openEvent with
  | none => s
  | some i => (s.endEvent i cause).modChannel b fun c => { c with openEvent := none }

/-- The channel entering a state in which nothing of a sag is kept. -/
def BusChannel.leaveSag (target : Detection) (c : BusChannel) : BusChannel :=
  { c with detection := target, runCount := 0, suspectStart := none, suspectLowest := none }

/-! ## Confirmation (R10) -/

/-- The channel in SAG with its event, or untracked (R10). -/
def BusChannel.confirmed (event : Option EventIx) (c : BusChannel) : BusChannel :=
  { c with
    detection := .sag
    runCount := 0
    suspectStart := none
    suspectLowest := none
    openEvent := event
    untracked := event.isNone }

/-- A sag is confirmed (R10). -/
def State.confirmSag (s : State) (b : Bus) (r : BusRow) (f : AcceptedFrame) : State :=
  let c := s.channel b
  let start := c.suspectStart.getD f.frame.timestamp
  let lowest := c.suspectLowest.getD (isqrt f.frame.volts.minSquare)
  match s.openEvent r start lowest f with
  | some (i, s) =>
    (s.modChannel b (BusChannel.confirmed (some i))).countBus b fun c =>
      { c with eventsOpened := c.eventsOpened + 1 }
  | none => (s.modChannel b (BusChannel.confirmed none)).addAlarm b .mapFull

/-! ## Evaluation by state -/

/-- Whether m_min is below a threshold (R3). -/
def SenseFrame.below (f : SenseFrame) (threshold : Nat) : Bool := decide (f.volts.minSquare < threshold * threshold)

/-- The frame's minimum magnitude (R3). -/
def SenseFrame.lowest (f : SenseFrame) : Nat := isqrt f.volts.minSquare

/-- The run count after one more frame; its range ends at 64 (section 1.1). -/
def BusChannel.nextRun (c : BusChannel) : Nat := min (c.runCount + 1) Config.runCountMax

/-- The swell part of R8. -/
def State.evaluateSwell (s : State) (b : Bus) (r : BusRow) (f : AcceptedFrame) : State :=
  if r.swellThreshold * r.swellThreshold < f.frame.volts.maxSquare then
    (s.countBus b fun c => { c with swells := c.swells + 1 }).addAlarm b .swell
  else s

/-- A frame taken in NORMAL (R8). -/
def State.evaluateNormal (s : State) (b : Bus) (r : BusRow) (f : AcceptedFrame) : State :=
  let s := s.evaluateSwell b r f
  if f.frame.below r.sagThreshold then
    let s := s.modChannel b fun c =>
      { c with
        detection := .suspect
        runCount := 1
        suspectStart := some f.frame.timestamp
        suspectLowest := some f.frame.lowest }
    if r.confirmCount = 1 then s.confirmSag b r f else s
  else s

/-- A frame taken in SUSPECT (R9). -/
def State.evaluateSuspect (s : State) (b : Bus) (r : BusRow) (f : AcceptedFrame) : State :=
  if f.frame.below r.sagThreshold then
    let s := s.modChannel b fun c =>
      { c with
        runCount := c.nextRun
        suspectLowest := some (min (c.suspectLowest.getD f.frame.lowest) f.frame.lowest) }
    if (s.channel b).runCount = r.confirmCount then s.confirmSag b r f else s
  else (s.countBus b fun c => { c with dips := c.dips + 1 }).enterNormal b

/-- A recovery is complete (R13). -/
def State.completeRecovery (s : State) (b : Bus) : State := (s.endSag b .recovered).enterNormal b

/-- The lowest magnitude of the current strike of the bus's open event lowered (R11, R14). -/
def State.lowerStrike (s : State) (b : Bus) (f : AcceptedFrame) : State :=
  match (s.channel b).openEvent with
  | some i => s.modEvent i (Event.lowerStrike f.frame.lowest)
  | none => s

/-- A frame taken in SAG (R11). -/
def State.evaluateSag (s : State) (b : Bus) (r : BusRow) (f : AcceptedFrame) : State :=
  let s := s.lowerStrike b f
  if f.frame.below r.recoveryThreshold then s
  else
    let s := s.modChannel b fun c => { c with detection := .recovering, runCount := 1 }
    if r.recoverCount = 1 then s.completeRecovery b else s

/-- A new strike of the bus's open event (R12, R14). -/
def State.renewStrike (s : State) (b : Bus) (f : AcceptedFrame) : State :=
  match (s.channel b).openEvent with
  | some i => s.modEvent i fun e => e.addStrike (elapsedMillis f.frame.timestamp e.start) f.frame.lowest
  | none => s

/-- A frame taken in RECOVERING (R12). -/
def State.evaluateRecovering (s : State) (b : Bus) (r : BusRow) (f : AcceptedFrame) : State :=
  if ¬ f.frame.below r.recoveryThreshold then
    let s := s.modChannel b fun c => { c with runCount := c.nextRun }
    if (s.channel b).runCount = r.recoverCount then s.completeRecovery b else s
  else if ¬ f.frame.below r.sagThreshold then s.modChannel b fun c => { c with runCount := 0 }
  else (s.modChannel b fun c => { c with detection := .sag, runCount := 0 }).renewStrike b f

/-- The report of a transition made by a frame (R22). -/
def State.reportByFrame (s : State) (b : Bus) (left entered : Detection) (f : AcceptedFrame) : State :=
  s.report (.busState b left entered .frame (some f.frame.timestamp))

/-- A phase current is above the fault limit: the bus enters FAULTED (R15). -/
def State.enterFaulted (s : State) (b : Bus) (f : AcceptedFrame) : State :=
  let left := (s.channel b).detection
  ((s.endSag b .downstreamFault).modChannel b (BusChannel.leaveSag .faulted)).reportByFrame b left .faulted f

/-- A frame taken in FAULTED (R16). -/
def State.evaluateFaulted (s : State) (b : Bus) (r : BusRow) (f : AcceptedFrame) : State :=
  if f.frame.amps.anyAbove r.faultLimit then s.modChannel b fun c => { c with runCount := 0 }
  else
    let s := s.modChannel b fun c => { c with runCount := c.nextRun }
    if (s.channel b).runCount = r.recoverCount then (s.enterNormal b).reportByFrame b .faulted .normal f else s

/-- An accepted frame evaluated once against the state it finds (R7, R19). A frame taken in SAG whose current
is above the limit ends the event without lowering its strike: R7 leaves its voltages unevaluated, where R11 and R14 lower
the strike by every frame taken in SAG (DESIGN CHOICE, log entry 29). -/
def State.evaluate (s : State) (b : Bus) (r : BusRow) (f : AcceptedFrame) : State :=
  match (s.channel b).detection with
  | .faulted => s.evaluateFaulted b r f
  | .silent => (s.enterNormal b).reportByFrame b .silent .normal f
  | .outOfService => s
  | .normal => if f.frame.amps.anyAbove r.faultLimit then s.enterFaulted b f else s.evaluateNormal b r f
  | .suspect => if f.frame.amps.anyAbove r.faultLimit then s.enterFaulted b f else s.evaluateSuspect b r f
  | .sag => if f.frame.amps.anyAbove r.faultLimit then s.enterFaulted b f else s.evaluateSag b r f
  | .recovering => if f.frame.amps.anyAbove r.faultLimit then s.enterFaulted b f else s.evaluateRecovering b r f

/-! ## Delivery and acceptance (R2 to R5) -/

/-- What Bus Watch makes of a SENSE frame (R2, R4). -/
inductive Verdict where
  | stray
  | ignored (bus : Bus)
  | duplicate (bus : Bus)
  | stale (bus : Bus)
  | accepted (bus : Bus) (row : BusRow)
deriving DecidableEq, Repr

/-- The bus whose row in its own bank-in-use names the source as its head (R2). -/
def State.busOfHead (s : State) (source : Nat) : Option Bus :=
  allBuses.find? fun b => match s.row b with
    | some r => decide (r.head.address = source)
    | none => false

/-- The acceptance checks against a baseline (R4). -/
def BusChannel.judge (c : BusChannel) (b : Bus) (r : BusRow) (x : HandedSense) : Verdict :=
  match c.baseline with
  | none => .accepted b r
  | some base =>
    if x.sequence = base.sequence then .duplicate b
    else if isStale x.frame.timestamp base.timestamp then .stale b
    else .accepted b r

/-- The verdict on a SENSE frame as the channels stand (R2, R4). -/
def State.verdict (s : State) (x : HandedSense) : Verdict :=
  match s.busOfHead x.source with
  | none => .stray
  | some b =>
    if (s.channel b).detection = .outOfService then .ignored b
    else match s.row b with
      | none => .stray
      | some r => (s.channel b).judge b r x

/-- The frame that goes on to the other units: clamped values, and the bus's previous timestamp (R3, R122). -/
def BusChannel.acceptedFrame (c : BusChannel) (b : Bus) (r : BusRow) (x : HandedSense) : AcceptedFrame :=
  ⟨b, r.head, x.sequence, x.frame.clamped, c.baseline.map (·.timestamp)⟩

/-- GAP where frames from the head have been lost (R5). -/
def BusChannel.gapBefore (c : BusChannel) (sequence : Byte) : Bool :=
  match c.baseline with
  | none => false
  | some base => decide (sequence ≠ base.sequence + 1)

/-- The channel after R5 but for the evaluation: alarms, baseline, counter, one-shot. -/
def BusChannel.accept (now : Nat) (r : BusRow) (x : HandedSense) (c : BusChannel) : BusChannel :=
  let alarms := if c.gapBefore x.sequence then c.alarms.add .gap else c.alarms
  { c with
    alarms := if x.frame.degraded then alarms.add .headDegraded else alarms
    baseline := some ⟨x.sequence, x.frame.timestamp⟩
    counters := { c.counters with accepted := c.counters.accepted + 1 }
    silence := some (now + r.silenceTimeout) }

/-- The accepted frame handed to each unit that has not taken it ahead of Bus Watch (R5, R6). -/
def State.passOn (s : State) (f : AcceptedFrame) (taken : TakenAhead) : State :=
  { s with
    handed.injection := if taken.injection then s.handed.injection else s.handed.injection ++ [f]
    handed.envelope := if taken.envelope then s.handed.envelope else s.handed.envelope ++ [f]
    handed.capture := if taken.capture then s.handed.capture else s.handed.capture ++ [f] }

/-- Bus Watch takes a SENSE frame (R2 to R5). -/
def State.takeSense (s : State) (x : HandedSense) : State :=
  match s.verdict x with
  | .stray => s.countPort fun c => { c with stray := c.stray + 1 }
  | .ignored b => s.countBus b fun c => { c with ignored := c.ignored + 1 }
  | .duplicate b => s.countBus b fun c => { c with duplicates := c.duplicates + 1 }
  | .stale b => s.countBus b fun c => { c with stale := c.stale + 1 }
  | .accepted b r =>
    let f := (s.channel b).acceptedFrame b r x
    ((s.modChannel b (BusChannel.accept s.now r x)).evaluate b r f).passOn f x.taken

/-- Bus Watch takes the oldest SENSE frame handed to it, if there is one. -/
def State.takeNextSense (s : State) : State :=
  match s.handed.sense with
  | [] => s
  | x :: rest => { s with handed.sense := rest }.takeSense x

/-! ## Units that take a frame ahead of Bus Watch (R6) -/

/-- The frame at the head of Bus Watch's frames, as a unit would take it ahead: Bus Watch would accept it, the unit has not
taken it, and no frame of its bus waits for the unit. -/
def State.frameAhead (s : State) (waiting : List AcceptedFrame) (has : TakenAhead → Bool) : Option AcceptedFrame :=
  match s.handed.sense with
  | [] => none
  | x :: _ => match s.verdict x with
    | .accepted b r =>
      if has x.taken ∨ waiting.any fun f => decide (f.bus = b) then none
      else some ((s.channel b).acceptedFrame b r x)
    | _ => none

/-- The frame at the head of Bus Watch's frames marked as taken ahead. -/
def State.markAhead (s : State) (mark : TakenAhead → TakenAhead) : State :=
  match s.handed.sense with
  | [] => s
  | x :: rest => { s with handed.sense := { x with taken := mark x.taken } :: rest }

/-- Whether a unit has taken the frame ahead of Bus Watch. -/
def TakenAhead.any (t : TakenAhead) : Bool := t.injection || t.envelope || t.capture

/-- A request that may change what Bus Watch makes of a frame comes after the frame where a unit has taken the frame
ahead: an accepted frame is accepted for every unit (R5, R6). -/
def State.settleAhead (s : State) : State :=
  match s.handed.sense with
  | [] => s
  | x :: _ => if x.taken.any then s.takeNextSense else s

/-! ## Silence (R18) -/

/-- The silence one-shot of a bus has come to its expiry. -/
def State.silenceDue (s : State) (b : Bus) : Bool :=
  match (s.channel b).silence with
  | some t => decide (t ≤ s.now)
  | none => false

/-- The expiry of a bus's silence one-shot (R18). -/
def State.silenceExpires (s : State) (b : Bus) : State :=
  if s.silenceDue b then
    let left := (s.channel b).detection
    let s := (s.endSag b .lostSight).modChannel b (BusChannel.leaveSag .silent)
    (s.modChannel b fun c => { c with silence := none, baseline := none }).report
      (.busState b left .silent .expiry none)
  else s

/-! ## Service (R20, R21) -/

/-- A bus taken out of service (R20). -/
def State.serviceOff (s : State) (b : Bus) : State :=
  let left := (s.channel b).detection
  if left = .outOfService then s
  else
    let s := (s.endSag b .withdrawn).modChannel b (BusChannel.leaveSag .outOfService)
    (s.modChannel b fun c => { c with silence := none }).report (.busState b left .outOfService .management none)

/-- The silence one-shot started with the timeout of the row now in use (R17). -/
def State.startSilence (s : State) (b : Bus) : State :=
  match s.row b with
  | none => s
  | some r => s.modChannel b fun c => { c with silence := some (s.now + r.silenceTimeout) }

/-- A bus put in service; absent where its row in the active bank is invalid (R21). -/
def State.serviceOn (s : State) (b : Bus) : Option State :=
  if (s.channel b).detection ≠ .outOfService then some s
  else match s.activeBank.busRows[b] with
    | none => none
    | some _ =>
      let s := (s.modChannel b fun c => { c with baseline := none }).enterNormal b
      some ((s.startSilence b).report (.busState b .outOfService .normal .management none))

end Sys2Proof.Machine
end

