-- ==== Sys2Proof/Machine/Clock.lean ====
section
/-! DEFINITION. The passing of time: the timers that run, and the expiries that must be taken before a moment (R17, R83, R107,
R135: an expiry is taken no later than 1 µs after its time). -/

namespace Sys2Proof.Machine

/-- A timer, by its owner: the silence one-shot of a bus (R17), the store silence one-shot (R107), an acknowledgement timer
of a stack (R135), the wait timer of an event's request of a kind (R83). -/
inductive Timer where
  | silence (bus : Bus)
  | store
  | acknowledgement (stack : Station)
  | wait (kind : RequestKind) (event : EventIx)
deriving DecidableEq, Repr

/-- A running timer and its expiry time. -/
structure Running where
  timer : Timer
  expiry : Nat
deriving DecidableEq, Repr

/-- The acknowledgement timer of an outstanding command, where it has one that runs. -/
def Outstanding.running (k : Station) (o : Outstanding) : Option Running :=
  match o.standing with
  | .sent (some t) => some ⟨.acknowledgement k, t⟩
  | .sent none => none
  | .inTransmission => none

/-- The timers that run: the buses', the store's, the stacks' and the requests'. -/
def State.timers (s : State) : List Running :=
  allBuses.filterMap (fun b => (s.channel b).silence.map fun t => ⟨.silence b, t⟩)
    ++ (s.pool.storeSilence.map fun t => ⟨.store, t⟩).toList
    ++ allStations.flatMap (fun k => (s.view k).outstanding.filterMap (Outstanding.running k))
    ++ s.pool.grantQueue.map fun q => ⟨.wait q.kind q.event, q.expiry⟩

/-- The expiry of a timer (R18, R84, R85, R107, R139). -/
def State.expire (s : State) (x : Timer) : State :=
  match x with
  | .silence b => s.silenceExpires b
  | .store => s.storeExpires
  | .acknowledgement k => s.ackExpires k
  | .wait .first i => s.firstExpires i
  | .wait .topup i => s.topupExpires i

/-- The timers whose expiry must have been taken before `time`, in order of expiry; those of one expiry time in the order of
`State.timers` (DESIGN CHOICE, log entry 1). -/
def State.overdue (s : State) (time : Nat) : List Running :=
  sortByKey (·.expiry) (s.timers.filter fun x => decide (x.expiry + 1 < time))

/-- A timer taken at its expiry time. -/
def State.expireInTime (s : State) (x : Running) : State := { s with now := max s.now x.expiry }.expire x.timer

/-- The time base at `time`: the expiries that may not wait so long are taken at their times (R17, R83, R107, R135). Time
does not run back. -/
def State.at (s : State) (time : Nat) : State :=
  { (s.overdue (max s.now time)).foldl State.expireInTime s with now := max s.now time }

end Sys2Proof.Machine
end

