-- ==== Sys2Proof/Machine/EnvelopeUnit.lean ====
section
/-! DEFINITION. The Envelope Unit: which frames it judges (R55), the residual (R56), the lowest residual (R62), the breach run
and a confirmed breach under both policies (R57 to R60). -/

namespace Sys2Proof.Machine

/-- Whether the Envelope Unit judges a frame of the bus's open event in this state (R55). -/
def EventState.judged : EventState → Bool
  | .injecting => true
  | .held => true
  | .bypassed => true
  | .requesting => false
  | .closing => false
  | .reporting => false

/-- The residual vectors of a frame for an event (R56). -/
def State.residual (s : State) (e : Event) (f : SenseFrame) : ThreePhase :=
  let v := s.view e.copy.stack
  if v.reported = .injecting ∧ ¬ v.unresponsive then
    match (s.record e.copy.stack).inEffect with
    | some r => f.volts.add r.volts
    | none => f.volts
  else f.volts

/-- Whether a residual square is below the floor at `t` ms (R57). -/
def EnvelopeRow.undercut (e : EnvelopeRow) (square t : Nat) : Bool := decide (square < e.floorAt t * e.floorAt t)

/-- The breach run after a judged frame (R57). -/
def Event.nextBreachRun (e : Event) (below : Bool) : Nat :=
  if below then (if e.breachRun < e.copy.envelope.breachConfirm then e.breachRun + 1 else e.breachRun) else 0

/-- Whether a judged frame confirms a breach: the increment that reaches the count (R58). -/
def Event.confirmsBreach (e : Event) (below : Bool) : Bool :=
  below && decide (e.breachRun < e.copy.envelope.breachConfirm)
    && decide (e.breachRun + 1 = e.copy.envelope.breachConfirm)

/-- The exposure of an event after a judged frame (R57, R62). -/
def Event.exposed (square : Nat) (below : Bool) (e : Event) : Event :=
  { e with
    breachRun := e.nextBreachRun below
    lowestResidual := some (match e.lowestResidual with
      | some m => min m (isqrt square)
      | none => isqrt square) }

/-- A confirmed breach: the mark, the alarm, and the policy (R58 to R60). -/
def State.breach (s : State) (i : EventIx) (e : Event) : State :=
  let s := (s.addMark i .breach).addAlarm e.bus .breach
  if e.copy.policy = .abandon ∧ (e.state = .injecting ∨ e.state = .held) then s.bypass i .abandoned false else s

/-- A frame judged for an event (R55 to R62). -/
def State.judge (s : State) (i : EventIx) (e : Event) (f : SenseFrame) : State :=
  let square := (s.residual e f).minSquare
  let below := e.copy.envelope.undercut square (elapsedMillis f.timestamp e.start)
  let s := s.setEntry i (some (e.exposed square below))
  if e.confirmsBreach below then s.breach i e else s

/-- The Envelope Unit takes an accepted frame (R55). -/
def State.envelopeTakes (s : State) (f : AcceptedFrame) : State :=
  match (s.channel f.bus).openEvent with
  | none => s
  | some i => match s.entry i with
    | none => s
    | some e => if e.state.judged then s.judge i e f.frame else s

end Sys2Proof.Machine
end

