-- ==== Sys2Proof/Machine/InjectionUnit.lean ====
section
/-! DEFINITION. The Injection Unit's work on an accepted frame, in the five stages of R114: metering (R94, R95, R121 to
R124), exhaustion (R126), top-up (R127), step-down (R128, R129), and the reference (R115 to R119). -/

namespace Sys2Proof.Machine

/-! ## Metering -/

/-- The time a frame meters, in µs (R122). -/
def State.meteringTime (s : State) (f : AcceptedFrame) : Nat :=
  match f.previous with
  | none => 0
  | some p => match s.row f.bus with
    | some r => min (elapsedMicros f.frame.timestamp p) r.silenceTimeout
    | none => elapsedMicros f.frame.timestamp p

/-- The increment of a metered stack record, in nJ (R122). -/
def StackRecord.increment (x : StackRecord) (amps : Currents) (micros : Nat) : Nat :=
  match x.inEffect with
  | none => 0
  | some r => injectedPower r.volts r.nominal amps * micros

/-- An accumulator after an increment: it stops at 2⁶⁴ − 1 (R94, R123). -/
def accumulate (accumulator increment : Nat) : Nat := min (accumulator + increment) Config.maxNanojoules

/-- The whole joules an increment meters (R94 step 1). -/
def meteredJoules (accumulator increment : Nat) : Nat :=
  accumulate accumulator increment / Config.nanoPerJoule - accumulator / Config.nanoPerJoule

/-- A release after an increment (R94). -/
def Release.metered (x : Release) (increment : Nat) : Release :=
  let joules := meteredJoules x.accumulator increment
  { x with
    accumulator := accumulate x.accumulator increment
    amount := x.amount - min joules x.amount
    overdraw := clampJoules (x.overdraw + (joules - min joules x.amount)) }

/-- An increment metered into a PENDING release (R94); D grows by what the amount gives up (R69). -/
def State.meterRelease (s : State) (r : ReleaseIx) (x : Release) (increment : Nat) : State :=
  { s.setRelease r (some (x.metered increment)) with
    pool.drawn := s.pool.drawn + min (meteredJoules x.accumulator increment) x.amount }

/-- An event after an increment, before its figures are computed again (R123). -/
def Event.metered (e : Event) (increment : Nat) (timestamp : U32) : Event :=
  { e with
    accumulator := accumulate e.accumulator increment
    lastFrame := timestamp
    marks := if Config.maxNanojoules ≤ e.accumulator + increment then e.marks.add .sat else e.marks }

/-- An increment metered into an event (R123, R124). -/
def State.meterEvent (s : State) (i : EventIx) (e : Event) (increment micros : Nat) (timestamp : U32) : State :=
  let s := s.putRecounted i (e.metered increment timestamp)
  let s := if 0 < micros then s.setRate i (some (increment / micros)) else s
  s.endSpentWait i

/-- Whether an event in this state takes its stack's draw (R121 case 3). -/
def EventState.metered : EventState → Bool
  | .injecting => true
  | .bypassed => true
  | .closing => true
  | .requesting => false
  | .held => false
  | .reporting => false

/-- An increment of a stack given to its one accumulator, or to none (R121). -/
def State.meterInto (s : State) (k : Station) (increment micros : Nat) (timestamp : U32) : State :=
  match s.releaseOf k with
  | some r => match s.release r with
    | some x => if x.state = .pending then s.meterRelease r x increment else s
    | none => s
  | none => match (s.record k).drawingEvent with
    | none => s
    | some i => match s.entry i with
      | some e => if e.state.metered then s.meterEvent i e increment micros timestamp else s
      | none => s

/-- Whether a frame of a bus meters a stack (R121). -/
def State.metersStack (s : State) (b : Bus) (k : Station) : Bool :=
  decide ((s.record k).boundBus = some b) && decide ((s.view k).reported = .injecting) && !(s.view k).unresponsive

/-- One stack record metered for a frame (R121, R122). -/
def State.meterStack (f : AcceptedFrame) (micros : Nat) (s : State) (k : Station) : State :=
  if s.metersStack f.bus k then
    s.meterInto k ((s.record k).increment f.frame.amps micros) micros f.frame.timestamp
  else s

/-- Stage 1 of R114, over the stacks in rising ring address (DESIGN CHOICE, log entry 36). -/
def State.meter (s : State) (f : AcceptedFrame) : State :=
  let micros := s.meteringTime f
  allStations.foldl (State.meterStack f micros) s

/-! ## Top-up -/

/-- The top-up trigger (R127). -/
def State.topupDue (s : State) (i : EventIx) (e : Event) : Bool :=
  decide (e.state = .injecting) &&
    (decide ((s.channel e.bus).detection = .sag) || decide ((s.channel e.bus).detection = .recovering)) &&
    (s.requestOf i).isNone && decide (3 * e.grant ≤ 4 * e.spent)

/-- Stage 3 of R114. -/
def State.bringTopup (s : State) (i : EventIx) (e : Event) : State :=
  if s.topupDue i e then { s with handed.topups := s.handed.topups ++ [⟨i, e.openOrder⟩] } else s

/-! ## Step-down -/

/-- The projected need of an event at `t` ms, in J (R128). -/
def Event.projectedNeed (e : Event) (rate t : Nat) : Nat :=
  rate * max (e.copy.envelope.horizon - t) 100 / 1000000

/-- Whether the ladder steps down (R128). -/
def State.stepsDown (s : State) (i : EventIx) (e : Event) (t : Nat) : Bool :=
  match s.rate i with
  | some rate => decide (e.unspent < e.projectedNeed rate t)
  | none => false

/-- The event one step down (R128). -/
def Event.steppedDown (e : Event) : Event :=
  { e with ladderStep := e.ladderStep + 1, deepestStep := some (e.ladderStep + 1) }

/-! ## The reference -/

/-- Stage 5 of R114: the reference computed, stored and emitted (R119). -/
def State.emitReference (s : State) (i : EventIx) (e : Event) (f : SenseFrame) (t : Nat) : State :=
  let volts := e.copy.reference (s.view e.copy.stack).derate e.ladderStep t f.volts
  (s.setEntry i (some { e with lastReference := some volts })).placeReference e.copy.stack
    ⟨i, e.ladderStep, volts, e.copy.nominal⟩

/-- Stages 4 and 5 of R114. -/
def State.stepAndEmit (s : State) (i : EventIx) (e : Event) (f : SenseFrame) : State :=
  let t := elapsedMillis f.timestamp e.start
  if s.stepsDown i e t then
    let s := s.setEntry i (some e.steppedDown)
    if 3 ≤ e.steppedDown.ladderStep then s.bypass i .exhausted false else s.emitReference i e.steppedDown f t
  else s.emitReference i e f t

/-- Stages 2 to 5 of R114 for the bus's open event. -/
def State.drive (s : State) (i : EventIx) (e : Event) (f : SenseFrame) : State :=
  if e.grant ≤ e.spent then s.bypass i .exhausted false else (s.bringTopup i e).stepAndEmit i e f

/-- The Injection Unit takes an accepted frame (R114). -/
def State.injectionTakes (s : State) (f : AcceptedFrame) : State :=
  let s := s.meter f
  match (s.channel f.bus).openEvent with
  | none => s
  | some i => match s.entry i with
    | none => s
    | some e => if e.state = .injecting then s.drive i e f.frame else s

end Sys2Proof.Machine
end

