-- ==== Sys2Proof/Machine/Port.lean ====
section
/-! DEFINITION. The ring ports: an arriving run of bytes checked, classified and handed over (R159 to R165, R181), and the
completion of the frame on the egress link (R120, R135, R168). -/

namespace Sys2Proof.Machine

/-! ## Arrival -/

/-- Whether a delimited run has the length its body-length byte gives and a matching check sequence (R159, R160). -/
def wellChecked (bytes : List Byte) : Bool :=
  let n := byteAt bytes 3
  decide (7 ≤ bytes.length) && decide (bytes.length = 5 + n + 2)
    && decide (bytes.drop (5 + n) = checkBytes (bytes.take (5 + n)))

/-- The body of a run that has passed its checks. -/
def bodyOf (bytes : List Byte) : List Byte := (bytes.drop 5).take (byteAt bytes 3)

/-- A frame discarded as malformed (R161). -/
def State.malformed (s : State) : State := s.countPort fun c => { c with malformed := c.malformed + 1 }

/-- A SENSE frame: its length checked, then handed to Bus Watch (R161 to R163). -/
def State.arriveSense (s : State) (source : Nat) (sequence : Byte) (body : List Byte) : State :=
  if body.length = 23 then
    { s with handed.sense := s.handed.sense ++ [⟨source, sequence, decodeSense body, ⟨false, false, false⟩⟩] }
  else s.malformed

/-- A STORE frame: its body checked, then handed to the Allocator (R161 to R163). -/
def State.arriveStore (s : State) (source : Nat) (header : Byte) (body : List Byte) : State :=
  match decodeStore source header body with
  | some x => { s with handed.store := s.handed.store ++ [x] }
  | none => s.malformed

/-- A STACK-STATUS frame: its body checked, then handed to the Stack Command Channel (R161 to R163). -/
def State.arriveStatus (s : State) (source : Nat) (header : Byte) (body : List Byte) : State :=
  match decodeStatus source header body with
  | some x => { s with handed.status := s.handed.status ++ [x] }
  | none => s.malformed

/-- A request at the tail of the request queue, or discarded and counted (R181). -/
def State.enterRequest (s : State) (r : Request) : State :=
  if s.management.requests.length < Config.requestCapacity then
    { s with management.requests := s.management.requests ++ [r] }
  else s.countPort fun c => { c with requestOverflow := c.requestOverflow + 1 }

/-- A MANAGEMENT-REQUEST: its source, then its length checked, then brought to the Management Unit (R161 to R163). -/
def State.arriveRequest (s : State) (source : Nat) (header : Byte) (body : List Byte) : State :=
  if source ≠ Config.gateway then s.countPort fun c => { c with foreignManagement := c.foreignManagement + 1 }
  else match body with
    | tag :: kind :: fields => s.enterRequest ⟨header, tag, kind, fields⟩
    | _ => s.malformed

/-- A frame to node 0, by its kind, with its header's source and sequence number (R161 steps 4 to 7, R163). -/
def State.deliver (s : State) (bytes : List Byte) : State :=
  let source := byteAt bytes 1
  let header := bytes.getD 4 0
  let body := bodyOf bytes
  match byteAt bytes 2 with
  | 1 => s.arriveSense source header body
  | 2 => s.arriveStore source header body
  | 3 => s.arriveStatus source header body
  | 5 => s.arriveRequest source header body
  | _ => s.countPort fun c => { c with unknownKind := c.unknownKind + 1 }

/-- A frame that passes its checks, classified (R161). -/
def State.classify (s : State) (bytes : List Byte) : State :=
  if 63 < byteAt bytes 0 ∨ 63 < byteAt bytes 1 then s.malformed
  else if byteAt bytes 1 = 0 then s.countPort fun c => { c with returned := c.returned + 1 }
  else if byteAt bytes 0 ≠ 0 then s.enqueueTransit bytes
  else s.deliver bytes

/-- A delimited run of bytes has arrived whole (R160). -/
def State.arrive (s : State) (bytes : List Byte) : State :=
  let s := s.countPort fun c => { c with received := c.received + 1 }
  if wellChecked bytes then s.classify bytes
  else s.countPort fun c => { c with checkFailures := c.checkFailures + 1 }

/-! ## Completion -/

/-- The frames-sent counter of a frame's queue (R168). -/
def PortCounters.sent (f : EgressFrame) (c : PortCounters) : PortCounters :=
  match f with
  | .drive _ => { c with driveSent := c.driveSent + 1 }
  | .response _ => { c with responsesSent := c.responsesSent + 1 }
  | .transit _ => { c with transitSent := c.transitSent + 1 }
  | .report _ => { c with reportsSent := c.reportsSent + 1 }

/-- The stack record after a DRIVE frame's completion (R120). -/
def StackRecord.completed (f : DriveFrame) (x : StackRecord) : StackRecord :=
  match f.reference, f.command with
  | some r, _ => { x with inEffect := some r }
  | none, some c => match c.kind with
    | .inject _ => { x with inEffect := none }
    | .bypass | .release => x
  | none, none => x

/-- A command that was IN-TRANSMISSION and is SENT (R135). -/
def Outstanding.complete (q : Seq) (timer : Option Nat) (o : Outstanding) : Outstanding :=
  if o.command.sequence = q ∧ o.standing = .inTransmission then { o with standing := .sent timer } else o

/-- The view after the completion of a frame that carried a command (R135). -/
def StackView.completed (q : Seq) (now : Nat) (v : StackView) : StackView :=
  let timer := if v.unresponsive then none else some (now + Config.ackTimeout)
  { v with outstanding := v.outstanding.map (Outstanding.complete q timer) }

/-- The completion notices (R168). -/
def State.completionNotices (s : State) (f : EgressFrame) : State :=
  match f with
  | .drive d =>
    let s := s.modRecord d.stack (StackRecord.completed d)
    match d.command with
    | some c => s.modView d.stack (StackView.completed c.sequence s.now)
    | none => s
  | .response _ => s
  | .transit _ => s
  | .report _ => s

/-- The frame on the egress link completes, and the next is chosen (R166, R168). -/
def State.complete (s : State) : State :=
  match s.ring.port with
  | none => s
  | some p =>
    let s := (s.countPort (PortCounters.sent p.frame)).completionNotices p.frame
    { s with ring.port := none }.kick

end Sys2Proof.Machine
end

