-- ==== Sys2Proof/Machine/Tables.lean ====
section
/-! DEFINITION. The Management Unit's handling of a request (R181, R182), and the requests on the tables: loads (R50, R51,
R174 to R177), READ ROW (R178) and COMMIT BANK (R26, R179, R180). -/

namespace Sys2Proof.Machine

/-! ## One request (R181, R182) -/

/-- What a request leaves: the state and the result. -/
abbrev Handled := State × Result

/-- A request refused: the state as it was. -/
def State.refuse (s : State) (reason : Reason) : Handled := (s, .refused reason)

/-- A request done. -/
def State.done (s : State) (answer : Answer) : Handled := (s, .done answer)

/-- Refused for a reason, if there is one; else what follows. -/
def State.unless (s : State) (reason : Option Reason) (go : Handled) : Handled :=
  match reason with
  | some r => s.refuse r
  | none => go

/-- Whether the Management Unit takes the request at the head of its queue as one of a row: it is of that row, and the
response queue has room (R181). -/
def State.takesHead (s : State) (row : RequestRow) : Bool :=
  match s.management.requests with
  | [] => false
  | r :: _ => decide (r.row = row) && decide (s.ring.responses.length < Config.responseCapacity)

/-- The request at the head of the request queue taken as one of a row: its effects made and its response queued (R181).
Nothing where there is none to take. -/
def State.answerHead (s : State) (row : RequestRow) (f : Request → State → Handled) : State :=
  match s.management.requests with
  | [] => s
  | r :: rest =>
    if s.takesHead row then
      let handled := f r { s with management.requests := rest }
      handled.1.respond ⟨r.tag, r.kind, handled.2⟩
    else s

/-- The same for a request that may change what Bus Watch makes of a frame: a frame that a unit has taken ahead of Bus Watch
comes before the request (R6). -/
def State.answerSettled (s : State) (row : RequestRow) (f : Request → State → Handled) : State :=
  (if s.takesHead row then s.settleAhead else s).answerHead row f

/-! ## Loads -/

/-- BANK while any bus uses the standby bank (R174). -/
def State.checkBank (s : State) : Option Reason :=
  if allBuses.any fun b => decide ((s.channel b).bankInUse = s.standbyIx) then some .bank else none

/-- A bus row of the standby bank changed. -/
def State.putStandbyRow (s : State) (b : Bus) (r : Option BusRow) : State :=
  s.setStandby { s.standbyBank with busRows := s.standbyBank.busRows.set b r }

/-- An envelope row of the standby bank changed. -/
def State.putStandbyEnvelope (s : State) (i : EnvelopeIx) (r : EnvelopeRow) : State :=
  s.setStandby { s.standbyBank with envelopes := s.standbyBank.envelopes.set i (some r) }

/-- The standby bank's Store Parameters changed. -/
def State.putStandbyStore (s : State) (p : Option StoreParameters) : State :=
  s.setStandby { s.standbyBank with store := p }

/-- Whether a row names a node, as its head or its stack. -/
def BusRow.names (r : BusRow) (k : Station) : Bool := decide (r.head = k) || decide (r.stack = k)

/-- Whether a row and another share a node. -/
def BusRow.meets (r q : BusRow) : Bool := r.names q.head || r.names q.stack

/-- The address check of a bus row in a bank (R176). -/
def Bank.rowConflicts (bank : Bank) (b : Bus) (r : BusRow) : Bool :=
  decide (r.head = r.stack)
    || (allBuses.any fun c => match bank.busRows[c] with
      | some q => decide (c ≠ b) && r.meets q
      | none => false)
    || (match bank.store with
      | some p => r.names p.head
      | none => false)

/-- The address check of a Store Parameters set in a bank (R176). -/
def Bank.storeConflicts (bank : Bank) (p : StoreParameters) : Bool :=
  allBuses.any fun c => match bank.busRows[c] with
    | some q => q.names p.head
    | none => false

/-- LOAD BUS ROW from its second field on (R175). -/
def State.loadRowOf (s : State) (f : List Byte) (b : Bus) : Handled :=
  if byteAt f 1 = 0 then (s.putStandbyRow b none).done .nothing
  else s.unless (busRowChecks f)
    (if s.standbyBank.rowConflicts b (busRowOf f) then s.refuse (.conflict none)
    else (s.putStandbyRow b (some (busRowOf f))).done .nothing)

/-- LOAD BUS ROW (R174, R175). A valid indication that is neither is refused with RANGE (entry 11). -/
def loadBusRow (r : Request) (s : State) : Handled :=
  let f := r.fields
  s.unless (busRowLength f) (s.unless s.checkBank
    (match busAt? (byteAt f 0) with
      | none => s.refuse (.range 0 (byteAt f 0))
      | some b => s.unless (checkRange 1 (byteAt f 1) 0 1) (s.loadRowOf f b)))

/-- The length a LOAD ENVELOPE ROW's fields must have by its breakpoint count (R183); a count that may not be is left to
its own check. -/
def envelopeLength (f : List Byte) : Option Reason :=
  if f.length < 2 then checkLength f 2
  else if 2 ≤ byteAt f 1 ∧ byteAt f 1 ≤ 8 then checkLength f (6 + 4 * byteAt f 1)
  else none

/-- LOAD ENVELOPE ROW (R50, R51, R174). -/
def loadEnvelopeRow (r : Request) (s : State) : Handled :=
  let f := r.fields
  s.unless (envelopeLength f) (s.unless s.checkBank (s.unless (envelopeRowChecks f)
    (match envelopeAt? (byteAt f 0) with
      | none => s.refuse (.range 0 (byteAt f 0))
      | some i => (s.putStandbyEnvelope i (envelopeRowOf f)).done .nothing)))

/-- LOAD STORE PARAMETERS past the bank check (R177). -/
def State.loadStoreOf (s : State) (f : List Byte) : Handled :=
  if byteAt f 0 = 0 then (s.putStandbyStore none).done .nothing
  else s.unless (storeChecks f)
    (if s.standbyBank.storeConflicts (storeOf f) then s.refuse (.conflict none)
    else (s.putStandbyStore (some (storeOf f))).done .nothing)

/-- LOAD STORE PARAMETERS (R174, R177). -/
def loadStoreParameters (r : Request) (s : State) : Handled :=
  let f := r.fields
  s.unless (storeLength f) (s.unless s.checkBank
    (s.unless (checkRange 0 (byteAt f 0) 0 1) (s.loadStoreOf f)))

/-! ## READ ROW (R178) -/

/-- The length a READ ROW's fields must have by its table (R183). -/
def readRowLength (f : List Byte) : Option Reason :=
  if f.length < 2 then checkLength f 3
  else match byteAt f 1 with
    | 0 => checkLength f 3
    | 1 => checkLength f 3
    | 2 => checkLength f 2
    | _ => none

/-- The row of a table, by its number (R178). -/
def State.readTable (s : State) (bank : Bank) (f : List Byte) : Handled :=
  match byteAt f 1 with
  | 0 => match busAt? (byteAt f 2) with
    | some b => s.done (.busRow bank.busRows[b])
    | none => s.refuse (.range 2 (byteAt f 2))
  | 1 => match envelopeAt? (byteAt f 2) with
    | some i => s.done (.envelopeRow bank.envelopes[i])
    | none => s.refuse (.range 2 (byteAt f 2))
  | 2 => s.done (.storeRow bank.store)
  | n => s.refuse (.range 1 n)

/-- READ ROW (R178). R178 gives its checks no order: the bank is checked, then the table, then the row number, and a refusal names
the first that fails (DESIGN CHOICE, log entry 40). -/
def readRow (r : Request) (s : State) : Handled :=
  let f := r.fields
  s.unless (readRowLength f)
    (match bankAt? (byteAt f 0) with
      | none => s.refuse (.range 0 (byteAt f 0))
      | some i => s.readTable (s.bank i) f)

/-! ## COMMIT BANK (R179, R180) -/

/-- The lowest bus in service whose standby row is invalid (R179, second check). -/
def State.commitUnserved (s : State) : Option Bus :=
  allBuses.find? fun b => decide ((s.channel b).detection ≠ .outOfService) && (s.standbyBank.busRows[b]).isNone

/-- The lowest bus whose standby row names an invalid envelope row (R52, R179, third check). -/
def State.commitUnenveloped (s : State) : Option Bus :=
  allBuses.find? fun b => match s.standbyBank.busRows[b] with
    | some r => (s.standbyBank.envelopes[r.envelope]).isNone
    | none => false

/-- Whether a row meets the active row of a bus other than `b` (R179, fourth check). -/
def State.movesAddress (s : State) (b : Bus) (r : BusRow) : Bool :=
  allBuses.any fun c => match s.activeBank.busRows[c] with
    | some q => decide (c ≠ b) && r.meets q
    | none => false

/-- The lowest bus whose standby row names an address of another bus's active row (R179, fourth check). -/
def State.commitMoved (s : State) : Option Bus :=
  allBuses.find? fun b => match s.standbyBank.busRows[b] with
    | some r => s.movesAddress b r
    | none => false

/-- The buses that have not adopted the active bank. -/
def State.differing (s : State) : List Bus := allBuses.filter fun b => decide ((s.channel b).bankInUse ≠ s.banks.active)

/-- The checks of COMMIT BANK, in order (R179). -/
def State.commitChecks (s : State) : Option Reason :=
  if ¬ s.differing.isEmpty then some .busy
  else match s.commitUnserved with
    | some b => some (.state (some b))
    | none => match s.commitUnenveloped with
      | some b => some (.state (some b))
      | none => match s.commitMoved with
        | some b => some (.conflict (some b))
        | none => none

/-- Whether a bus defers its adoption (R26). -/
def BusChannel.defers (c : BusChannel) : Bool := c.openEvent.isSome || decide (c.detection = .suspect)

/-- A channel at a commit: it adopts at once or defers (R26). -/
def BusChannel.committed (active : BankIx) (c : BusChannel) : BusChannel :=
  if c.defers then c else { c with bankInUse := active }

/-- An accepted COMMIT BANK carried out (R180). -/
def State.commit (s : State) : Handled :=
  let active := s.standbyIx
  let s := { s with
    banks.active := active
    channels := eachMember (BusChannel.committed active) s.channels }
  let s := s.storeCommitted
  s.done (.committed s.differing)

/-- COMMIT BANK (R179, R180). -/
def commitBank (r : Request) (s : State) : Handled :=
  s.unless (checkLength r.fields 0) (s.unless s.commitChecks s.commit)

end Sys2Proof.Machine
end

