-- ==== Sys2Proof/Machine/Management.lean ====
section
/-! DEFINITION. The management requests other than those on the tables: service and capture (R20, R21, R146, R147), the reads
(R48, R87, R108, R156, R157, R171, R184), the snapshot (R185, R186) and RESTART (R27, R47, R65, R145, R188, R189). -/

namespace Sys2Proof.Machine

/-- A request whose one field numbers a bus (R182). -/
def State.onBus (s : State) (fields : List Byte) (go : Bus → Handled) : Handled :=
  match busAt? (byteAt fields 0) with
  | none => s.refuse (.range 0 (byteAt fields 0))
  | some b => go b

/-- A request whose first field numbers a capture channel (R146, R147, R157). -/
def State.onRecorder (s : State) (place : Nat) (fields : List Byte) (go : CaptureIx → Handled) : Handled :=
  match captureAt? (byteAt fields place) with
  | none => s.refuse (.range place (byteAt fields place))
  | some k => go k

/-! ## Service -/

/-- SET SERVICE, its indication not on (R20); an indication that is neither is refused with RANGE (entry 11), the bus checked
first (DESIGN CHOICE, log entry 40). -/
def setServiceOff (r : Request) (s : State) : Handled :=
  s.unless (checkLength r.fields 2) (s.onBus r.fields fun b =>
    s.unless (checkRange 1 (byteAt r.fields 1) 0 1) ((s.serviceOff b).done .nothing))

/-- SET SERVICE, its indication on (R21). -/
def setServiceOn (r : Request) (s : State) : Handled :=
  s.unless (checkLength r.fields 2) (s.onBus r.fields fun b =>
    match s.serviceOn b with
    | some s => s.done .nothing
    | none => s.refuse (.state none))

/-! ## Capture -/

/-- A channel masked (R147, R150). -/
def State.maskRecorder (s : State) (k : CaptureIx) : State :=
  let s := if (s.recorder k).state = .running then s.truncatePass k else s
  s.modRecorder k fun c => { c with state := .masked }

/-- A channel unmasked (R147). -/
def CaptureChannel.unmasked (c : CaptureChannel) : CaptureChannel :=
  if c.state = .masked then { c with state := .idle } else c

/-- SET CAPTURE MASK, its indication masked (R147). -/
def captureMask (r : Request) (s : State) : Handled :=
  s.unless (checkLength r.fields 2) (s.onRecorder 0 r.fields fun k => (s.maskRecorder k).done .nothing)

/-- SET CAPTURE MASK, its indication not masked (R147); one that is neither is refused with RANGE (entry 11), the channel checked
first (DESIGN CHOICE, log entry 40). -/
def captureUnmask (r : Request) (s : State) : Handled :=
  s.unless (checkLength r.fields 2) (s.onRecorder 0 r.fields fun k =>
    s.unless (checkRange 1 (byteAt r.fields 1) 0 1) ((s.modRecorder k CaptureChannel.unmasked).done .nothing))

/-- A channel with new programming (R146). -/
def CaptureChannel.programmed (base count : Nat) (mode : CaptureMode) (c : CaptureChannel) : CaptureChannel :=
  { c with
    state := if c.state = .masked then .masked else .idle
    base := base
    count := count
    mode := mode
    current := base
    written := 0
    halfNotified := false
    passCount := 0
    bus := none
    event := none
    status := .freed
    startFrame := none }

/-- LOAD CAPTURE CHANNEL (R146). R146 lists no check of the mode code: an undefined one is refused with RANGE before the
RUNNING check (DESIGN CHOICE, log entry 34). -/
def loadCaptureChannel (r : Request) (s : State) : Handled :=
  let f := r.fields
  s.unless (checkLength f 6) (s.onRecorder 0 f fun k =>
    s.unless (checkRange 1 (wordAt f 1) 0 65535) (s.unless (checkRange 2 (wordAt f 3) 0 4095)
      (s.unless (checkRange 3 (byteAt f 5) 0 1)
        (if (s.recorder k).state = .running then s.refuse (.state none)
        else (s.modRecorder k (CaptureChannel.programmed (wordAt f 1) (wordAt f 3) (modeOf (byteAt f 5)))).done
          .nothing))))

/-- The records at an address and those that follow it, in address order (R156). -/
def recordsFrom (m : Memory) (start : Nat) : Nat → List CaptureRecord
  | 0 => []
  | n + 1 => Memory.read m start :: recordsFrom m (start + 1) n

/-- READ CAPTURE, not in the channel form (R156); a form that is neither is refused with RANGE (entry 11). -/
def readCaptureRecords (r : Request) (s : State) : Handled :=
  let f := r.fields
  s.unless (checkRange 0 (byteAt f 0) 1 1) (s.unless (checkLength f 4)
    (s.unless (checkRange 1 (wordAt f 1) 0 65535) (s.unless (checkRange 2 (byteAt f 3) 1 16)
      (s.unless (checkRange 2 (byteAt f 3) 0 (Config.captureRecords - wordAt f 1))
        (s.done (.records (recordsFrom s.capture.memory (wordAt f 1) (byteAt f 3))))))))

/-- READ CAPTURE in the channel form (R157). -/
def readCaptureChannel (r : Request) (s : State) : Handled :=
  s.unless (checkLength r.fields 2) (s.onRecorder 1 r.fields fun k => s.done (.captureChannel (s.recorder k)))

/-! ## Reads -/

/-- READ IDENTITY (R184). -/
def readIdentity (r : Request) (s : State) : Handled :=
  s.unless (checkLength r.fields 0) (s.done (.identity s.banks.active s.differing.length))

/-- READ BUS (R184). -/
def readBus (r : Request) (s : State) : Handled :=
  s.unless (checkLength r.fields 1) (s.onBus r.fields fun b => s.done (.bus (s.channel b)))

/-- TAKE ALARMS of a bus (R24, R184). -/
def takeAlarmsBus (r : Request) (s : State) : Handled :=
  s.unless (checkLength r.fields 1) (s.onBus r.fields fun b =>
    (s.modChannel b fun c => { c with alarms := .empty }).done (.busAlarms (s.channel b).alarms))

/-- TAKE ALARMS of the pool (R102, R184). -/
def takeAlarmsPool (r : Request) (s : State) : Handled :=
  s.unless (checkLength r.fields 1)
    ({ s with pool.chargerFault := false }.done (.poolAlarms s.pool.chargerFault))

/-- READ EVENT's answer (R48, R131). -/
def State.eventAnswer (s : State) (i : EventIx) : Option EventAnswer :=
  (s.entry i).map fun e => ⟨i, e, s.requestOf i, s.rate i⟩

/-- READ EVENT (R48). -/
def readEvent (r : Request) (s : State) : Handled :=
  s.unless (checkLength r.fields 1)
    (match eventAt? (byteAt r.fields 0) with
      | none => s.refuse (.range 0 (byteAt r.fields 0))
      | some i => s.done (.event (s.eventAnswer i)))

/-- The number of releases in use. -/
def State.releasesInUse (s : State) : Nat := (allReleases.filter fun r => (s.release r).isSome).length

/-- READ POOL's answer (R87, R108). -/
def State.poolAnswer (s : State) : PoolAnswer where
  budget := s.pool.budget
  free := s.pool.free
  drawn := s.pool.drawn
  releaseSum := s.releaseSum
  storeState := s.pool.storeState
  requests := s.pool.grantQueue.length
  releasesInUse := s.releasesInUse
  waiting := (s.eventsWhere fun e => e.releaseWait.isSome).length
  charger := s.pool.charger
  chargerFault := s.pool.chargerFault
  staleStore := s.pool.staleStore
  baseline := s.pool.storeBaseline

/-- READ POOL (R87, R108). -/
def readPool (r : Request) (s : State) : Handled :=
  s.unless (checkLength r.fields 0) (s.done (.pool s.poolAnswer))

/-- READ RELEASE's answer (R108). -/
def State.releaseAnswer (s : State) (r : ReleaseIx) : Option ReleaseAnswer :=
  (s.release r).map fun x => ⟨r, x, s.ownerClass x⟩

/-- READ RELEASE (R108). -/
def readRelease (r : Request) (s : State) : Handled :=
  s.unless (checkLength r.fields 1)
    (match releaseAt? (byteAt r.fields 0) with
      | none => s.refuse (.range 0 (byteAt r.fields 0))
      | some i => s.done (.release (s.releaseAnswer i)))

/-- READ PORTS's answer (R171, R184). Of the port's state it carries IDLE or SENDING alone, not the frame (DESIGN CHOICE, log
entry 38). -/
def State.portsAnswer (s : State) : PortsAnswer where
  counters := s.ring.counters
  sending := s.ring.port.isSome
  drive := s.ring.drive.length
  responses := s.ring.responses.length
  transit := s.ring.transit.length
  reports := s.ring.reports.length
  dropped := s.management.reportsDropped
  nextNumber := s.management.reportCounter
  requests := s.management.requests.length

/-- READ PORTS (R171, R184). -/
def readPorts (r : Request) (s : State) : Handled :=
  s.unless (checkLength r.fields 0) (s.done (.ports s.portsAnswer))

/-! ## The snapshot -/

/-- The snapshot of the accounts as they stand (R185). -/
def State.takeSnapshot (s : State) : Snapshot where
  time := s.now
  budget := s.pool.budget
  free := s.pool.free
  drawn := s.pool.drawn
  events := allEvents.filterMap fun i => (s.entry i).map fun e => ⟨i, e.bus, e.state, e.grant, e.spent⟩
  releases := allReleases.filterMap fun r => (s.release r).map fun x => (r, x.amount)

/-- LATCH METERING (R185). -/
def latchMetering (r : Request) (s : State) : Handled :=
  s.unless (checkLength r.fields 0)
    (match s.management.snapshot with
      | some _ => s.done (.latched true)
      | none => { s with management.snapshot := some s.takeSnapshot }.done (.latched false))

/-- A part of a snapshot (R186). -/
def Snapshot.part (x : Snapshot) (n : Nat) : Answer :=
  match n with
  | 0 => .snapshotPool x
  | 1 => .snapshotEvents (x.events.filter fun e => decide (e.index.val < 16))
  | _ => .snapshotEvents (x.events.filter fun e => decide (16 ≤ e.index.val))

/-- READ SNAPSHOT (R186). The part is checked, then the release indication, whose refusal with RANGE is log entry 11's, and then
whether a snapshot is held (DESIGN CHOICE, log entry 40). -/
def readSnapshot (r : Request) (s : State) : Handled :=
  let f := r.fields
  s.unless (checkLength f 2) (s.unless (checkRange 0 (byteAt f 0) 0 2) (s.unless (checkRange 1 (byteAt f 1) 0 1)
    (match s.management.snapshot with
      | none => s.refuse (.state none)
      | some x =>
        (if byteAt f 1 = 1 then { s with management.snapshot := none } else s).done (x.part (byteAt f 0)))))

/-! ## RESTART -/

/-- Whether a restart without force is refused: a map holds an entry (R188). -/
def State.busyMaps (s : State) : Bool :=
  (allEvents.any fun i => (s.entry i).isSome) || (allReleases.any fun r => (s.release r).isSome)

/-- The stacks a restart commands BYPASS, each once: those of the buses' open events, then those that own a release (R189
step 1). -/
def State.restartStacks (s : State) : List Station :=
  let ofEvents := allBuses.filterMap fun b => ((s.channel b).openEvent.bind s.entry).map (·.copy.stack)
  let ofReleases := allReleases.filterMap fun r => (s.release r).map (·.stack)
  (ofEvents ++ ofReleases).eraseDups

/-- The events a restart empties, with their buses and outcomes (R47, R189 step 2). -/
def State.restartEvents (s : State) : List (EventIx × Bus × EventOutcome) :=
  allEvents.filterMap fun i => (s.entry i).map fun e => (i, e.bus, e.outcome.getD .restarted)

/-- The Event Map emptied; its counters are kept (R47). -/
def State.emptyEvents (s : State) : State := { s with events.entries := Vector.replicate 32 none }

/-- The pool at a restart (R65, R89, R102, R107, R189 step 3). -/
def State.emptyPool (s : State) : State :=
  { s with
    pool.budget := 0
    pool.free := 0
    pool.drawn := 0
    pool.grantQueue := []
    pool.releases := Vector.replicate 16 none
    pool.storeState := if s.activeBank.store.isSome then .waiting else .unconfigured
    pool.storeSilence := none
    pool.storeBaseline := none
    pool.passDue := false }

/-- A stack record at a restart (R111). -/
def StackRecord.restarted (x : StackRecord) : StackRecord := { x with drawingEvent := none }

/-- Drawing events and rates absent (R189 step 4). -/
def State.emptyInjection (s : State) : State :=
  { s with
    injection.records := eachMember StackRecord.restarted s.injection.records
    injection.rates := Vector.replicate 32 none }

/-- A bus at a restart (R27). As it enters NORMAL a bus that has deferred adopts the active bank, as R27 says; R173 and R189 have
RESTART leave every bank-in-use (DESIGN CHOICE, log entry 39). -/
def State.restartBus (s : State) (b : Bus) : State :=
  if (s.channel b).detection = .outOfService then s
  else (((s.endUntracked b).enterNormal b).startSilence b)

/-- A capture channel at a restart (R145). -/
def CaptureChannel.restarted (c : CaptureChannel) : CaptureChannel :=
  if c.state = .running then { c with state := .done, status := .freed, startFrame := none }
  else { c with status := .freed }

/-- The capture channels at a restart (R189 step 6). -/
def State.restartCapture (s : State) : State :=
  { s with capture.channels := eachMember CaptureChannel.restarted s.capture.channels }

/-- The report queue and the snapshot emptied (R189 step 7). -/
def State.emptyManagement (s : State) : State := { s with ring.reports := [], management.snapshot := none }

/-- An accepted RESTART carried out (R189). -/
def State.restart (s : State) (force : Bool) : Handled :=
  let stations := s.restartStacks
  let events := s.restartEvents
  let releases := s.releasesInUse
  let s := stations.foldl (fun s k => s.queueCommand k .bypass) s
  let s := s.emptyEvents.emptyPool.emptyInjection
  let s := allBuses.foldl State.restartBus s
  s.restartCapture.emptyManagement.done (.restarted force events releases stations.length)

/-- RESTART (R188, R189); a force indication that is neither is refused with RANGE (entry 11), before the test of the maps (DESIGN
CHOICE, log entry 40). -/
def restart (r : Request) (s : State) : Handled :=
  let f := r.fields
  s.unless (checkLength f 1) (s.unless (checkRange 0 (byteAt f 0) 0 1)
    (if byteAt f 0 = 0 ∧ s.busyMaps then s.refuse (.state none) else s.restart (decide (byteAt f 0 = 1))))

/-- A request of a kind the dispatcher does not define (R182). -/
def unknownRequest (_ : Request) (s : State) : Handled := s.refuse .unknown

end Sys2Proof.Machine
end

