-- ==== Sys2Proof/Machine/Frames.lean ====
section
/-! DEFINITION. The meanings of POWER_ON, of the commands a frame brings (arrival, the four units that take a SENSE frame,
STORE_FRAME, STACK_STATUS, STACK_NOTICE), of the Allocator's own steps (TOPUP_REQUEST, SERVICE_PASS), and of
FRAME_COMPLETION. A block that has nothing handed to it to take changes nothing (log entry 6). -/

namespace Sys2Proof.Machine

/-- The outcome of every command: the part never stops. -/
abbrev Out := Host.Outcome State Fault Refusal

/-- POWER_ON (R1, R28, R49, R65, R89, R102, R107, R111, R132, R145, R171, R173, R181, R185, R187): every block at its
power-on values; the commands that wait are not the part's. -/
def execPowerOn (s : State) : Out := .next { State.reset with pending := s.pending }

/-- FRAME_ARRIVAL (R160). -/
def execFrameArrival (time : Nat) (bytes : List Byte) (s : State) : Out := .next ((s.at time).arrive bytes)

/-- SENSE_FRAME (R2). -/
def execSenseFrame (s : State) : Out := .next s.takeNextSense

/-- INJECTION_FRAME (R114), its turn against SENSE_FRAME by R6. -/
def execInjectionFrame (turn : FrameTurn) (s : State) : Out :=
  match turn with
  | .passedOn => match s.handed.injection with
    | [] => .next s
    | f :: rest => .next ({ s with handed.injection := rest }.injectionTakes f)
  | .ahead => match s.frameAhead s.handed.injection (·.injection) with
    | none => .next s
    | some f => .next ((s.markAhead fun t => { t with injection := true }).injectionTakes f)

/-- ENVELOPE_JUDGE (R55), its turn against SENSE_FRAME by R6. -/
def execEnvelopeJudge (turn : FrameTurn) (s : State) : Out :=
  match turn with
  | .passedOn => match s.handed.envelope with
    | [] => .next s
    | f :: rest => .next ({ s with handed.envelope := rest }.envelopeTakes f)
  | .ahead => match s.frameAhead s.handed.envelope (·.envelope) with
    | none => .next s
    | some f => .next ((s.markAhead fun t => { t with envelope := true }).envelopeTakes f)

/-- CAPTURE_FRAME (R152), its turn against SENSE_FRAME by R6. -/
def execCaptureFrame (turn : FrameTurn) (s : State) : Out :=
  match turn with
  | .passedOn => match s.handed.capture with
    | [] => .next s
    | f :: rest => .next ({ s with handed.capture := rest }.captureTakes f)
  | .ahead => match s.frameAhead s.handed.capture (·.capture) with
    | none => .next s
    | some f => .next ((s.markAhead fun t => { t with capture := true }).captureTakes f)

/-- STORE_FRAME (R102). -/
def execStoreFrame (s : State) : Out :=
  match s.handed.store with
  | [] => .next s
  | x :: rest => .next ({ s with handed.store := rest }.takeStore x)

/-- STACK_STATUS (R136), the turn of its notice by R91. -/
def execStackStatus (turn : NoticeTurn) (s : State) : Out :=
  match s.handed.status with
  | [] => .next s
  | x :: rest => .next ({ s with handed.status := rest }.takeStatus x turn)

/-- STACK_NOTICE (R96). -/
def execStackNotice (s : State) : Out :=
  match s.handed.notices with
  | [] => .next s
  | n :: rest => .next ({ s with handed.notices := rest }.takeNotice n)

/-- TOPUP_REQUEST (R73). -/
def execTopupRequest (s : State) : Out :=
  match s.handed.topups with
  | [] => .next s
  | x :: rest => .next ({ s with handed.topups := rest }.takeTopup x)

/-- SERVICE_PASS (R75). -/
def execServicePass (s : State) : Out := .next s.servicePass

/-- FRAME_COMPLETION (R168). -/
def execFrameCompletion (time : Nat) (s : State) : Out := .next (s.at time).complete

end Sys2Proof.Machine
end

