-- ==== Sys2Proof/Machine/Timers.lean ====
section
/-! DEFINITION. The meanings of the five expiries. Each moves the time base to its moment and is taken only where the timer
still runs and its expiry time has come (log entry 1). -/

namespace Sys2Proof.Machine

/-- SILENCE_EXPIRY (R18). -/
def execSilenceExpiry (time bus : Nat) (s : State) : Out :=
  match busAt? bus with
  | none => .next (s.at time)
  | some b => .next ((s.at time).silenceExpires b)

/-- STORE_SILENCE_EXPIRY (R107). -/
def execStoreSilenceExpiry (time : Nat) (s : State) : Out := .next (s.at time).storeExpires

/-- ACK_TIMER_EXPIRY (R139). -/
def execAckTimerExpiry (time stack : Nat) (s : State) : Out :=
  match stationAt? stack with
  | none => .next (s.at time)
  | some k => .next ((s.at time).ackExpires k)

/-- FIRST_WAIT_EXPIRY (R84). -/
def execFirstWaitExpiry (time event : Nat) (s : State) : Out :=
  match eventAt? event with
  | none => .next (s.at time)
  | some i => .next ((s.at time).firstExpires i)

/-- TOPUP_WAIT_EXPIRY (R85). -/
def execTopupWaitExpiry (time event : Nat) (s : State) : Out :=
  match eventAt? event with
  | none => .next (s.at time)
  | some i => .next ((s.at time).topupExpires i)

end Sys2Proof.Machine
end

