-- ==== Sys2Proof/Machine/Requests.lean ====
section
/-! DEFINITION. The meanings of the management requests: each takes the request at the head of the request queue when it is
one of its row (R181), and changes nothing otherwise (log entry 6). -/

namespace Sys2Proof.Machine

/-- READ_IDENTITY (R184). -/
def execReadIdentity (s : State) : Out := .next (s.answerHead .readIdentity readIdentity)

/-- LOAD_BUS_ROW (R175). -/
def execLoadBusRow (s : State) : Out := .next (s.answerHead .loadBusRow loadBusRow)

/-- LOAD_ENVELOPE_ROW (R50). -/
def execLoadEnvelopeRow (s : State) : Out := .next (s.answerHead .loadEnvelopeRow loadEnvelopeRow)

/-- LOAD_STORE_PARAMETERS (R177). -/
def execLoadStoreParameters (s : State) : Out := .next (s.answerHead .loadStoreParameters loadStoreParameters)

/-- READ_ROW (R178). -/
def execReadRow (s : State) : Out := .next (s.answerHead .readRow readRow)

/-- COMMIT_BANK (R179). -/
def execCommitBank (s : State) : Out := .next (s.answerSettled .commitBank commitBank)

/-- SET_SERVICE_OFF (R20). -/
def execSetServiceOff (s : State) : Out := .next (s.answerSettled .setServiceOff setServiceOff)

/-- SET_SERVICE_ON (R21). -/
def execSetServiceOn (s : State) : Out := .next (s.answerHead .setServiceOn setServiceOn)

/-- CAPTURE_MASK (R147). -/
def execCaptureMask (s : State) : Out := .next (s.answerHead .captureMask captureMask)

/-- CAPTURE_UNMASK (R147). -/
def execCaptureUnmask (s : State) : Out := .next (s.answerHead .captureUnmask captureUnmask)

/-- LOAD_CAPTURE_CHANNEL (R146). -/
def execLoadCaptureChannel (s : State) : Out := .next (s.answerHead .loadCaptureChannel loadCaptureChannel)

/-- READ_BUS (R184). -/
def execReadBus (s : State) : Out := .next (s.answerHead .readBus readBus)

/-- TAKE_ALARMS_BUS (R24). -/
def execTakeAlarmsBus (s : State) : Out := .next (s.answerHead .takeAlarmsBus takeAlarmsBus)

/-- TAKE_ALARMS_POOL (R184). -/
def execTakeAlarmsPool (s : State) : Out := .next (s.answerHead .takeAlarmsPool takeAlarmsPool)

/-- READ_EVENT (R48). -/
def execReadEvent (s : State) : Out := .next (s.answerHead .readEvent readEvent)

/-- READ_POOL (R87). -/
def execReadPool (s : State) : Out := .next (s.answerHead .readPool readPool)

/-- READ_RELEASE (R108). -/
def execReadRelease (s : State) : Out := .next (s.answerHead .readRelease readRelease)

/-- READ_PORTS (R171). -/
def execReadPorts (s : State) : Out := .next (s.answerHead .readPorts readPorts)

/-- LATCH_METERING (R185). -/
def execLatchMetering (s : State) : Out := .next (s.answerHead .latchMetering latchMetering)

/-- READ_SNAPSHOT (R186). -/
def execReadSnapshot (s : State) : Out := .next (s.answerHead .readSnapshot readSnapshot)

/-- READ_CAPTURE_RECORDS (R156). -/
def execReadCaptureRecords (s : State) : Out := .next (s.answerHead .readCaptureRecords readCaptureRecords)

/-- READ_CAPTURE_CHANNEL (R157). -/
def execReadCaptureChannel (s : State) : Out := .next (s.answerHead .readCaptureChannel readCaptureChannel)

/-- RESTART (R189). -/
def execRestart (s : State) : Out := .next (s.answerSettled .restart restart)

/-- UNKNOWN_REQUEST (R182). -/
def execUnknownRequest (s : State) : Out := .next (s.answerHead .unknownRequest unknownRequest)

end Sys2Proof.Machine
end

