-- ==== Sys2Proof/Machine/Dispatch.lean ====
section
/-! DEFINITION. The dispatch: one arm for each command, each one call of its meaning. -/

namespace Sys2Proof.Machine

def exec (i : Instr) (s : State) : Host.Outcome State Fault Refusal :=
  match i with
  | .powerOn => Sys2Proof.Machine.execPowerOn s
  | .frameArrival time bytes => Sys2Proof.Machine.execFrameArrival time bytes s
  | .senseFrame => Sys2Proof.Machine.execSenseFrame s
  | .injectionFrame turn => Sys2Proof.Machine.execInjectionFrame turn s
  | .envelopeJudge turn => Sys2Proof.Machine.execEnvelopeJudge turn s
  | .captureFrame turn => Sys2Proof.Machine.execCaptureFrame turn s
  | .silenceExpiry time bus => Sys2Proof.Machine.execSilenceExpiry time bus s
  | .storeFrame => Sys2Proof.Machine.execStoreFrame s
  | .storeSilenceExpiry time => Sys2Proof.Machine.execStoreSilenceExpiry time s
  | .stackStatus turn => Sys2Proof.Machine.execStackStatus turn s
  | .stackNotice => Sys2Proof.Machine.execStackNotice s
  | .ackTimerExpiry time stack => Sys2Proof.Machine.execAckTimerExpiry time stack s
  | .topupRequest => Sys2Proof.Machine.execTopupRequest s
  | .servicePass => Sys2Proof.Machine.execServicePass s
  | .firstWaitExpiry time event => Sys2Proof.Machine.execFirstWaitExpiry time event s
  | .topupWaitExpiry time event => Sys2Proof.Machine.execTopupWaitExpiry time event s
  | .frameCompletion time => Sys2Proof.Machine.execFrameCompletion time s
  | .readIdentity => Sys2Proof.Machine.execReadIdentity s
  | .loadBusRow => Sys2Proof.Machine.execLoadBusRow s
  | .loadEnvelopeRow => Sys2Proof.Machine.execLoadEnvelopeRow s
  | .loadStoreParameters => Sys2Proof.Machine.execLoadStoreParameters s
  | .readRow => Sys2Proof.Machine.execReadRow s
  | .commitBank => Sys2Proof.Machine.execCommitBank s
  | .setServiceOff => Sys2Proof.Machine.execSetServiceOff s
  | .setServiceOn => Sys2Proof.Machine.execSetServiceOn s
  | .captureMask => Sys2Proof.Machine.execCaptureMask s
  | .captureUnmask => Sys2Proof.Machine.execCaptureUnmask s
  | .loadCaptureChannel => Sys2Proof.Machine.execLoadCaptureChannel s
  | .readBus => Sys2Proof.Machine.execReadBus s
  | .takeAlarmsBus => Sys2Proof.Machine.execTakeAlarmsBus s
  | .takeAlarmsPool => Sys2Proof.Machine.execTakeAlarmsPool s
  | .readEvent => Sys2Proof.Machine.execReadEvent s
  | .readPool => Sys2Proof.Machine.execReadPool s
  | .readRelease => Sys2Proof.Machine.execReadRelease s
  | .readPorts => Sys2Proof.Machine.execReadPorts s
  | .latchMetering => Sys2Proof.Machine.execLatchMetering s
  | .readSnapshot => Sys2Proof.Machine.execReadSnapshot s
  | .readCaptureRecords => Sys2Proof.Machine.execReadCaptureRecords s
  | .readCaptureChannel => Sys2Proof.Machine.execReadCaptureChannel s
  | .restart => Sys2Proof.Machine.execRestart s
  | .unknownRequest => Sys2Proof.Machine.execUnknownRequest s

end Sys2Proof.Machine
end

