-- ==== Sys2Proof/Machine/Step.lean ====
section
/-! DEFINITION. One step: the command at the front of the queue is taken and run on the queue's rest; with no command waiting
one microsecond of the dispatcher's time base passes, and the expiries that may wait no longer are taken (DESIGN CHOICE, log
entry 1). -/

namespace Sys2Proof.Machine

/-- One microsecond passes. -/
def State.tick (s : State) : State := s.at (s.now + 1)

/-- One step. -/
def step (s : State) : Host.Outcome State Fault Refusal :=
  match s.pending with
  | [] => .next s.tick
  | c :: rest => exec c { s with pending := rest }

/-- The command that a table word spells put at the front of the queue; the state unchanged where it spells none. -/
def State.withFetchWord (s : State) (nbits w : Nat) : State :=
  match decodeTableWord nbits w with
  | some c => { s with pending := c :: s.pending }
  | none => s

end Sys2Proof.Machine
end

