-- ==== Sys2Proof/Safety.lean ====
section
/-! DEFINITION. The vocabulary of the statements: the moment a command carries, the taking of a request, and the invariants
of the part: the energy accounts, the capture memory, the bus channels, the Grant Queue, the queues' capacities, and the
stack views with the DRIVE queue. -/

namespace Sys2Proof.Machine

/-! ## Commands -/

/-- The moment a command carries. -/
def commandTime : Instr → Option Nat
  | .frameArrival time _ => some time
  | .silenceExpiry time _ => some time
  | .storeSilenceExpiry time => some time
  | .ackTimerExpiry time _ => some time
  | .firstWaitExpiry time _ => some time
  | .topupWaitExpiry time _ => some time
  | .frameCompletion time => some time
  | _ => none

/-- Whether the time base may come to `time` with every running timer as it is: none has run out more than 1 µs before (R17,
R83, R107, R135). -/
def State.InTime (s : State) (time : Nat) : Prop := ∀ x ∈ s.timers, max s.now time ≤ x.expiry + 1

/-- The command that takes a timer's expiry at a moment. -/
def Timer.command (time : Nat) : Timer → Instr
  | .silence b => .silenceExpiry time b.val
  | .store => .storeSilenceExpiry time
  | .acknowledgement k => .ackTimerExpiry time k.address
  | .wait .first i => .firstWaitExpiry time i.val
  | .wait .topup i => .topupWaitExpiry time i.val

/-- The Management Unit can take the request `r` at the head of its queue, `rest` behind it (R181). -/
structure State.Heads (s : State) (r : Request) (rest : List Request) : Prop where
  head : s.management.requests = r :: rest
  room : s.ring.responses.length < 8

/-- The request at the head of the request queue taken, `rest` left. -/
def State.taken (s : State) (rest : List Request) : State := { s with management.requests := rest }

/-- No unit has taken the frame at the head of Bus Watch's frames ahead of Bus Watch (R6). -/
def State.NothingAhead (s : State) : Prop := ∀ x, s.handed.sense.head? = some x → x.taken.any = false

/-- Command `c` on `s` makes the state `t` and queues the response to `r` with this result (R181, R182). -/
def Answers (c : Instr) (s : State) (r : Request) (t : State) (result : Result) : Prop :=
  exec c s = .next (t.respond ⟨r.tag, r.kind, result⟩)

/-- The command of a request's row. -/
def RequestRow.command : RequestRow → Instr
  | .readIdentity => .readIdentity
  | .loadBusRow => .loadBusRow
  | .loadEnvelopeRow => .loadEnvelopeRow
  | .loadStoreParameters => .loadStoreParameters
  | .readRow => .readRow
  | .commitBank => .commitBank
  | .setServiceOff => .setServiceOff
  | .setServiceOn => .setServiceOn
  | .captureMask => .captureMask
  | .captureUnmask => .captureUnmask
  | .loadCaptureChannel => .loadCaptureChannel
  | .readBus => .readBus
  | .takeAlarmsBus => .takeAlarmsBus
  | .takeAlarmsPool => .takeAlarmsPool
  | .readEvent => .readEvent
  | .readPool => .readPool
  | .readRelease => .readRelease
  | .readPorts => .readPorts
  | .latchMetering => .latchMetering
  | .readSnapshot => .readSnapshot
  | .readCaptureRecords => .readCaptureRecords
  | .readCaptureChannel => .readCaptureChannel
  | .restart => .restart
  | .unknownRequest => .unknownRequest

/-- How many bytes of fields a request of a row must have, for the rows whose requests have one length (R183). -/
def RequestRow.fieldBytes : RequestRow → Option Nat
  | .readIdentity => some 0
  | .commitBank => some 0
  | .setServiceOff => some 2
  | .setServiceOn => some 2
  | .captureMask => some 2
  | .captureUnmask => some 2
  | .loadCaptureChannel => some 6
  | .readBus => some 1
  | .takeAlarmsBus => some 1
  | .takeAlarmsPool => some 1
  | .readEvent => some 1
  | .readPool => some 0
  | .readRelease => some 1
  | .readPorts => some 0
  | .latchMetering => some 0
  | .readSnapshot => some 2
  | .readCaptureChannel => some 2
  | .restart => some 1
  | .loadBusRow => none
  | .loadEnvelopeRow => none
  | .loadStoreParameters => none
  | .readRow => none
  | .readCaptureRecords => none
  | .unknownRequest => none

/-- A test's lowest bus (R179). -/
def LowestBus (b : Bus) (p : Bus → Prop) : Prop := p b ∧ ∀ c, c < b → ¬ p c

/-- Two bus rows share a node address, as head or as stack (R176). -/
def BusRow.Shares (r q : BusRow) : Prop :=
  r.head = q.head ∨ r.head = q.stack ∨ r.stack = q.head ∨ r.stack = q.stack

/-- A bus row of a bank keeps every node in one role (R176). -/
def Bank.RowFits (bank : Bank) (b : Bus) (r : BusRow) : Prop :=
  r.head ≠ r.stack ∧ (∀ c q, c ≠ b → bank.busRows[c] = some q → ¬ r.Shares q) ∧
    (∀ p, bank.store = some p → p.head ≠ r.head ∧ p.head ≠ r.stack)

/-- A Store Parameters set of a bank keeps every node in one role (R176). -/
def Bank.StoreFits (bank : Bank) (p : StoreParameters) : Prop :=
  ∀ (c : Bus) q, bank.busRows[c] = some q → p.head ≠ q.head ∧ p.head ≠ q.stack

/-- A field of a request as its check sees it: the value carried and the range allowed. -/
structure FieldRange where
  value : Nat
  low : Nat
  high : Nat
deriving DecidableEq, Repr

/-- A field's value lies in its range. -/
def FieldRange.holds (x : FieldRange) : Prop := x.low ≤ x.value ∧ x.value ≤ x.high

/-- The ranges of a breakpoint list's fields: every duration above the one before, no floor below the one before (R50). -/
def breakpointRanges (duration floor : Nat) : List Breakpoint → List FieldRange
  | [] => []
  | b :: rest => ⟨b.duration, duration, 10000⟩ :: ⟨b.floor, floor, 1000⟩
      :: breakpointRanges (b.duration + 1) b.floor rest

/-! ## The check sequence (R159) -/

/-- One bit entered into the remainder of the division by x¹⁶ + x¹² + x⁵ + 1. -/
def enterBit (r : BitVec 16) (bit : Bool) : BitVec 16 :=
  if r.msb = bit then r <<< 1 else (r <<< 1) ^^^ 0x1021#16

/-- The bits of a byte, the most significant first. -/
def bitsOf (b : Byte) : List Bool := [b[7], b[6], b[5], b[4], b[3], b[2], b[1], b[0]]

/-! ## SENSE frames -/

/-- Bus Watch accepts `x`, the oldest SENSE frame handed to it, for bus `b` under the row `r` (R2, R4). -/
structure State.Accepts (s : State) (x : HandedSense) (rest : List HandedSense) (b : Bus) (r : BusRow) : Prop where
  front : s.handed.sense = x :: rest
  verdict : s.verdict x = .accepted b r

/-- The state in which the accepted frame is evaluated: R5 up to the evaluation. -/
def State.accepting (s : State) (x : HandedSense) (rest : List HandedSense) (b : Bus) (r : BusRow) : State :=
  { s with handed.sense := rest }.modChannel b (BusChannel.accept s.now r x)

/-- The accepted frame as the other units get it (R3, R5, R122). -/
def State.frameOf (s : State) (b : Bus) (r : BusRow) (x : HandedSense) : AcceptedFrame :=
  (s.channel b).acceptedFrame b r x

/-- m_min² of a frame as Bus Watch takes it (R3). -/
def HandedSense.low (x : HandedSense) : Nat := x.frame.clamped.volts.minSquare

/-- A phase current of the frame, as Bus Watch takes it, is above the row's fault limit (R7). -/
def HandedSense.overCurrent (x : HandedSense) (r : BusRow) : Prop :=
  r.faultLimit < min x.frame.amps.a 4000 ∨ r.faultLimit < min x.frame.amps.b 4000 ∨
    r.faultLimit < min x.frame.amps.c 4000

/-- What is left of an entry `e` after Bus Watch has ended its event with a cause (R43, R44): nothing, or `e'`. -/
structure EndedAs (cause : EndCause) (e e' : Event) : Prop where
  state : e'.state = .closing ∨ e'.state = .reporting
  outcome : e'.outcome = some (match e.outcome with
    | some o => o
    | none => cause.outcome e)
  silence : cause = .lostSight → e'.marks.silence
  downstream : cause = .downstreamFault → e'.marks.downstream
  step : e'.ladderStep = 3
  withdrawn : e'.claims = []
  order : cause ≠ .recovered → e'.stackOrder ≠ .inject

/-- The sag of a bus has ended in `t`: the channel holds no event and is not untracked, an untracked sag has been counted,
and the event it held has been ended with the cause (R13, R15). -/
structure SagEnded (cause : EndCause) (b : Bus) (s t : State) : Prop where
  openEvent : (t.channel b).openEvent = none
  untracked : (t.channel b).untracked = false
  counted : (t.channel b).counters.untrackedSags =
    (s.channel b).counters.untrackedSags + (if (s.channel b).untracked then 1 else 0)
  ended : ∀ i e, (s.channel b).openEvent = some i → s.entry i = some e → ∀ e', t.entry i = some e' → EndedAs cause e e'
  order : ∀ i e, (s.channel b).openEvent = some i → s.entry i = some e →
    t.events.closeCounter = s.events.closeCounter + 1

/-! ## Rows within the manual's ranges (10.1, 3.1) -/

/-- The ranges of the table of section 10.1 for a bus row. -/
structure BusRow.InRange (r : BusRow) : Prop where
  nominal : 50 ≤ r.nominal ∧ r.nominal ≤ 600
  cls : r.cls ≤ 3
  sag : 500 ≤ r.sagThreshold ∧ r.sagThreshold ≤ 980
  recovery : r.sagThreshold < r.recoveryThreshold ∧ r.recoveryThreshold ≤ 995
  swell : 1050 ≤ r.swellThreshold ∧ r.swellThreshold ≤ 1500
  confirm : 1 ≤ r.confirmCount ∧ r.confirmCount ≤ 16
  recover : 1 ≤ r.recoverCount ∧ r.recoverCount ≤ 64
  silence : 500 ≤ r.silenceTimeout ∧ r.silenceTimeout ≤ 20000
  fault : 1 ≤ r.faultLimit ∧ r.faultLimit ≤ 4000
  injection : 100 ≤ r.injectionLimit ∧ r.injectionLimit ≤ 600
  cap : 1 ≤ r.grantCap ∧ r.grantCap ≤ 4294967295

/-- Breakpoints of rising duration and never falling floor, from a least duration and floor (R50 step 3). -/
def breakpointsRise (duration floor : Nat) : List Breakpoint → Prop
  | [] => True
  | b :: rest => duration ≤ b.duration ∧ b.duration ≤ 10000 ∧ floor ≤ b.floor ∧ b.floor ≤ 1000 ∧
      breakpointsRise (b.duration + 1) b.floor rest

/-- The conditions of R50 on an envelope row. -/
structure EnvelopeRow.InRange (e : EnvelopeRow) : Prop where
  count : 2 ≤ e.breakpoints.length ∧ e.breakpoints.length ≤ 8
  rising : breakpointsRise 1 0 e.breakpoints
  continuous : lastFloor e.breakpoints ≤ e.continuousFloor ∧ e.continuousFloor ≤ 1000
  margin : e.margin ≤ 100
  confirm : 1 ≤ e.breachConfirm ∧ e.breachConfirm ≤ 8

/-- The ranges of the table of section 10.1 for a Store Parameters set. -/
structure StoreParameters.InRange (p : StoreParameters) : Prop where
  capacitance : 1 ≤ p.capacitance ∧ p.capacitance ≤ 65535
  floor : p.floorVoltage ≤ 16000
  reserve : p.reserve ≤ 4294967295
  silence : 1000 ≤ p.silenceTimeout ∧ p.silenceTimeout ≤ 100000
  minimum : 1 ≤ p.minimumGrant ∧ p.minimumGrant ≤ 1000000

/-! ## Invariants -/

/-- The energy accounts (R41, R44, R67, R123): no accumulator is above 2⁶⁴ − 1, what each event has spent follows from its
accumulator and its grant, an event in REPORTING has nothing left, and the pool balances. -/
structure EnergySound (s : State) : Prop where
  bounded : ∀ i e, s.entry i = some e → e.accumulator ≤ 18446744073709551615
  accounted : ∀ i e, s.entry i = some e →
    e.spent = min (e.accumulator / 1000000000) e.grant ∧
    e.overdraw = min (e.accumulator / 1000000000 - e.grant) 4294967295
  settled : ∀ i e, s.entry i = some e → e.state = .reporting → e.grant - e.spent = 0
  balance : s.pool.free + s.unspentSum + s.releaseSum + s.pool.drawn = s.pool.budget

/-- The Grant Queue (R74): at most one request an event, in order of class, a FIRST request for each REQUESTING event and
no other, a TOPUP request for INJECTING events alone. -/
structure GrantQueueSound (s : State) : Prop where
  once : (s.pool.grantQueue.map (·.event)).Nodup
  sorted : s.pool.grantQueue.Pairwise fun q r => q.cls ≤ r.cls
  owned : ∀ q ∈ s.pool.grantQueue, ∃ e, s.entry q.event = some e ∧ q.cls = e.copy.cls ∧
    (q.kind = .first → e.state = .requesting) ∧ (q.kind = .topup → e.state = .injecting)
  waiting : ∀ i e, s.entry i = some e → e.state = .requesting →
    ∃ q ∈ s.pool.grantQueue, q.event = i ∧ q.kind = .first

/-- The four states in which an event is its bus's open event (R33). -/
def EventState.opens : EventState → Bool
  | .requesting => true
  | .held => true
  | .injecting => true
  | .bypassed => true
  | .closing => false
  | .reporting => false

/-- A bus channel in one of the two states of a sag. -/
def BusChannel.inSag (c : BusChannel) : Prop := c.detection = .sag ∨ c.detection = .recovering

/-- The bus channels (section 1.1, the table of section 1.3, R33): a sag is an open event or is untracked, the silence
one-shot runs in the states that need it, a bus in service has a valid row in the active bank, and a bus's open event is
the one entry of the bus in REQUESTING, HELD, INJECTING or BYPASSED. -/
structure WatchSound (s : State) : Prop where
  sag : ∀ b, (s.channel b).inSag ↔ ((s.channel b).openEvent.isSome ∨ (s.channel b).untracked)
  apart : ∀ b, (s.channel b).untracked → (s.channel b).openEvent = none
  suspectStart : ∀ b, (s.channel b).suspectStart.isSome ↔ (s.channel b).detection = .suspect
  suspectLowest : ∀ b, (s.channel b).suspectLowest.isSome ↔ (s.channel b).detection = .suspect
  run : ∀ b, (s.channel b).runCount ≤ 64
  silence : ∀ b, (s.channel b).silence = none ↔
    (s.channel b).detection = .silent ∨ (s.channel b).detection = .outOfService
  served : ∀ b, (s.channel b).detection ≠ .outOfService → (s.activeBank.busRows[b]).isSome
  openEvent : ∀ b i, (s.channel b).openEvent = some i →
    ∃ e, s.entry i = some e ∧ e.bus = b ∧ e.state.opens
  linked : ∀ i e, s.entry i = some e → e.state.opens → (s.channel e.bus).openEvent = some i

/-- The capture memory and the channels' windows (R146, R151): the memory is in its canonical form, a channel's current
address lies in the page of its base, and a pass writes at most n + 1 records. -/
structure CaptureSound (s : State) : Prop where
  memory : Memory.wf s.capture.memory
  window : ∀ k, (s.recorder k).base < 65536 ∧ (s.recorder k).count ≤ 4095
  page : ∀ k, (s.recorder k).current / 4096 = (s.recorder k).base / 4096
  written : ∀ k, (s.recorder k).written ≤ (s.recorder k).count + 1
  running : ∀ k, (s.recorder k).state = .running → (s.recorder k).written ≤ (s.recorder k).count

/-- The capacities of the queues (R164, R181, R187; section 9.4). -/
structure QueuesBounded (s : State) : Prop where
  responses : s.ring.responses.length ≤ 8
  transit : s.ring.transit.length ≤ 16
  reports : s.ring.reports.length ≤ 32
  requests : s.management.requests.length ≤ 4

/-- The egress port is IDLE only while the four queues are empty (R166). -/
def PortServed (s : State) : Prop :=
  s.ring.port = none →
    s.ring.drive = [] ∧ s.ring.responses = [] ∧ s.ring.transit = [] ∧ s.ring.reports = []

/-- Whether an event has left its protected path (R38). -/
def EventState.left : EventState → Bool
  | .requesting => false
  | .held => false
  | .injecting => false
  | .bypassed => true
  | .closing => true
  | .reporting => true

/-- The fields of a held entry (R14, R28, R38, R57, R112): one to four strikes, at most four claims, a step of the ladder, not
step 3 on the protected path, a deepest step of the ladder, a breach run within the copy's breach confirm count, and an outcome
exactly when the event has left its protected path. -/
structure EventsSound (s : State) : Prop where
  strikes : ∀ i e, s.entry i = some e → 1 ≤ e.strikes.length ∧ e.strikes.length ≤ 4 ∧ e.strikeOverflow ≤ 255
  claims : ∀ i e, s.entry i = some e → e.claims.length ≤ 4
  step : ∀ i e, s.entry i = some e → e.ladderStep ≤ 3
  onPath : ∀ i e, s.entry i = some e → e.state.left = false → e.ladderStep ≤ 2
  deepest : ∀ i e n, s.entry i = some e → e.deepestStep = some n → n ≤ 3
  breachRun : ∀ i e, s.entry i = some e → e.breachRun ≤ e.copy.envelope.breachConfirm
  outcome : ∀ i e, s.entry i = some e → (e.outcome.isSome ↔ e.state.left)

/-- Each sequence number is the one after the number before it, modulo 16. -/
def consecutive : List Seq → Prop
  | [] => True
  | [_] => True
  | a :: b :: rest => b = a + 1 ∧ consecutive (b :: rest)

/-- The sequence numbers of a view's live commands, oldest first. -/
def StackView.liveSequences (v : StackView) : List Seq :=
  v.outstanding.map (·.command.sequence) ++ v.unsent.toList.map (·.sequence)

/-- The stack views and the DRIVE queue (R133, R134, R169): at most 3 outstanding commands, consecutive sequence numbers up
to the next, one unsent frame a stack, with a part, and its command the view's unsent command while the list has room. -/
structure ChannelSound (s : State) : Prop where
  outstanding : ∀ k, (s.view k).outstanding.length ≤ 3
  sequences : ∀ k, consecutive ((s.view k).liveSequences ++ [(s.view k).nextSequence])
  oneFrame : (s.ring.drive.map (·.stack)).Nodup
  parts : ∀ f ∈ s.ring.drive, f.reference.isSome ∨ f.command.isSome
  commands : ∀ f ∈ s.ring.drive, ∀ c, f.command = some c →
    (s.view f.stack).unsent = some c ∧ (s.view f.stack).outstanding.length < 3

end Sys2Proof.Machine
end

