-- ==== Sys2Proof/Certificates/Slice0/Obligations.lean ====
section
/-! DEFINITION. The statements for the provers. -/

open Sys2Proof Sys2Proof.Machine

/-! ## The machine -/

/-- One step takes the command at the front of the queue and runs it on the queue's rest; with no command waiting one
microsecond passes, and nothing else changes while no timer is so far past its expiry that it must be taken (the latter is the
model's choice, log entry 1). -/
def Obligations.StepTakesTheFront : Prop :=
  (∀ (c : Instr) (rest : List Instr) (s : State),
      step { s with pending := c :: rest } = exec c { s with pending := rest }) ∧
  (∀ s : State, s.pending = [] → ∃ t, step s = .next t ∧ t.now = s.now + 1 ∧ t.pending = [] ∧
      (s.InTime (s.now + 1) → t = { s with now := s.now + 1 }))

/-- Every command answers a next state, leaves the queue of commands alone, and moves the time base to the moment it
carries and no further (the model's choice, log entry 1). R17, R83, R107, R135: every step keeps each running timer within 1 µs
of its expiry: a timer that would be later is taken first, at its expiry, and then the command runs. -/
def Obligations.EveryCommandCompletes : Prop :=
  (∀ (c : Instr) (s : State), ∃ t, exec c s = .next t ∧ t.pending = s.pending ∧
      (c ≠ .powerOn → t.now = max s.now ((commandTime c).getD 0))) ∧
  (∀ s t : State, GrantQueueSound s → s.InTime s.now → step s = .next t → t.InTime t.now) ∧
  (∀ (c : Instr) (s u : State) (time : Nat) (x : Running), commandTime c = some time → x ∈ s.timers →
      x.expiry + 1 < max s.now time → (∀ y ∈ s.timers, y ≠ x → max s.now time ≤ y.expiry + 1) →
      exec (x.timer.command x.expiry) s = .next u → exec c s = exec c u)

/-- POWER_ON puts every bus channel (R1), the maps, the pool, the stack records and views, the capture channels and memory, the
ports, the banks and the Management Unit (R28, R49, R65, R89, R102, R107, R111, R132, R145, R171, R173, R181, R185, R187) at
their power-on values. -/
def Obligations.PowerOnValues : Prop :=
  (∀ s : State, ∃ t, exec .powerOn s = .next t ∧ ∀ b : Bus,
      (t.channel b).detection = .outOfService ∧ (t.channel b).runCount = 0 ∧ (t.channel b).suspectStart = none ∧
      (t.channel b).suspectLowest = none ∧ (t.channel b).openEvent = none ∧ (t.channel b).baseline = none ∧
      (t.channel b).untracked = false ∧ (t.channel b).silence = none ∧ (t.channel b).bankInUse = 0 ∧
      (t.channel b).alarms = ⟨false, false, false, false, false, false, false⟩ ∧
      (t.channel b).counters = ⟨0, 0, 0, 0, 0, 0, 0, 0⟩) ∧
  (∀ s : State, ∃ t, exec .powerOn s = .next t ∧
      (∀ i, t.entry i = none ∧ t.rate i = none) ∧ t.events.openCounter = 0 ∧ t.events.closeCounter = 0 ∧
      (∀ r, t.release r = none) ∧ t.pool.creationCounter = 0 ∧
      t.pool.budget = 0 ∧ t.pool.free = 0 ∧ t.pool.drawn = 0 ∧ t.pool.grantQueue = [] ∧
      t.pool.storeState = .unconfigured ∧ t.pool.inEffect = none ∧ t.pool.storeSilence = none ∧
      t.pool.storeBaseline = none ∧ t.pool.charger = none ∧ t.pool.chargerFault = false ∧ t.pool.staleStore = 0 ∧
      (∀ k, t.record k = ⟨none, none, none⟩ ∧ t.view k = ⟨.standby, false, false, 0, none, none, 0, [], none⟩) ∧
      (∀ k, t.recorder k = ⟨.masked, 0, 0, .single, 0, 0, false, 0, none, none, .freed, none⟩) ∧
      (∀ a, Memory.read t.capture.memory a =
        ⟨.none, 0, 0, 0, ⟨0, ⟨⟨0, 0⟩, ⟨0, 0⟩, ⟨0, 0⟩⟩, ⟨0, 0, 0⟩, false⟩⟩) ∧
      t.ring = ⟨none, [], [], [], [], Vector.replicate 64 0, ⟨0, 0, 0, 0, 0, 0, 0, 0, 0, 0, 0, 0, 0⟩⟩ ∧
      (∀ (n : BankIx) (b : Bus) (e : EnvelopeIx), (t.bank n).busRows[b] = none ∧ (t.bank n).envelopes[e] = none ∧ (t.bank n).store = none) ∧
      t.banks.active = 0 ∧ t.management = ⟨[], none, 0, 0⟩)

/-- The part right after reset satisfies every invariant, and no timer runs. -/
def Obligations.ResetIsSound : Prop :=
  EnergySound State.reset ∧ GrantQueueSound State.reset ∧ EventsSound State.reset ∧ WatchSound State.reset ∧
    CaptureSound State.reset ∧ QueuesBounded State.reset ∧ PortServed State.reset ∧ ChannelSound State.reset ∧
    State.reset.timers = []

/-! ## Invariants that every step keeps -/

/-- R74: every step keeps the Grant Queue sound. -/
def Obligations.GrantQueueKept : Prop :=
  ∀ s t : State, GrantQueueSound s → step s = .next t → GrantQueueSound t

/-- R41, R44, R67, R123: every step keeps the energy accounts. -/
def Obligations.EnergyKept : Prop :=
  ∀ s t : State, GrantQueueSound s → EnergySound s → step s = .next t → EnergySound t

/-- R14, R28, R38, R57, R112: every step keeps the strikes, the claims, the steps, the breach run and the outcome of the events sound. -/
def Obligations.EventsKept : Prop :=
  ∀ s t : State, GrantQueueSound s → EventsSound s → step s = .next t → EventsSound t

/-- R1, R33 and the table of section 1.3: every step keeps the bus channels sound. -/
def Obligations.WatchKept : Prop :=
  ∀ s t : State, GrantQueueSound s → WatchSound s → step s = .next t → WatchSound t

/-- R151: every step keeps the capture memory's form and the capture channels' windows. -/
def Obligations.CaptureKept : Prop :=
  ∀ s t : State, CaptureSound s → step s = .next t → CaptureSound t

/-- R164, R166, R181, R187: every step keeps the queues within their capacities, and the egress port IDLE only over empty
queues. -/
def Obligations.QueuesKept : Prop :=
  (∀ s t : State, QueuesBounded s → step s = .next t → QueuesBounded t) ∧
  (∀ s t : State, PortServed s → step s = .next t → PortServed t)

/-- R133, R134, R169: every step keeps the stack views and the DRIVE queue sound. -/
def Obligations.ChannelKept : Prop :=
  ∀ s t : State, ChannelSound s → step s = .next t → ChannelSound t

/-! ## What only some commands touch -/

/-- R66, R173: the budget changes only at a store confirmation, at RESTART and at power-on; the banks change only by loads, to
the standby bank, and the selector only by COMMIT BANK. -/
def Obligations.BudgetAndBanksMoveOnlyByTheirCommands : Prop :=
  (∀ (c : Instr) (s t : State), exec c s = .next t → c ≠ .powerOn → c ≠ .storeFrame → c ≠ .restart →
      t.pool.budget = s.pool.budget) ∧
  (∀ (c : Instr) (s t : State), exec c s = .next t → c ≠ .powerOn →
      (c ≠ .commitBank → t.banks.active = s.banks.active) ∧
      (c ≠ .loadBusRow → c ≠ .loadEnvelopeRow → c ≠ .loadStoreParameters → t.banks.bank = s.banks.bank) ∧
      t.bank s.banks.active = s.bank s.banks.active)

/-- R38: an outcome once set is never changed while its entry is held. -/
def Obligations.OutcomeSetOnce : Prop :=
  ∀ (c : Instr) (s t : State) (i : EventIx) (e e' : Event) (o : EventOutcome), exec c s = .next t → c ≠ .powerOn →
    s.entry i = some e → e.outcome = some o → t.entry i = some e' → e'.openOrder = e.openOrder → e'.outcome = some o

/-! ## The ingress port -/

/-- R159 to R162, R165, R181: a run that fails its length test or its check sequence, and each frame that passes them and is
discarded, in the order of the tests; each leaves everything but its counter, at a moment by which no timer must be taken. -/
def Obligations.ArrivalDiscards : Prop :=
  (∀ (s : State) (time : Nat) (bytes : List Byte), s.InTime time →
      ¬ (7 ≤ bytes.length ∧ bytes.length = byteAt bytes 3 + 7 ∧
        bytes.drop (byteAt bytes 3 + 5) = checkBytes (bytes.take (byteAt bytes 3 + 5))) →
      exec (.frameArrival time bytes) s = .next { s with
        now := max s.now time
        ring.counters.received := s.ring.counters.received + 1
        ring.counters.checkFailures := s.ring.counters.checkFailures + 1 }) ∧
  (∀ (s : State) (time : Nat) (bytes : List Byte), s.InTime time → wellChecked bytes →
      let u : State := { s with now := max s.now time, ring.counters.received := s.ring.counters.received + 1 }
      let destination := byteAt bytes 0
      let source := byteAt bytes 1
      let kind := byteAt bytes 2
      let body := (bytes.drop 5).take (byteAt bytes 3)
      let malformed : State := { u with ring.counters.malformed := s.ring.counters.malformed + 1 }
      (63 < destination ∨ 63 < source → exec (.frameArrival time bytes) s = .next malformed) ∧
      (destination = 0 → 0 < source → source ≤ 63 →
        (kind ≠ 1 → kind ≠ 2 → kind ≠ 3 → kind ≠ 5 → exec (.frameArrival time bytes) s = .next
          { u with ring.counters.unknownKind := s.ring.counters.unknownKind + 1 }) ∧
        (kind = 1 → body.length ≠ 23 → exec (.frameArrival time bytes) s = .next malformed) ∧
        (kind = 2 → body.length ≠ 7 ∨ 2 < byteAt body 6 → exec (.frameArrival time bytes) s = .next malformed) ∧
        (kind = 3 → body.length ≠ 3 ∨ 3 < byteAt body 0 ∨ 15 < byteAt body 1 ∨ 3 < byteAt body 2 →
          exec (.frameArrival time bytes) s = .next malformed) ∧
        (kind = 5 → source ≠ 63 → exec (.frameArrival time bytes) s = .next
          { u with ring.counters.foreignManagement := s.ring.counters.foreignManagement + 1 }) ∧
        (kind = 5 → source = 63 → body.length < 2 → exec (.frameArrival time bytes) s = .next malformed) ∧
        (kind = 5 → source = 63 → 2 ≤ body.length → 4 ≤ s.management.requests.length →
          exec (.frameArrival time bytes) s = .next
            { u with ring.counters.requestOverflow := s.ring.counters.requestOverflow + 1 }))) ∧
  (∀ (s : State) (time : Nat) (bytes : List Byte), s.InTime time → wellChecked bytes → byteAt bytes 0 ≤ 63 →
      byteAt bytes 1 = 0 →
      exec (.frameArrival time bytes) s = .next { s with
        now := max s.now time
        ring.counters.received := s.ring.counters.received + 1
        ring.counters.returned := s.ring.counters.returned + 1 })

/-- R161 steps 3 and 7, R163, R164, R172, R181: a delivered frame is handed to its owner behind the frames handed before it,
with its header's source and sequence number and its fields read by its layout; a frame for another node enters the transit
queue as it arrived, or is discarded and counted where the queue holds 16. The moment is one by which no timer must be taken. -/
def Obligations.ArrivalHandsOver : Prop :=
  (∀ (s : State) (time : Nat) (bytes : List Byte), s.InTime time → wellChecked bytes → byteAt bytes 0 = 0 →
      0 < byteAt bytes 1 → byteAt bytes 1 ≤ 63 →
      let u : State := { s with now := max s.now time, ring.counters.received := s.ring.counters.received + 1 }
      let source := byteAt bytes 1
      let header := bytes.getD 4 0
      let body := (bytes.drop 5).take (byteAt bytes 3)
      (byteAt bytes 2 = 1 → body.length = 23 → exec (.frameArrival time bytes) s = .next { u with
        handed.sense := s.handed.sense ++ [⟨source, header,
          { timestamp := BitVec.ofNat 32 (longAt body 0)
            volts := ⟨⟨signedAt body 4, signedAt body 6⟩, ⟨signedAt body 10, signedAt body 12⟩,
              ⟨signedAt body 16, signedAt body 18⟩⟩
            amps := ⟨wordAt body 8, wordAt body 14, wordAt body 20⟩
            degraded := decide (byteAt body 22 % 2 = 1) }, ⟨false, false, false⟩⟩] }) ∧
      (∀ charger, byteAt bytes 2 = 2 → body.length = 7 →
        [Charger.charging, Charger.idle, Charger.fault][byteAt body 6]? = some charger →
        exec (.frameArrival time bytes) s = .next { u with
          handed.store := s.handed.store ++ [⟨source, header, BitVec.ofNat 32 (longAt body 0), wordAt body 4, charger⟩] }) ∧
      (∀ state, byteAt bytes 2 = 3 → body.length = 3 → byteAt body 1 ≤ 15 → byteAt body 2 ≤ 3 →
        [StackState.standby, StackState.injecting, StackState.bypassed, StackState.tripped][byteAt body 0]? = some state →
        exec (.frameArrival time bytes) s = .next { u with
          handed.status := s.handed.status ++
            [⟨source, header, state, BitVec.ofNat 4 (byteAt body 1), byteAt body 2⟩] }) ∧
      (∀ tag kind fields, byteAt bytes 2 = 5 → source = 63 → body = tag :: kind :: fields →
        s.management.requests.length < 4 →
        exec (.frameArrival time bytes) s = .next { u with
          management.requests := s.management.requests ++ [⟨header, tag, kind, fields⟩] })) ∧
  (∀ (s : State) (time : Nat) (bytes : List Byte), s.InTime time → wellChecked bytes → 0 < byteAt bytes 0 →
      byteAt bytes 0 ≤ 63 → 0 < byteAt bytes 1 → byteAt bytes 1 ≤ 63 →
      let u : State := { s with now := max s.now time, ring.counters.received := s.ring.counters.received + 1 }
      (s.ring.transit.length < 16 → exec (.frameArrival time bytes) s =
        .next { u with ring.transit := s.ring.transit ++ [bytes] }.kick) ∧
      (16 ≤ s.ring.transit.length → exec (.frameArrival time bytes) s =
        .next { u with ring.counters.transitOverflow := s.ring.counters.transitOverflow + 1 }))

/-! ## The egress port -/

/-- R159, R167, R172: a frame the dispatcher originates has its header in place and passes the checks of the ingress port. The
check sequence is what is left, from all ones, after the bits of header and body, each byte's most significant first, have been
entered one by one into the division by x¹⁶ + x¹² + x⁵ + 1; it is sent low-order byte first. -/
def Obligations.OriginatedFramesPassTheCheck : Prop :=
  (∀ bytes : List Byte,
    let left := (bytes.flatMap bitsOf).foldl enterBit 0xFFFF#16
    checkBytes bytes = [BitVec.ofNat 8 (left.toNat % 256), BitVec.ofNat 8 (left.toNat / 256)]) ∧
  ∀ (destination kind : Nat) (sequence : Byte) (body : List Byte), destination ≤ 63 → kind ≤ 255 → body.length ≤ 255 →
    let bytes := originate destination kind sequence body
    wellChecked bytes ∧ byteAt bytes 0 = destination ∧ byteAt bytes 1 = 0 ∧ byteAt bytes 2 = kind ∧
      byteAt bytes 3 = body.length ∧ bytes.getD 4 0 = sequence ∧ (bytes.drop 5).take body.length = body

/-- R166, R167: when the port is IDLE the oldest frame of the first queue that holds one leaves it and starts, DRIVE before
responses before transit before reports; a frame the dispatcher originates takes its destination's egress sequence number,
and the command of a DRIVE frame is IN-TRANSMISSION. R45, R46, R187: the slot that a report frees goes to the entry waiting in
REPORTING with the oldest close order, whose EVENT-CLOSED report takes the next number, and whose entry is freed. R155: a capture channel of the freed event is
made FREED; that it keeps its event index is the model's choice (log entry 25, R46 against R155). -/
def Obligations.NextFrameChosen : Prop :=
  (∀ s : State,
    (32 ≤ s.ring.reports.length → s.serveReporting = s) ∧
    ((∀ i e, s.entry i = some e → e.state ≠ .reporting) → s.serveReporting = s) ∧
    (∀ i e, s.ring.reports.length < 32 → s.entry i = some e → e.state = .reporting →
      (∀ j y, s.entry j = some y → y.state = .reporting → j ≠ i →
        orderAge s.events.closeCounter (y.closeOrder.getD 0) < orderAge s.events.closeCounter (e.closeOrder.getD 0)) →
      s.serveReporting = { s.setEntry i none with
        ring.reports := s.ring.reports ++ [⟨s.management.reportCounter, .eventClosed i e⟩]
        management.reportCounter := s.management.reportCounter + 1
        pool.releases := s.pool.releases.map (Option.map fun x =>
          if x.origin = some i then { x with origin := none } else x)
        capture.channels := s.capture.channels.map fun c =>
          if c.event = some i then { c with status := .freed } else c
        injection.records := s.injection.records.map fun x =>
          if x.drawingEvent = some i then { x with drawingEvent := none } else x
        injection.rates := s.injection.rates.set i none })) ∧
  ∀ s : State,
    (∀ p, s.ring.port = some p → s.kick = s) ∧
    (s.ring.port = none →
      (s.ring.drive = [] → s.ring.responses = [] → s.ring.transit = [] → s.ring.reports = [] → s.kick = s) ∧
      (∀ f rest, s.ring.drive = f :: rest →
        let n := s.ring.egressSequence[f.stack.node]
        let u : State := { s with
          ring.drive := rest
          ring.egressSequence := s.ring.egressSequence.set f.stack.node (n + 1)
          ring.port := some ⟨.drive f, originate f.stack.address 4 n f.body⟩ }
        s.kick = match f.command with
          | none => u
          | some c => u.setView f.stack { s.view f.stack with
              unsent := none
              outstanding := (s.view f.stack).outstanding ++ [⟨c, .inTransmission⟩] }) ∧
      (∀ r rest, s.ring.drive = [] → s.ring.responses = r :: rest →
        let n := s.ring.egressSequence[(63 : Fin 64)]
        s.kick = { s with
          ring.responses := rest
          ring.egressSequence := s.ring.egressSequence.set (63 : Fin 64) (n + 1)
          ring.port := some ⟨.response r, originate 63 6 n r.body⟩ }) ∧
      (∀ bytes rest, s.ring.drive = [] → s.ring.responses = [] → s.ring.transit = bytes :: rest →
        s.kick = { s with ring.transit := rest, ring.port := some ⟨.transit bytes, bytes⟩ }) ∧
      (∀ r rest, s.ring.drive = [] → s.ring.responses = [] → s.ring.transit = [] → s.ring.reports = r :: rest →
        let n := s.ring.egressSequence[(63 : Fin 64)]
        s.kick = ({ s with
          ring.reports := rest
          ring.egressSequence := s.ring.egressSequence.set (63 : Fin 64) (n + 1)
          ring.port := some ⟨.report r, originate 63 7 n r.bytes⟩ } : State).serveReporting))

/-- R120, R135, R168: a completion counts the frame by its queue, sets the stack's reference in effect, makes the command
SENT with its timer, and the next frame is chosen, at a moment by which no timer must be taken. The part holds the nominal
voltage of its event's copy as it stood at the emission (the model's reading, log entry 12). -/
def Obligations.CompletionTaken : Prop :=
  ∀ (s : State) (time : Nat) (p : Sending), s.InTime time → s.ring.port = some p →
    let u : State := { s with now := max s.now time, ring.port := none }
    (∀ r, p.frame = .response r → exec (.frameCompletion time) s = .next ({ u with
      ring.counters.responsesSent := s.ring.counters.responsesSent + 1 } : State).kick) ∧
    (∀ bytes, p.frame = .transit bytes → exec (.frameCompletion time) s = .next ({ u with
      ring.counters.transitSent := s.ring.counters.transitSent + 1 } : State).kick) ∧
    (∀ r, p.frame = .report r → exec (.frameCompletion time) s = .next ({ u with
      ring.counters.reportsSent := s.ring.counters.reportsSent + 1 } : State).kick) ∧
    (∀ k reference command, p.frame = .drive ⟨k, reference, command⟩ →
      let sent : State := { u with ring.counters.driveSent := s.ring.counters.driveSent + 1 }
      let recorded : State := match reference, command with
        | some r, _ => sent.setRecord k { s.record k with inEffect := some r }
        | none, some ⟨_, .inject _⟩ => sent.setRecord k { s.record k with inEffect := none }
        | none, some ⟨_, .bypass⟩ => sent
        | none, some ⟨_, .release⟩ => sent
        | none, none => sent
      let told : State := match command with
        | none => recorded
        | some c => recorded.setView k { s.view k with
            outstanding := (s.view k).outstanding.map fun o =>
              if o.command.sequence = c.sequence ∧ o.standing = .inTransmission then
                { o with standing := .sent (if (s.view k).unresponsive then none else some (max s.now time + 4000)) }
              else o }
      exec (.frameCompletion time) s = .next told.kick)

/-! ## Bus Watch -/

/-- R2, R4: what Bus Watch makes of the oldest SENSE frame handed to it: stray, ignored, duplicate and stale frames are
counted and change nothing else, and any other frame is accepted. -/
def Obligations.SenseFramesSorted : Prop :=
  ∀ (s : State) (x : HandedSense) (rest : List HandedSense), s.handed.sense = x :: rest →
    let u : State := { s with handed.sense := rest }
    ((∀ b r, s.row b = some r → r.head.address ≠ x.source) →
      exec .senseFrame s = .next { u with ring.counters.stray := s.ring.counters.stray + 1 }) ∧
    (∀ b r, s.row b = some r → r.head.address = x.source →
      (∀ b' r', s.row b' = some r' → r'.head.address = x.source → b' = b) →
      let c := s.channel b
      (c.detection = .outOfService →
        exec .senseFrame s = .next (u.setChannel b { c with counters.ignored := c.counters.ignored + 1 })) ∧
      (c.detection ≠ .outOfService →
        (c.baseline = none → s.Accepts x rest b r) ∧
        (∀ base, c.baseline = some base →
          (x.sequence = base.sequence → exec .senseFrame s =
            .next (u.setChannel b { c with counters.duplicates := c.counters.duplicates + 1 })) ∧
          (x.sequence ≠ base.sequence → 2147483648 < (x.frame.timestamp - base.timestamp).toNat →
            exec .senseFrame s = .next (u.setChannel b { c with counters.stale := c.counters.stale + 1 })) ∧
          (x.sequence ≠ base.sequence → (x.frame.timestamp - base.timestamp).toNat ≤ 2147483648 →
            s.Accepts x rest b r))))

/-- R3, R5, R122: in every detection state an accepted frame becomes the baseline, is counted, raises GAP and HEAD-DEGRADED,
retriggers the silence one-shot, and goes with its clamped values to each of the three units that has not taken it already. The
one-shot is retriggered with the row in use before the frame's own adoption (the model's reading, log entry 18); frames of the
bus that still wait for the Capture Unit are taken by it first where a channel attaches (the model's reading, log entry 30). -/
def Obligations.AcceptedFrameRecorded : Prop :=
  (∀ (s : State) (x : HandedSense) (rest : List HandedSense) (b : Bus) (r : BusRow), s.Accepts x rest b r →
      let c := s.channel b
      let f : AcceptedFrame := ⟨b, r.head, x.sequence, x.frame.clamped, c.baseline.map (·.timestamp)⟩
      ∃ t, exec .senseFrame s = .next t ∧ t.handed.sense = rest ∧
        (t.channel b).baseline = some ⟨x.sequence, x.frame.timestamp⟩ ∧
        (t.channel b).counters.accepted = c.counters.accepted + 1 ∧
        (t.channel b).silence = some (s.now + r.silenceTimeout) ∧
        (t.channel b).alarms.gap = (c.alarms.gap || (match c.baseline with
          | none => false
          | some base => decide (x.sequence ≠ base.sequence + 1))) ∧
        (t.channel b).alarms.headDegraded = (c.alarms.headDegraded || x.frame.degraded) ∧
        t.handed.injection = s.handed.injection ++ (if x.taken.injection then [] else [f]) ∧
        t.handed.envelope = s.handed.envelope ++ (if x.taken.envelope then [] else [f]) ∧
        (∃ waiting, t.handed.capture = waiting ++ (if x.taken.capture then [] else [f]) ∧
          (waiting = s.handed.capture ∨ waiting = s.handed.capture.filter fun g => decide (g.bus ≠ b))) ∧
        (r.capture = none → t.handed.capture = s.handed.capture ++ (if x.taken.capture then [] else [f]))) ∧
  (∀ f : SenseFrame, f.clamped =
      { timestamp := f.timestamp
        volts := ⟨⟨max (-2000) (min 2000 f.volts.a.d), max (-2000) (min 2000 f.volts.a.q)⟩,
          ⟨max (-2000) (min 2000 f.volts.b.d), max (-2000) (min 2000 f.volts.b.q)⟩,
          ⟨max (-2000) (min 2000 f.volts.c.d), max (-2000) (min 2000 f.volts.c.q)⟩⟩
        amps := ⟨min 4000 f.amps.a, min 4000 f.amps.b, min 4000 f.amps.c⟩
        degraded := f.degraded })

/-- R7, R8: an accepted frame taken in NORMAL with no fault current, where it does not confirm at once: a low magnitude
starts a suspect sag, a high one counts a swell, and both may hold. -/
def Obligations.NormalFrameEvaluated : Prop :=
  ∀ (s : State) (x : HandedSense) (rest : List HandedSense) (b : Bus) (r : BusRow), s.Accepts x rest b r →
    (s.channel b).detection = .normal → ¬ x.overCurrent r →
    (x.low < r.sagThreshold * r.sagThreshold → r.confirmCount ≠ 1) →
    let u := s.accepting x rest b r
    let c := if r.swellThreshold * r.swellThreshold < x.frame.clamped.volts.maxSquare then
      { u.channel b with alarms.swell := true, counters.swells := (u.channel b).counters.swells + 1 }
      else u.channel b
    let c := if x.low < r.sagThreshold * r.sagThreshold then
      { c with
        detection := .suspect
        runCount := 1
        suspectStart := some x.frame.timestamp
        suspectLowest := some (isqrt x.low) }
      else c
    exec .senseFrame s = .next ((u.setChannel b c).passOn (s.frameOf b r x) x.taken)

/-- R9: an accepted frame taken in SUSPECT with no fault current that does not confirm: below the sag threshold it is
counted, at or above it the dip is counted and the bus enters NORMAL. -/
def Obligations.SuspectFrameEvaluated : Prop :=
  ∀ (s : State) (x : HandedSense) (rest : List HandedSense) (b : Bus) (r : BusRow) (lowest : Nat),
    s.Accepts x rest b r → (s.channel b).detection = .suspect → (s.channel b).suspectLowest = some lowest →
    (s.channel b).runCount < 64 → ¬ x.overCurrent r →
    let u := s.accepting x rest b r
    let c := u.channel b
    (x.low < r.sagThreshold * r.sagThreshold → (s.channel b).runCount + 1 ≠ r.confirmCount →
      exec .senseFrame s = .next ((u.setChannel b
        { c with runCount := c.runCount + 1, suspectLowest := some (min lowest (isqrt x.low)) }).passOn
          (s.frameOf b r x) x.taken)) ∧
    (r.sagThreshold * r.sagThreshold ≤ x.low →
      exec .senseFrame s = .next (((u.setChannel b { c with counters.dips := c.counters.dips + 1 }).enterNormal b).passOn
        (s.frameOf b r x) x.taken))

/-- R8, R10, R14, R29 to R31, R54, R72, R74, R83, R148 to R150: the frame that reaches the confirm count, in SUSPECT or, with a
confirm count of 1, in NORMAL, takes the bus into SAG. With an entry free the lowest one holds the event, REQUESTING with its
FIRST request sized and in the Grant Queue, or BYPASSED and UNPROTECTED where the stack is faulted, and the capture channel its
copy names attaches and writes the START record, truncating a pass that runs, or is MASKED and marks NO-CAPTURE; with none free
the bus is untracked and MAP-FULL is raised. That a pass is marked due is the model's (log entries 5 and 27), as is that the
waiting frames of the bus are captured before the attachment (log entry 30) and the order of the effects (log entry 9). -/
def Obligations.SagConfirmed : Prop :=
  ∀ (s : State) (x : HandedSense) (rest : List HandedSense) (b : Bus) (r : BusRow) (start : U32) (lowest : Nat)
    (envelope : EnvelopeRow) (point last : Breakpoint) (points : List Breakpoint), s.Accepts x rest b r →
    ((s.channel b).detection = .suspect ∧ (s.channel b).suspectStart = some start ∧
        (∃ before, (s.channel b).suspectLowest = some before ∧ lowest = min before (isqrt x.low)) ∧
        (s.channel b).runCount < 64 ∧ (s.channel b).runCount + 1 = r.confirmCount ∨
      (s.channel b).detection = .normal ∧ r.confirmCount = 1 ∧ start = x.frame.timestamp ∧ lowest = isqrt x.low) →
    ¬ x.overCurrent r → x.low < r.sagThreshold * r.sagThreshold →
    (s.bank (s.channel b).bankInUse).envelopes[r.envelope] = some envelope →
    envelope.breakpoints = point :: points → envelope.breakpoints.getLast? = some last →
    let v := s.view r.stack
    let u := s.accepting x rest b r
    let f := s.frameOf b r x
    let copy : OpenedUnder := ⟨r.stack, r.head, r.nominal, r.cls, r.method, r.policy, r.injectionLimit, r.grantCap,
      r.capture, envelope⟩
    let trial := copy.reference v.derate r.method.startStep 0 f.frame.volts
    let power := (trial.a.magnitude * r.nominal * f.frame.amps.a + trial.b.magnitude * r.nominal * f.frame.amps.b
      + trial.c.magnitude * r.nominal * f.frame.amps.c) / 1000
    let minimum := match s.pool.inEffect with
      | none => 1
      | some p => p.minimumGrant
    let amount := min (max (min (power * last.duration / 1000) 4294967295) minimum) r.grantCap
    let c := if (s.channel b).detection = .normal ∧ r.swellThreshold * r.swellThreshold < f.frame.volts.maxSquare then
        { u.channel b with alarms.swell := true, counters.swells := (u.channel b).counters.swells + 1 }
      else u.channel b
    let sagging (i : Option EventIx) : BusChannel := { c with
      detection := .sag
      runCount := 0
      suspectStart := none
      suspectLowest := none
      openEvent := i
      untracked := i.isNone }
    let event (state : EventState) (outcome : Option EventOutcome) (step first : Nat) : Event :=
      ⟨b, s.events.openCounter, start, state, copy, [⟨0, lowest⟩], 0, step, none, none, x.frame.timestamp, .none, 0, 0, 0, 0,
        0, first, [], ⟨false, false, false⟩, none, false, false, none, 0, outcome,
        ⟨false, false, false, false, false, false, false, false⟩, none, none⟩
    let entered (i : EventIx) (e : Event) : State := { u.setEntry i (some e) with
      events.openCounter := s.events.openCounter + 1
      injection.rates := s.injection.rates.set i none }
    let captured (w : State) (i : EventIx) : State := match r.capture with
      | none => w
      | some k =>
        if (s.recorder k).state = .masked then w.modEvent i fun e => { e with marks.noCapture := true }
        else
          let ready := w.captureCaughtUp b
          let ended := match (ready.recorder k).state, (ready.recorder k).status, (ready.recorder k).event with
            | .running, .opened, some j => ready.modEvent j fun e => { e with marks.truncated := true }
            | .running, .ended, some j => ready.modEvent j fun e => { e with marks.truncated := true }
            | _, _, _ => ready
          let attached := (ended.setRecorder k { ended.recorder k with
            state := .running
            bus := some b
            event := some i
            status := .opened
            current := (ended.recorder k).base
            written := 0
            halfNotified := false
            passCount := 1 }).modEvent i fun e => { e with capture := some k }
          let written := attached.writeRecord k .start f
          written.setRecorder k { written.recorder k with startFrame := some x.sequence }
    let taken (w : State) (i : EventIx) : State := ((captured w i).setChannel b { sagging (some i) with
      counters.eventsOpened := c.counters.eventsOpened + 1 }).passOn f x.taken
    let opened (i : EventIx) (t : State) (event : EventState) (outcome : Option EventOutcome) (step first : Nat) : Prop :=
      (t.channel b).detection = .sag ∧ (t.channel b).openEvent = some i ∧ (t.channel b).untracked = false ∧
      (t.channel b).runCount = 0 ∧ (t.channel b).suspectStart = none ∧ (t.channel b).suspectLowest = none ∧
      (t.channel b).counters.eventsOpened = (s.channel b).counters.eventsOpened + 1 ∧
      t.events.openCounter = s.events.openCounter + 1 ∧
      ∃ marks capture, t.entry i = some
        ⟨b, s.events.openCounter, start, event, copy, [⟨0, lowest⟩], 0, step, none, none,
          x.frame.timestamp, .none, 0, 0, 0, 0, 0, first, [], ⟨false, false, false⟩, none, false, false, none, 0, outcome,
          marks, capture, none⟩
    (∀ i, s.entry i = none → (∀ j, j < i → (s.entry j).isSome) →
      (v.tripped = false → v.unresponsive = false →
        let queue := insertByKey (·.cls) ⟨i, .first, amount, r.cls, s.now, s.now + point.duration * 1000⟩ s.pool.grantQueue
        exec .senseFrame s = .next (taken { entered i (event .requesting none r.method.startStep amount) with
          pool.grantQueue := queue
          pool.passDue := true } i) ∧
        ∃ t, exec .senseFrame s = .next t ∧ opened i t .requesting none r.method.startStep amount ∧
          t.pool.grantQueue = queue ∧ t.pool.passDue = true) ∧
      (v.tripped = true ∨ v.unresponsive = true →
        exec .senseFrame s = .next (taken (entered i (event .bypassed (some .unprotected) 3 0)) i) ∧
        ∃ t, exec .senseFrame s = .next t ∧ opened i t .bypassed (some .unprotected) 3 0 ∧
          t.pool.grantQueue = s.pool.grantQueue)) ∧
    ((∀ i, (s.entry i).isSome) → exec .senseFrame s =
      .next ((u.setChannel b { sagging none with alarms.mapFull := true }).passOn f x.taken))

/-- R11, R12, R14, R32: an accepted frame with no fault current, taken in SAG with a recover count above 1 or in RECOVERING
without completing the recovery: the strikes it begins or lowers, and the states and run counts of its band. -/
def Obligations.SagFramesEvaluated : Prop :=
  (∀ (s : State) (x : HandedSense) (rest : List HandedSense) (b : Bus) (r : BusRow), s.Accepts x rest b r →
      (s.channel b).detection = .sag → ¬ x.overCurrent r → r.recoverCount ≠ 1 →
      let u := s.accepting x rest b r
      let moved (w : State) : State := if x.low < r.recoveryThreshold * r.recoveryThreshold then w
        else w.setChannel b { u.channel b with detection := .recovering, runCount := 1 }
      ((s.channel b).openEvent = none →
        exec .senseFrame s = .next ((moved u).passOn (s.frameOf b r x) x.taken)) ∧
      (∀ i e, (s.channel b).openEvent = some i → s.entry i = some e → 0 < e.strikeOverflow →
        exec .senseFrame s = .next ((moved u).passOn (s.frameOf b r x) x.taken)) ∧
      (∀ i e before last, (s.channel b).openEvent = some i → s.entry i = some e → e.strikeOverflow = 0 →
        e.strikes = before ++ [last] →
        exec .senseFrame s = .next ((moved (u.setEntry i (some
          { e with strikes := before ++ [⟨last.offset, min last.lowest (isqrt x.low)⟩] }))).passOn
            (s.frameOf b r x) x.taken))) ∧
  (∀ (s : State) (x : HandedSense) (rest : List HandedSense) (b : Bus) (r : BusRow), s.Accepts x rest b r →
      (s.channel b).detection = .recovering → ¬ x.overCurrent r → (s.channel b).runCount < 64 →
      let u := s.accepting x rest b r
      let c := u.channel b
      let back := u.setChannel b { c with detection := .sag, runCount := 0 }
      (r.recoveryThreshold * r.recoveryThreshold ≤ x.low → (s.channel b).runCount + 1 ≠ r.recoverCount →
        exec .senseFrame s = .next ((u.setChannel b { c with runCount := c.runCount + 1 }).passOn
          (s.frameOf b r x) x.taken)) ∧
      (x.low < r.recoveryThreshold * r.recoveryThreshold → r.sagThreshold * r.sagThreshold ≤ x.low →
        exec .senseFrame s = .next ((u.setChannel b { c with runCount := 0 }).passOn (s.frameOf b r x) x.taken)) ∧
      (x.low < r.recoveryThreshold * r.recoveryThreshold → x.low < r.sagThreshold * r.sagThreshold →
        ((s.channel b).openEvent = none →
          exec .senseFrame s = .next (back.passOn (s.frameOf b r x) x.taken)) ∧
        (∀ i e, (s.channel b).openEvent = some i → s.entry i = some e →
          let e' := if e.strikes.length < 4 then
            { e with strikes := e.strikes ++ [⟨(x.frame.timestamp - e.start).toNat / 1000, isqrt x.low⟩] }
            else { e with strikeOverflow := min (e.strikeOverflow + 1) 255 }
          exec .senseFrame s = .next ((back.setEntry i (some e')).passOn (s.frameOf b r x) x.taken))))

/-- R13, R15, R43: the frame that completes a recovery takes the bus to NORMAL and ends its sag with the cause RECOVERED. R42 to
R46, R111, R155, R187: the end of an event with any cause, in its six steps; an event with nothing left to wait for goes to
REPORTING, where a report queue with room takes its EVENT-CLOSED report under the next number and the entry is freed, and a
full one leaves it waiting. That a freed channel keeps its event index is the model's choice (log entry 25), the order of the
end against the entry to NORMAL is log entry 9, and the pass marked due is log entries 5 and 27. -/
def Obligations.RecoveryEndsTheSag : Prop :=
  (∀ (s : State) (x : HandedSense) (rest : List HandedSense) (b : Bus) (r : BusRow) (i : EventIx), s.Accepts x rest b r →
    ¬ x.overCurrent r → r.recoveryThreshold * r.recoveryThreshold ≤ x.low → (s.channel b).detection = .recovering →
    (s.channel b).runCount < 64 → (s.channel b).runCount + 1 = r.recoverCount → (s.channel b).openEvent = some i →
    (s.channel b).untracked = false →
    let u := s.accepting x rest b r
    let ended := (u.setChannel b { u.channel b with runCount := (u.channel b).runCount + 1 }).endEvent i .recovered
    exec .senseFrame s = .next (((ended.setChannel b { ended.channel b with openEvent := none }).enterNormal b).passOn
      (s.frameOf b r x) x.taken)) ∧
  (∀ (s : State) (i : EventIx) (e : Event) (cause : EndCause), s.entry i = some e →
    let outcome : EventOutcome := match cause with
      | .downstreamFault => .downstreamFault
      | .lostSight => .lostSight
      | .withdrawn => .withdrawn
      | .recovered =>
        if e.marks.breach = true ∧ e.copy.policy = .hold then .breached
        else if e.state = .injecting then .rideThrough
        else .unaided
    let ended : Event := { e with
      outcome := some (e.outcome.getD outcome)
      marks := match cause with
        | .lostSight => { e.marks with silence := true }
        | .downstreamFault => { e.marks with downstream := true }
        | .recovered => e.marks
        | .withdrawn => e.marks
      claims := []
      held := ⟨false, false, false⟩ }
    let u : State := { s.setEntry i (some ended) with
      pool.grantQueue := s.pool.grantQueue.filter fun q => decide (q.event ≠ i)
      pool.passDue := s.pool.passDue || decide (s.pool.grantQueue.head?.map GrantRequest.event = some i)
      pool.releases := s.pool.releases.map (Option.map fun y =>
        { y with claims := y.claims.filter fun c => decide (c.event ≠ i) }) }
    let told := match e.stackOrder, cause with
      | .inject, .recovered => if e.grant ≤ e.spent then u.queueCommand e.copy.stack .release else u
      | .inject, _ => (u.setEntry i (some { ended with stackOrder := .bypass })).queueCommand e.copy.stack .bypass
      | _, _ => u
    let closed : State := { told.modEvent i (fun y =>
        { y with ladderStep := 3, state := .closing, closeOrder := some s.events.closeCounter }) with
      events.closeCounter := s.events.closeCounter + 1
      capture.channels := s.capture.channels.map fun c =>
        if c.event = some i ∧ c.status = .opened then { c with status := .ended } else c }
    let disposed := closed.dispose i
    (∀ y, disposed.entry i = some y → y.state = .closing → y.releaseWait = none →
      s.endEvent i cause = disposed.enterReporting i) ∧
    (∀ y, disposed.entry i = some y → y.releaseWait.isSome → s.endEvent i cause = disposed)) ∧
  (∀ (s : State) (i : EventIx) (e : Event), s.entry i = some e →
    let reporting : Event := { e with state := .reporting }
    let records := s.injection.records.map fun y =>
      if y.drawingEvent = some i then { y with drawingEvent := none } else y
    (32 ≤ s.ring.reports.length →
      s.enterReporting i = { s.setEntry i (some reporting) with injection.records := records }) ∧
    (s.ring.reports.length < 32 → s.enterReporting i = State.kick { s.setEntry i none with
      ring.reports := s.ring.reports ++ [⟨s.management.reportCounter, .eventClosed i reporting⟩]
      management.reportCounter := s.management.reportCounter + 1
      pool.releases := s.pool.releases.map (Option.map fun y =>
        if y.origin = some i then { y with origin := none } else y)
      capture.channels := s.capture.channels.map fun c =>
        if c.event = some i then { c with status := .freed } else c
      injection.records := records
      injection.rates := s.injection.rates.set i none })) ∧
  ∀ (s : State) (x : HandedSense) (rest : List HandedSense) (b : Bus) (r : BusRow), s.Accepts x rest b r →
    ¬ x.overCurrent r → r.recoveryThreshold * r.recoveryThreshold ≤ x.low →
    ((s.channel b).detection = .sag ∧ r.recoverCount = 1 ∨
      (s.channel b).detection = .recovering ∧ (s.channel b).runCount < 64 ∧ (s.channel b).runCount + 1 = r.recoverCount) →
    ∃ t, exec .senseFrame s = .next t ∧ (t.channel b).detection = .normal ∧ (t.channel b).runCount = 0 ∧
      (t.channel b).bankInUse = s.banks.active ∧ SagEnded .recovered b s t

/-- R7, R15, R16, R22: a phase current above the fault limit takes the bus to FAULTED from NORMAL, SUSPECT, SAG or
RECOVERING, ends a sag with the cause DOWNSTREAM-FAULT and counts no dip; in FAULTED it restarts the count, and the recover
count clears the fault. That the tidy RELEASE comes before the BUS-STATE report is the model's order (log entry 9). -/
def Obligations.FaultCurrentTaken : Prop :=
  (∀ (s : State) (x : HandedSense) (rest : List HandedSense) (b : Bus) (r : BusRow), s.Accepts x rest b r →
      x.overCurrent r →
      ((s.channel b).detection = .normal ∨ (s.channel b).detection = .suspect ∨ (s.channel b).detection = .sag ∨
        (s.channel b).detection = .recovering) →
      (∃ t, exec .senseFrame s = .next t ∧ (t.channel b).detection = .faulted ∧ (t.channel b).runCount = 0 ∧
        (t.channel b).suspectStart = none ∧ (t.channel b).suspectLowest = none ∧
        (t.channel b).counters.dips = (s.channel b).counters.dips ∧ SagEnded .downstreamFault b s t) ∧
      ((s.channel b).openEvent = none → (s.channel b).untracked = false →
        let u := s.accepting x rest b r
        exec .senseFrame s = .next (((u.setChannel b { u.channel b with
          detection := .faulted
          runCount := 0
          suspectStart := none
          suspectLowest := none }).report
            (.busState b (s.channel b).detection .faulted .frame (some x.frame.timestamp))).passOn
              (s.frameOf b r x) x.taken))) ∧
  (∀ (s : State) (x : HandedSense) (rest : List HandedSense) (b : Bus) (r : BusRow), s.Accepts x rest b r →
      (s.channel b).detection = .faulted → (s.channel b).runCount < 64 →
      let u := s.accepting x rest b r
      let c := u.channel b
      (x.overCurrent r → exec .senseFrame s =
        .next ((u.setChannel b { c with runCount := 0 }).passOn (s.frameOf b r x) x.taken)) ∧
      (¬ x.overCurrent r → (s.channel b).runCount + 1 ≠ r.recoverCount → exec .senseFrame s =
        .next ((u.setChannel b { c with runCount := c.runCount + 1 }).passOn (s.frameOf b r x) x.taken)) ∧
      (¬ x.overCurrent r → (s.channel b).runCount + 1 = r.recoverCount → exec .senseFrame s =
        .next ((((u.setChannel b { c with runCount := c.runCount + 1 }).enterNormal b).report
          (.busState b .faulted .normal .frame (some x.frame.timestamp))).passOn (s.frameOf b r x) x.taken)))

/-- R23: a bus that enters NORMAL adopts the active bank and loses what a sag leaves; RELEASE is queued for the stack of
its row now in use when that stack is BYPASSED with nothing left to do; a command in transmission is left to do (the model's
reading, log entry 20). -/
def Obligations.EnteringNormal : Prop :=
  ∀ (s : State) (b : Bus),
    let u := s.setChannel b { s.channel b with
      detection := .normal
      runCount := 0
      suspectStart := none
      suspectLowest := none
      openEvent := none
      untracked := false
      bankInUse := s.banks.active }
    (s.activeBank.busRows[b] = none → s.enterNormal b = u) ∧
    (∀ r, s.activeBank.busRows[b] = some r →
      let v := s.view r.stack
      let idle := v.reported = .bypassed ∧ v.unresponsive = false ∧
        (∀ q y, s.release q = some y → y.stack ≠ r.stack) ∧ v.unsent = none ∧ v.outstanding = []
      (idle → s.enterNormal b = u.queueCommand r.stack .release) ∧ (¬ idle → s.enterNormal b = u))

/-- R17 to R19, R22: the expiry of a bus's silence one-shot, from its expiry time to 1 µs after it, takes the bus to SILENT with
no baseline and ends a sag with the cause LOST-SIGHT; before its expiry time only the time base moves; the first accepted frame
returns a SILENT bus to NORMAL. The moments are log entry 1's; the entry to NORMAL, with its RELEASE, before the report is the
model's order (log entry 9). -/
def Obligations.SilenceTaken : Prop :=
  (∀ (s : State) (time : Nat) (b : Bus), s.InTime time →
      let u : State := { s with now := max s.now time }
      (∀ expiry, (s.channel b).silence = some expiry → expiry ≤ max s.now time →
        (∃ t, exec (.silenceExpiry time b.val) s = .next t ∧ (t.channel b).detection = .silent ∧
          (t.channel b).runCount = 0 ∧ (t.channel b).suspectStart = none ∧ (t.channel b).suspectLowest = none ∧
          (t.channel b).baseline = none ∧ (t.channel b).silence = none ∧
          (t.channel b).counters.dips = (s.channel b).counters.dips ∧ SagEnded .lostSight b s t) ∧
        ((s.channel b).openEvent = none → (s.channel b).untracked = false →
          exec (.silenceExpiry time b.val) s = .next ((u.setChannel b { s.channel b with
            detection := .silent
            runCount := 0
            suspectStart := none
            suspectLowest := none
            baseline := none
            silence := none }).report (.busState b (s.channel b).detection .silent .expiry none)))) ∧
      ((∀ expiry, (s.channel b).silence = some expiry → max s.now time < expiry) →
        exec (.silenceExpiry time b.val) s = .next u)) ∧
  (∀ (s : State) (x : HandedSense) (rest : List HandedSense) (b : Bus) (r : BusRow), s.Accepts x rest b r →
      (s.channel b).detection = .silent →
      exec .senseFrame s = .next ((((s.accepting x rest b r).enterNormal b).report
        (.busState b .silent .normal .frame (some x.frame.timestamp))).passOn (s.frameOf b r x) x.taken))

/-! ## Envelopes and exposure -/

/-- R53: the floor at `t` ms is that of the first breakpoint whose duration exceeds `t`, else the continuous floor; the
elapsed time is the head timestamps' difference modulo 2³², in whole ms. -/
def Obligations.FloorAtElapsedTime : Prop :=
  (∀ (e : EnvelopeRow) (t : Nat),
    (∀ before p after, e.breakpoints = before ++ p :: after → (∀ q ∈ before, q.duration ≤ t) → t < p.duration →
      e.floorAt t = p.floor) ∧
    ((∀ p ∈ e.breakpoints, p.duration ≤ t) → e.floorAt t = e.continuousFloor)) ∧
  ∀ later earlier : U32, elapsedMillis later earlier = (later.toNat + 4294967296 - earlier.toNat) % 4294967296 / 1000

/-- R55 to R62: the Envelope Unit takes an accepted frame. The open event in INJECTING, HELD or BYPASSED is judged on the
residual of each phase; the run that reaches the breach confirm count marks BREACH, raises the alarm, and under ABANDON
takes an INJECTING or HELD event to BYPASSED with ABANDONED. Any other frame changes nothing. -/
def Obligations.EnvelopeFrameTaken : Prop :=
  ∀ (s : State) (f : AcceptedFrame) (rest : List AcceptedFrame), s.handed.envelope = f :: rest →
    let u : State := { s with handed.envelope := rest }
    ((s.channel f.bus).openEvent = none → exec (.envelopeJudge .passedOn) s = .next u) ∧
    (∀ i e, (s.channel f.bus).openEvent = some i → s.entry i = some e →
      ((e.state = .requesting ∨ e.state = .closing ∨ e.state = .reporting) →
        exec (.envelopeJudge .passedOn) s = .next u) ∧
      ((e.state = .injecting ∨ e.state = .held ∨ e.state = .bypassed) →
        let v := s.view e.copy.stack
        let residual (p q : Phasor) : Phasor := ⟨p.d + q.d, p.q + q.q⟩
        let seen : ThreePhase := match v.reported, v.unresponsive, (s.record e.copy.stack).inEffect with
          | .injecting, false, some r => ⟨residual f.frame.volts.a r.volts.a, residual f.frame.volts.b r.volts.b,
              residual f.frame.volts.c r.volts.c⟩
          | _, _, _ => f.frame.volts
        let floor := e.copy.envelope.floorAt (elapsedMillis f.frame.timestamp e.start)
        let below := seen.minSquare < floor * floor
        let confirm := e.copy.envelope.breachConfirm
        let judged : Event := { e with
          lowestResidual := some (match e.lowestResidual with
            | none => isqrt seen.minSquare
            | some m => min m (isqrt seen.minSquare)) }
        (¬ below → exec (.envelopeJudge .passedOn) s = .next (u.setEntry i (some { judged with breachRun := 0 }))) ∧
        (below → confirm ≤ e.breachRun → exec (.envelopeJudge .passedOn) s = .next (u.setEntry i (some judged))) ∧
        (below → e.breachRun + 1 < confirm → exec (.envelopeJudge .passedOn) s =
          .next (u.setEntry i (some { judged with breachRun := e.breachRun + 1 }))) ∧
        (below → e.breachRun + 1 = confirm →
          let breached := (u.setEntry i (some { judged with
            breachRun := confirm, marks := { e.marks with breach := true } })).addAlarm e.bus .breach
          (e.copy.policy = .hold ∨ e.state = .bypassed → exec (.envelopeJudge .passedOn) s = .next breached) ∧
          (e.copy.policy = .abandon → e.state ≠ .bypassed → exec (.envelopeJudge .passedOn) s =
            .next (breached.bypass i .abandoned false)))))

/-- R37, R38: an event that enters BYPASSED has step 3, no held reason, no pending request and the first cause's outcome,
a stack ordered INJECT is ordered BYPASS and commanded so, and its unspent is disposed of. R42, R92: the unspent goes to Free,
into a release in the lowest-index free entry, or into a wait for one with RELEASE-WAIT raised. R90, R96: the fields of a new
release, which a stack already quiescent confirms at once. The waits' numbers, the RELEASE remembered and the pass marked due
are the model's (log entries 5 and 27). -/
def Obligations.BypassEntered : Prop :=
  (∀ (s : State) (i : EventIx) (e : Event), s.entry i = some e →
    let stack := e.copy.stack
    let unspent := e.grant - e.spent
    let given : Event := { e with returned := min (e.returned + unspent) 4294967295, grant := e.spent }
    (∀ (cause : EventOutcome) (commanded : Bool),
      let u := State.setEntry { s with
        pool.grantQueue := s.pool.grantQueue.filter fun q => decide (q.event ≠ i)
        pool.passDue := s.pool.passDue || decide (s.pool.grantQueue.head?.map GrantRequest.event = some i) } i (some { e with
          state := .bypassed
          outcome := some (e.outcome.getD cause)
          ladderStep := 3
          held := ⟨false, false, false⟩
          stackOrder := match e.stackOrder with
            | .inject => .bypass
            | order => order })
      s.bypass i cause commanded =
        (if e.stackOrder = .inject ∧ commanded = false then u.queueCommand stack .bypass else u).dispose i) ∧
    (unspent = 0 ∨ e.releaseWait.isSome → s.dispose i = s) ∧
    (0 < unspent → e.releaseWait = none →
      (e.stackOrder = .none ∨ e.releaseCreated = true ∨ (∃ r y, s.release r = some y ∧ y.stack = stack) →
        s.dispose i = { s.setEntry i (some given) with
          pool.free := s.pool.free + unspent
          pool.passDue := true }) ∧
      (e.stackOrder ≠ .none → e.releaseCreated = false → (∀ r y, s.release r = some y → y.stack ≠ stack) →
        (∀ r, s.release r = none → (∀ q, q < r → (s.release q).isSome) → s.dispose i = s.newRelease i r) ∧
        ((∀ r, (s.release r).isSome) →
          let waits := State.addAlarm { s.setEntry i (some { e with
            releaseWait := some ⟨s.now, s.events.waitCounter⟩
            releaseQueued := e.releaseQueued || decide (e.stackOrder = .inject) }) with
              events.waitCounter := s.events.waitCounter + 1 } e.bus .releaseWait
          s.dispose i = if e.stackOrder = .inject then waits.queueCommand stack .release else waits))) ∧
    (∀ r,
      let told := if e.stackOrder = .inject ∧ e.releaseQueued = false then s.queueCommand stack .release else s
      let v := told.view stack
      let made : Release :=
        { state := if e.marks.stackFault = true ∨ v.tripped = true ∨ v.unresponsive = true then .unresolved else .pending
          stack := stack
          bus := e.bus
          origin := some i
          creationOrder := s.pool.creationCounter
          amount := unspent
          accumulator := 0
          overdraw := 0
          awaited := v.nextSequence - 1
          claims := [] }
      let settled : State := { (told.setEntry i (some { given with releaseCreated := true, releaseWait := none })) with
        pool.creationCounter := s.pool.creationCounter + 1
        injection.records := s.injection.records.map fun y =>
          if y.drawingEvent = some i then { y with drawingEvent := none } else y }
      let quiescent := made.state = .pending ∧ v.lastAcknowledged = some made.awaited ∧ v.lastReported = some made.awaited ∧
        (v.reported = .standby ∨ v.reported = .bypassed)
      (¬ quiescent → s.newRelease i r = settled.setRelease r (some made)) ∧
      (quiescent → s.newRelease i r = State.availabilityCheck { settled.setRelease r none with
        pool.free := s.pool.free + unspent
        pool.passDue := true } stack))) ∧
  ∀ (s : State) (i : EventIx) (e : Event) (cause : EventOutcome) (commanded : Bool), s.entry i = some e →
    ∃ e', (s.bypass i cause commanded).entry i = some e' ∧ e'.state = .bypassed ∧ e'.ladderStep = 3 ∧
      e'.held = ⟨false, false, false⟩ ∧ e'.deepestStep = e.deepestStep ∧ e'.claims = e.claims ∧
      e'.outcome = some (match e.outcome with
        | some o => o
        | none => cause) ∧
      e'.stackOrder = (match e.stackOrder with
        | .inject => .bypass
        | order => order) ∧
      (∀ q ∈ (s.bypass i cause commanded).pool.grantQueue, q.event ≠ i)

/-! ## Injection -/

/-- R115, R116: at step 0 the raw reference and the measured vector add up to the pre-sag vector; at steps 1 and 2 it raises
the measured vector along its own direction to 1,000, or to the floor plus the margin at most 1,000. -/
def Obligations.RawReferences : Prop :=
  (∀ (c : OpenedUnder) (t : Nat) (p : Phasor), c.rawReference 0 t p = ⟨1000 - p.d, -p.q⟩ ∧
      (c.rawReference 0 t p).add p = ⟨1000, 0⟩ ∧
      (-2000 ≤ p.d → p.d ≤ 2000 → -2000 ≤ p.q → p.q ≤ 2000 →
        -1000 ≤ (c.rawReference 0 t p).d ∧ (c.rawReference 0 t p).d ≤ 3000 ∧
        -2000 ≤ (c.rawReference 0 t p).q ∧ (c.rawReference 0 t p).q ≤ 2000)) ∧
  (∀ (c : OpenedUnder) (step t : Nat) (p : Phasor), step = 1 ∨ step = 2 →
      let target := if step = 1 then 1000 else min 1000 (c.envelope.floorAt t + c.envelope.margin)
      let m := isqrt (p.d * p.d + p.q * p.q).toNat
      c.rawReference step t p =
        if m = 0 then ⟨target, 0⟩
        else if target ≤ m then ⟨0, 0⟩
        else ⟨(p.d * ((target : Int) - m)).tdiv m, (p.q * ((target : Int) - m)).tdiv m⟩)

/-- R117: the effective limit falls with the derate, a raw reference within it is kept, and every reference lies within it. R115
to R117: the reference of a frame is, phase by phase, the raw reference of the step held within the effective limit. -/
def Obligations.ReferenceWithinLimit : Prop :=
  (∀ (c : OpenedUnder) (derate step t : Nat) (v : ThreePhase), c.reference derate step t v =
    ⟨limitReference (c.effectiveLimit derate) (c.rawReference step t v.a),
      limitReference (c.effectiveLimit derate) (c.rawReference step t v.b),
      limitReference (c.effectiveLimit derate) (c.rawReference step t v.c)⟩) ∧
  ∀ (c : OpenedUnder) (derate limit : Nat) (p : Phasor),
    c.effectiveLimit derate = c.injectionLimit * (4 - derate) / 4 ∧
    (p.square ≤ limit * limit → limitReference limit p = p) ∧
    (limit * limit < p.square → limitReference limit p =
      ⟨(p.d * limit).tdiv (isqrt p.square), (p.q * limit).tdiv (isqrt p.square)⟩) ∧
    isqrt (limitReference limit p).square ≤ limit ∧
    (∀ n, isqrt n * isqrt n ≤ n ∧ n < (isqrt n + 1) * (isqrt n + 1))

/-- R113, R114, R119, R126 to R129: an accepted frame of a bus whose open event is INJECTING once its stacks have been metered.
An event that has spent its grant is EXHAUSTED. Else a top-up is brought at three quarters, the ladder steps down by one where
the projected need exceeds what remains, and the reference of the step is stored and placed, or, past step 2, the event is
EXHAUSTED. Where no stack is metered on the frame the metering changes nothing. The brought TOPUP carries the event's open order
and the part the nominal voltage of its copy (the model's, log entries 6 and 12). -/
def Obligations.InjectionFrameDrives : Prop :=
  ∀ (s : State) (f : AcceptedFrame) (rest : List AcceptedFrame) (i : EventIx) (e : Event),
    s.handed.injection = f :: rest →
    let before : State := { s with handed.injection := rest }
    let u := before.meter f
    (u.channel f.bus).openEvent = some i → u.entry i = some e → e.state = .injecting →
    let t := elapsedMillis f.frame.timestamp e.start
    let inSag := (u.channel e.bus).detection = .sag ∨ (u.channel e.bus).detection = .recovering
    let brings := inSag ∧ u.requestOf i = none ∧ 3 * e.grant ≤ 4 * e.spent
    let emitted (w : State) (x : Event) : State :=
      let volts := e.copy.reference (u.view e.copy.stack).derate x.ladderStep t f.frame.volts
      (w.setEntry i (some { x with lastReference := some volts })).placeReference e.copy.stack
        ⟨i, x.ladderStep, volts, e.copy.nominal⟩
    let down : Event := { e with ladderStep := e.ladderStep + 1, deepestStep := some (e.ladderStep + 1) }
    ((∀ k, s.metersStack f.bus k = false) → u = before) ∧
    (e.grant ≤ e.spent → exec (.injectionFrame .passedOn) s = .next (u.bypass i .exhausted false)) ∧
    (e.spent < e.grant → ∀ w : State,
      (brings → w = { u with handed.topups := s.handed.topups ++ [⟨i, e.openOrder⟩] }) → (¬ brings → w = u) →
      let short := ∃ rate, u.rate i = some rate ∧
        e.grant - e.spent < rate * max (lastDuration e.copy.envelope.breakpoints - t) 100 / 1000000
      (¬ short → exec (.injectionFrame .passedOn) s = .next (emitted w e)) ∧
      (short → e.ladderStep < 2 → exec (.injectionFrame .passedOn) s = .next (emitted w down)) ∧
      (short → 2 ≤ e.ladderStep → exec (.injectionFrame .passedOn) s =
        .next ((w.setEntry i (some down)).bypass i .exhausted false)))

/-- R41, R92, R94, R114, R121 to R124: an accepted frame's stage 1 goes over the stacks in turn, and a frame whose bus has no
INJECTING open event after it does nothing else. A stack bound to the frame's bus that last reported INJECTING is metered: the
increment, 0 with no reference in effect, goes to the stack's PENDING release, to no account where the release is UNRESOLVED or
no drawing event takes it, or else to the drawing event in INJECTING, BYPASSED or CLOSING, which leaves its wait for a release
entry when its unspent is 0. The rate of a saturated accumulator, the clamp of an overdraw and the order of the stacks are the model's
(log entries 21, 24 and 36), as is that a wait ended by metering makes its availability check at once, within stage 1 of R114
(log entry 33). -/
def Obligations.MeteringTaken : Prop :=
  (∀ (s : State) (f : AcceptedFrame) (rest : List AcceptedFrame) (r : BusRow), s.handed.injection = f :: rest →
    s.row f.bus = some r →
    let micros := match f.previous with
      | none => 0
      | some p => min (f.frame.timestamp - p).toNat r.silenceTimeout
    let u : State := { s with handed.injection := rest }
    u.meter f = allStations.foldl (fun w k => State.meterStack f micros w k) u ∧
    ((∀ i e, ((u.meter f).channel f.bus).openEvent = some i → (u.meter f).entry i = some e → e.state ≠ .injecting) →
      exec (.injectionFrame .passedOn) s = .next (u.meter f))) ∧
  (∀ (s : State) (f : AcceptedFrame) (micros : Nat) (k : Station),
    ((s.record k).boundBus ≠ some f.bus ∨ (s.view k).reported ≠ .injecting ∨ (s.view k).unresponsive = true →
      State.meterStack f micros s k = s) ∧
    ((s.record k).boundBus = some f.bus → (s.view k).reported = .injecting → (s.view k).unresponsive = false →
      let increment := match (s.record k).inEffect with
        | none => 0
        | some r => (r.volts.a.magnitude * r.nominal * f.frame.amps.a + r.volts.b.magnitude * r.nominal * f.frame.amps.b
          + r.volts.c.magnitude * r.nominal * f.frame.amps.c) * micros
      let sum (accumulator : Nat) := min (accumulator + increment) 18446744073709551615
      (∀ q x, s.releaseOf k = some q → s.release q = some x →
        (x.state = .unresolved → State.meterStack f micros s k = s) ∧
        (x.state = .pending →
          let joules := sum x.accumulator / 1000000000 - x.accumulator / 1000000000
          let taken := min joules x.amount
          State.meterStack f micros s k = { s.setRelease q (some { x with
            accumulator := sum x.accumulator
            amount := x.amount - taken
            overdraw := min (x.overdraw + (joules - taken)) 4294967295 }) with
            pool.drawn := s.pool.drawn + taken })) ∧
      (s.releaseOf k = none →
        ((s.record k).drawingEvent = none → State.meterStack f micros s k = s) ∧
        (∀ i, (s.record k).drawingEvent = some i →
          (s.entry i = none → State.meterStack f micros s k = s) ∧
          (∀ e, s.entry i = some e →
            (e.state = .requesting ∨ e.state = .held ∨ e.state = .reporting → State.meterStack f micros s k = s) ∧
            (e.state = .injecting ∨ e.state = .bypassed ∨ e.state = .closing →
              let spent := min (sum e.accumulator / 1000000000) e.grant
              let drawn : Event := { e with
                accumulator := sum e.accumulator
                spent := spent
                overdraw := min (sum e.accumulator / 1000000000 - e.grant) 4294967295
                lastFrame := f.frame.timestamp
                marks := if 18446744073709551615 ≤ e.accumulator + increment then { e.marks with sat := true }
                  else e.marks }
              let metered (x : Event) : State := { s.setEntry i (some x) with
                pool.drawn := s.pool.drawn + (spent - e.spent)
                injection.rates := if 0 < micros then s.injection.rates.set i (some (increment / micros))
                  else s.injection.rates }
              let ended := metered { drawn with releaseWait := none }
              (e.releaseWait = none ∨ spent < e.grant → State.meterStack f micros s k = metered drawn) ∧
              (e.releaseWait.isSome → spent = e.grant → State.meterStack f micros s k =
                (if e.state = .closing then ended.enterReporting i else ended).availabilityCheck e.copy.stack)))))))

/-- R6: a unit that takes the frame at the head of Bus Watch's frames ahead of Bus Watch does to it what it does to a frame
passed on, and the frame is marked so that it is not passed on to the unit again (log entry 3). -/
def Obligations.FrameTakenAhead : Prop :=
  ∀ (s : State) (x : HandedSense) (rest : List HandedSense) (b : Bus) (r : BusRow), s.Accepts x rest b r →
    let f := s.frameOf b r x
    (x.taken.injection = false → (∀ g ∈ s.handed.injection, g.bus ≠ b) →
      exec (.injectionFrame .ahead) s = exec (.injectionFrame .passedOn) { s with
        handed.sense := { x with taken.injection := true } :: rest
        handed.injection := f :: s.handed.injection }) ∧
    (x.taken.envelope = false → (∀ g ∈ s.handed.envelope, g.bus ≠ b) →
      exec (.envelopeJudge .ahead) s = exec (.envelopeJudge .passedOn) { s with
        handed.sense := { x with taken.envelope := true } :: rest
        handed.envelope := f :: s.handed.envelope }) ∧
    (x.taken.capture = false → (∀ g ∈ s.handed.capture, g.bus ≠ b) →
      exec (.captureFrame .ahead) s = exec (.captureFrame .passedOn) { s with
        handed.sense := { x with taken.capture := true } :: rest
        handed.capture := f :: s.handed.capture })

/-! ## Waveform capture -/

/-- R151 to R154: an accepted frame of the bus that one channel alone is attached to, RUNNING and past its start frame,
is written as a SAMPLE record at the channel's current address and nowhere else; the address advances within its page; the
half and the end of the pass are reported. Every channel attached to the bus takes the frame, in rising number (the model's
order, log entry 35); the start frame is not written again, and a channel that does not run writes nothing. A write, of whatever
kind and count, makes the half test and then the end test; with a count of 0 both reports follow from the one record. The frames
of a bus that wait for the unit are caught up with as frames passed on (log entry 30). -/
def Obligations.CaptureFrameWritten : Prop :=
  (∀ (s : State) (f : AcceptedFrame) (rest : List AcceptedFrame) (b : Bus),
    (s.handed.capture = f :: rest →
      exec (.captureFrame .passedOn) s = .next (State.captureTakes { s with handed.capture := rest } f)) ∧
    s.captureTakes f = allRecorders.foldl (fun w k => w.sampleOn f k) s ∧
    s.captureCaughtUp b = (s.handed.capture.filter fun g => decide (g.bus = b)).foldl State.captureTakes
      { s with handed.capture := s.handed.capture.filter fun g => decide (g.bus ≠ b) }) ∧
  (∀ (s : State) (f : AcceptedFrame) (k : CaptureIx),
    let c := s.recorder k
    let w := s.writeRecord k .sample f
    (c.bus ≠ some f.bus → s.sampleOn f k = s) ∧
    (c.bus = some f.bus → c.state ≠ .running ∨ c.startFrame = some f.sequence →
      s.sampleOn f k = s.setRecorder k { c with startFrame := none }) ∧
    (c.bus = some f.bus → c.state = .running → c.startFrame ≠ some f.sequence →
      s.sampleOn f k = w.setRecorder k { w.recorder k with startFrame := none })) ∧
  (∀ (s : State) (k : CaptureIx) (kind : RecordKind) (f : AcceptedFrame),
    let c := s.recorder k
    let next := if (c.current + 1) % 4096 = 0 then c.current / 4096 * 4096 else c.current + 1
    let record : CaptureRecord := ⟨kind, (c.event.map (·.val)).getD 0, f.head.address, f.sequence, f.frame⟩
    let written : CaptureChannel := { c with current := next, written := c.written + 1 }
    let notice : CaptureNotice := ⟨k, c.event, c.bus, c.base, c.count, c.passCount, c.current, c.written + 1⟩
    let stored : State := { s with capture.memory := s.capture.memory.write c.current record }
    let told := if c.halfNotified = false ∧ (c.count + 2) / 2 ≤ c.written + 1 then
        (stored.setRecorder k { written with halfNotified := true }).report (.captureHalf notice)
      else stored.setRecorder k written
    let d := told.recorder k
    (c.written < c.count → s.writeRecord k kind f = told) ∧
    (c.count ≤ c.written → c.mode = .continuous → d.status = .opened → s.writeRecord k kind f =
      (told.setRecorder k { d with
        current := c.base
        written := 0
        halfNotified := false
        passCount := c.passCount + 1 }).report (.captureEnd notice .running)) ∧
    (c.count ≤ c.written → c.mode = .single ∨ d.status ≠ .opened → s.writeRecord k kind f =
      (told.setRecorder k { d with state := .done }).report (.captureEnd notice .done))) ∧
  ∀ (s : State) (f : AcceptedFrame) (rest : List AcceptedFrame) (k : CaptureIx) (event : EventIx),
    CaptureSound s → s.handed.capture = f :: rest → (s.recorder k).state = .running → (s.recorder k).bus = some f.bus →
    (s.recorder k).event = some event → (s.recorder k).startFrame ≠ some f.sequence →
    (∀ j, j ≠ k → (s.recorder j).bus ≠ some f.bus) →
    let c := s.recorder k
    let next := if (c.current + 1) % 4096 = 0 then c.current / 4096 * 4096 else c.current + 1
    let notice : CaptureNotice :=
      ⟨k, some event, some f.bus, c.base, c.count, c.passCount, c.current, c.written + 1⟩
    let half := c.halfNotified = false ∧ (c.count + 2) / 2 ≤ c.written + 1
    let full := c.written = c.count
    ∃ t, exec (.captureFrame .passedOn) s = .next t ∧ t.handed.capture = rest ∧
      Memory.read t.capture.memory c.current = ⟨.sample, event.val, f.head.address, f.sequence, f.frame⟩ ∧
      (∀ a, a ≠ c.current → Memory.read t.capture.memory a = Memory.read s.capture.memory a) ∧
      (∀ j, j ≠ k → (t.recorder j).state = (s.recorder j).state ∧ (t.recorder j).current = (s.recorder j).current) ∧
      (¬ half → ¬ full → t.ring = s.ring ∧
        t.recorder k = { c with current := next, written := c.written + 1, startFrame := none }) ∧
      (half → ¬ full → (t.recorder k).halfNotified = true ∧ (t.recorder k).state = .running ∧
        (s.ring.reports.length < 32 → s.ring.port ≠ none →
          t.ring.reports = s.ring.reports ++ [⟨s.management.reportCounter, .captureHalf notice⟩])) ∧
      (full → c.mode = .single → (t.recorder k).state = .done ∧ (t.recorder k).current = next ∧
        (¬ half → s.ring.reports.length < 32 → s.ring.port ≠ none →
          t.ring.reports = s.ring.reports ++ [⟨s.management.reportCounter, .captureEnd notice .done⟩])) ∧
      (full → c.mode = .continuous → c.status = .opened → c.halfNotified = true → s.ring.port ≠ none →
        t.recorder k = { c with
          current := c.base, written := 0, halfNotified := false, passCount := c.passCount + 1, startFrame := none }) ∧
      (full → c.mode = .continuous → c.status ≠ .opened → (t.recorder k).state = .done)

/-! ## The Energy Allocator -/

/-- R73, R74, R83: a TOPUP request is taken when its event is INJECTING with no request pending, and discarded otherwise; a
request that enters stands behind every request of its class and before every one of a higher class. That a request is known
by its event's open order is the model's (log entry 6), as is the mark of the pass that is due (log entries 5 and 27). -/
def Obligations.TopupRequestTaken : Prop :=
  (∀ (s : State) (x : BroughtTopup) (rest : List BroughtTopup), s.handed.topups = x :: rest →
      let u : State := { s with handed.topups := rest }
      (s.entry x.event = none → exec .topupRequest s = .next u) ∧
      (∀ e, s.entry x.event = some e →
        (e.state = .injecting → s.requestOf x.event = none → e.openOrder = x.openOrder →
          exec .topupRequest s = .next { u with
            pool.passDue := true
            pool.grantQueue := insertByKey (·.cls) ⟨x.event, .topup, e.firstAmount, e.copy.cls, s.now,
              s.now + e.copy.envelope.waitLimit * 1000⟩ s.pool.grantQueue }) ∧
        (e.state ≠ .injecting ∨ s.requestOf x.event ≠ none ∨ e.openOrder ≠ x.openOrder →
          exec .topupRequest s = .next u))) ∧
  (∀ (q : GrantRequest) (before after : List GrantRequest), (∀ r ∈ before, r.cls ≤ q.cls) → (∀ r ∈ after, q.cls < r.cls) →
      insertByKey (·.cls) q (before ++ after) = before ++ q :: after)

/-- R70, R75, R81: no pass is made outside LIVE; in LIVE a head request that Free does not cover, that nothing can be borrowed or
displaced for, and for which Free is below the minimum grant, ends the pass and every request waits. R80, R81: where the unspent
of every candidate would not reach the minimum grant, none is displaced; where the first candidate's does, the least critical and
among those the newest, and no other is wanted, it goes to BYPASSED with DISPLACED, BYPASS is queued for its stack, its unspent
becomes a release on the lowest free entry, and the request is then served with what that release lends. R80: the candidates are the
INJECTING events of a higher class with unspent, the least critical and among those the newest first; the walk takes them in turn,
passing over none, until Free, the borrowable energy and their unspent reach the amount, or free Release Map entries or the
requester's free claim slots run out. R81: where that sum reaches the minimum grant every victim is displaced in the order chosen and
the request is served with what may then be borrowed; otherwise none is. That SERVICE_PASS waits for a pass marked due is the model's
(log entries 5 and 27), as are the entries set aside, in rising index (log entry 32). -/
def Obligations.HeadRequestWaits : Prop :=
  (∀ (s : State) (cls : Nat) (i : EventIx),
    (i ∈ s.candidates cls ↔ ∃ e, s.entry i = some e ∧ e.state = .injecting ∧ cls < e.copy.cls ∧ e.spent < e.grant) ∧
    (s.candidates cls).Nodup ∧
    ((∀ j y, s.entry j = some y → y.copy.cls ≤ 3) → (s.candidates cls).Pairwise fun i j => ∀ e y, s.entry i = some e →
      s.entry j = some y → y.copy.cls < e.copy.cls ∨ y.copy.cls = e.copy.cls ∧
        orderAge s.events.openCounter e.openOrder ≤ orderAge s.events.openCounter y.openOrder) ∧
    s.slotsLeft i = 4 - (s.claimsOf i).length - ((s.openTo i).filter fun x => decide (∀ c ∈ s.claimsOf i, c.release ≠ x.1)).length) ∧
  (∀ (s : State) (goal sum slots : Nat) (free : List ReleaseIx) (walk : List EventIx),
    (walk = [] ∨ goal ≤ sum ∨ slots = 0 ∨ free = [] → s.chooseVictims goal sum slots free walk = ([], sum)) ∧
    (∀ i others e r more, walk = i :: others → free = r :: more → s.entry i = some e → sum < goal → 0 < slots →
      let next := s.chooseVictims goal (sum + (e.grant - e.spent)) (slots - 1) more others
      s.chooseVictims goal sum slots free walk = ((i, r) :: next.1, next.2))) ∧
  (∀ (s : State) (i : EventIx) (r : ReleaseIx) (e : Event), s.entry i = some e →
    let off : State := { s with
      pool.grantQueue := s.pool.grantQueue.filter fun q => decide (q.event ≠ i)
      pool.passDue := s.pool.passDue || decide (s.pool.grantQueue.head?.map GrantRequest.event = some i) }
    s.displaceVictim (i, r) = ((off.setEntry i (some { e with
      state := .bypassed
      outcome := some (e.outcome.getD .displaced)
      ladderStep := 3
      held := ⟨false, false, false⟩
      stackOrder := .bypass })).queueCommand e.copy.stack .bypass).newRelease i r) ∧
  (∀ (s : State) (q : GrantRequest) (others : List GrantRequest), s.pool.storeState = .live → s.pool.passDue = true →
    s.pool.grantQueue = q :: others → s.pool.free < q.amount →
    s.pool.free + borrowable (s.openTo q.event) < s.minimumGrant →
    let chosen := s.chooseVictims q.amount (s.pool.free + borrowable (s.openTo q.event)) (s.slotsLeft q.event)
      (allReleases.filter fun r => (s.release r).isNone) (s.candidates q.cls)
    (chosen.2 < s.minimumGrant → exec .servicePass s = .next { s with pool.passDue := false }) ∧
    (s.minimumGrant ≤ chosen.2 → (∀ e, s.entry q.event = some e → e.copy.cls ≤ q.cls) →
      let w := chosen.1.foldl State.displaceVictim { s with pool.passDue := false }
      let lent := w.pool.free + borrowable (w.openTo q.event)
      (others = [] → exec .servicePass s = .next (w.serve q (min q.amount lent))) ∧
      (q.amount ≤ w.pool.free ∨ w.minimumGrant ≤ lent →
        ∃ t, exec .servicePass { w with pool.passDue := true } = .next t ∧
          exec .servicePass s = .next { t with pool.passDue := w.pool.passDue || t.pool.passDue }))) ∧
  (∀ (s : State) (q : GrantRequest), s.pool.storeState = .live → s.pool.passDue = true → s.pool.grantQueue = [q] →
      s.pool.free < q.amount → (∀ r, s.release r = none) →
      (s.pool.free + (allEvents.map fun i => match s.entry i with
          | some e => if e.state = .injecting ∧ q.cls < e.copy.cls then e.grant - e.spent else 0
          | none => 0).sum < s.minimumGrant →
        exec .servicePass s = .next { s with pool.passDue := false }) ∧
      (∀ (g e : Event) (v : EventIx), s.entry q.event = some g → g.claims = [] → s.pool.free < s.minimumGrant →
        s.entry v = some e → v ≠ q.event → e.state = .injecting → q.cls < e.copy.cls → e.copy.cls ≤ 3 → e.spent < e.grant →
        s.minimumGrant ≤ s.pool.free + (e.grant - e.spent) →
        (∀ j y, s.entry j = some y → y.state = .injecting → q.cls < y.copy.cls → y.spent < y.grant → j ≠ v →
          (y.copy.cls < e.copy.cls ∨ y.copy.cls = e.copy.cls ∧
            orderAge s.events.openCounter e.openOrder < orderAge s.events.openCounter y.openOrder) ∧
          q.amount ≤ s.pool.free + (e.grant - e.spent)) →
        e.marks.stackFault = false → (s.view e.copy.stack).tripped = false → (s.view e.copy.stack).unresponsive = false →
        let u := State.queueCommand (State.setEntry { s with pool.passDue := false } v (some { e with
          state := .bypassed
          outcome := some (e.outcome.getD .displaced)
          ladderStep := 3
          held := ⟨false, false, false⟩
          stackOrder := .bypass })) e.copy.stack .bypass
        (u.view e.copy.stack).lastAcknowledged ≠ some ((u.view e.copy.stack).nextSequence - 1) →
        let w := u.newRelease v 0
        exec .servicePass s = exec .servicePass { w with pool.passDue := true })) ∧
  (∀ s : State,
      (s.pool.storeState ≠ .live ∨ s.pool.passDue = false → exec .servicePass s = .next s) ∧
      (s.pool.storeState = .live → s.pool.passDue = true → s.pool.grantQueue = [] →
        exec .servicePass s = .next { s with pool.passDue := false })) ∧
  (∀ (s : State) (q : GrantRequest) (rest : List GrantRequest), s.pool.storeState = .live → s.pool.passDue = true →
      s.pool.grantQueue = q :: rest → s.pool.free < q.amount → s.pool.free < s.minimumGrant →
      (∀ r, s.release r = none) → (∀ i e, s.entry i = some e → e.state = .injecting → e.copy.cls ≤ q.cls) →
      exec .servicePass s = .next { s with pool.passDue := false })

/-- R75 steps 1 and 2, R76, R78: a pass over one request that Free covers serves it with its whole amount, and one that Free
does not cover, where Free reaches the minimum grant and nothing can be borrowed, with what Free holds, all firm. An available
stack takes the event of a FIRST request to INJECTING with INJECT queued; a stack that is not available leaves it HELD with the
reason STACK; the event of a TOPUP request keeps its state. A pass serves its head, by either step, as if it stood alone, and goes
on with the requests behind it. -/
def Obligations.FirstRequestServed : Prop :=
  (∀ (s : State) (q : GrantRequest) (rest : List GrantRequest) (e : Event), s.pool.storeState = .live →
    s.pool.passDue = true → s.pool.grantQueue = q :: rest → (∀ p ∈ rest, p.event ≠ q.event) →
    s.entry q.event = some e →
    q.amount ≤ s.pool.free ∨ s.minimumGrant ≤ s.pool.free + borrowable (s.openTo q.event) →
    ∃ w : State, exec .servicePass { s with pool.grantQueue := [q] } = .next w ∧ w.pool.grantQueue = [] ∧
      exec .servicePass s = exec .servicePass { w with pool.grantQueue := rest, pool.passDue := true }) ∧
  ∀ (s : State) (q : GrantRequest) (e : Event), s.pool.storeState = .live → s.pool.passDue = true →
    s.pool.grantQueue = [q] → s.entry q.event = some e →
    let firm := min q.amount s.pool.free
    0 < firm →
    q.amount ≤ s.pool.free ∨ s.minimumGrant ≤ s.pool.free ∧ (∀ r y, s.release r = some y → y.state = .unresolved) →
    let grant := e.grant + firm
    let spent := min (e.accumulator / 1000000000) grant
    let granted : Event := { e with
      grant := grant
      spent := spent
      overdraw := min (e.accumulator / 1000000000 - grant) 4294967295 }
    let u : State := { s with
      pool.passDue := false
      pool.grantQueue := []
      pool.free := s.pool.free - firm
      pool.drawn := s.pool.drawn + (spent - e.spent) }
    let available := (s.view e.copy.stack).tripped = false ∧ (s.view e.copy.stack).unresponsive = false ∧
      (∀ r y, s.release r = some y → y.stack ≠ e.copy.stack) ∧
      (∀ j x, s.entry j = some x → x.releaseWait.isSome → x.copy.stack ≠ e.copy.stack)
    (q.kind = .topup → exec .servicePass s = .next (u.setEntry q.event (some granted))) ∧
    (q.kind = .first → available → exec .servicePass s = .next (((u.setEntry q.event (some { granted with
        state := .injecting
        stackOrder := .inject
        held := ⟨false, false, false⟩
        deepestStep := some (e.deepestStep.getD e.ladderStep) })).setRecord e.copy.stack
          { s.record e.copy.stack with boundBus := some e.bus, drawingEvent := some q.event }).queueCommand e.copy.stack
            (.inject q.event))) ∧
    (q.kind = .first → ¬ available → exec .servicePass s = .next (u.setEntry q.event (some { granted with
        state := .held
        held := ⟨false, true, false⟩ })))

/-- R77, R76, R78: a FIRST request of an event with no claims, with Free at 0, is served by borrowing from the one PENDING
release that can lend the minimum grant: it becomes HELD with the reason BORROW, and both lists hold the claim. A request of
either kind that Free does not cover takes all of Free and borrows the rest from the PENDING releases, oldest first, as much from
each as is available; a claim already there grows in its place. -/
def Obligations.FirstRequestBorrows : Prop :=
  (∀ (s : State) (q : GrantRequest) (e : Event) (r p : ReleaseIx) (x y : Release), s.pool.storeState = .live →
    s.pool.passDue = true → s.pool.grantQueue = [q] → s.entry q.event = some e → e.claims = [] →
    s.pool.free < q.amount → s.release r = some x → s.release p = some y → r ≠ p → x.state = .pending →
    y.state = .pending → (∀ n z, s.release n = some z → n ≠ r → n ≠ p → z.state = .unresolved) →
    orderAge s.pool.creationCounter y.creationOrder < orderAge s.pool.creationCounter x.creationOrder →
    x.claims.length < 4 → y.claims.length < 4 → (∀ c ∈ x.claims, c.event ≠ q.event) → (∀ c ∈ y.claims, c.event ≠ q.event) →
    let older := x.amount - (x.claims.map (·.amount)).sum
    let newer := y.amount - (y.claims.map (·.amount)).sum
    0 < older → 0 < newer → s.minimumGrant ≤ s.pool.free + (older + newer) →
    let borrowed := min q.amount (s.pool.free + (older + newer)) - s.pool.free
    let first := min borrowed older
    let second := borrowed - first
    ∃ t e', exec .servicePass s = .next t ∧ t.entry q.event = some e' ∧ e'.grant = e.grant + s.pool.free ∧
      e'.claims = ⟨r, first⟩ :: (if 0 < second then [⟨p, second⟩] else []) ∧
      t.release r = some { x with claims := x.claims ++ [⟨q.event, first⟩] } ∧
      t.release p = some { y with claims := y.claims ++ (if 0 < second then [⟨q.event, second⟩] else []) } ∧
      t.pool.free = 0 ∧ t.pool.grantQueue = [] ∧ (q.kind = .topup → e'.state = e.state) ∧
      (q.kind = .first → s.pool.free = 0 → e'.state = .held ∧ e'.held.borrow = true) ∧
      (q.kind = .first → 0 < s.pool.free → e'.state = .injecting ∨ e'.state = .held ∧ e'.held = ⟨false, true, false⟩)) ∧
  (∀ (s : State) (q : GrantRequest) (e : Event) (r : ReleaseIx) (x : Release) (n : Nat) (before after : List ReleaseClaim),
    s.pool.storeState = .live → s.pool.passDue = true → s.pool.grantQueue = [q] → q.kind = .topup →
    s.entry q.event = some e → e.claims = [⟨r, n⟩] → s.pool.free < q.amount → s.release r = some x → x.state = .pending →
    (∀ p z, s.release p = some z → p ≠ r → z.state = .unresolved) → x.claims = before ++ ⟨q.event, n⟩ :: after →
    (∀ c ∈ before, c.event ≠ q.event) → (∀ c ∈ after, c.event ≠ q.event) →
    let available := x.amount - (x.claims.map (·.amount)).sum
    0 < available → s.minimumGrant ≤ s.pool.free + available →
    let lent := min q.amount (s.pool.free + available) - s.pool.free
    ∃ t e', exec .servicePass s = .next t ∧ t.entry q.event = some e' ∧ e'.grant = e.grant + s.pool.free ∧
      e'.state = e.state ∧ e'.claims = [⟨r, n + lent⟩] ∧
      t.release r = some { x with claims := before ++ ⟨q.event, n + lent⟩ :: after } ∧ t.pool.free = 0) ∧
  ∀ (s : State) (q : GrantRequest) (e : Event) (r : ReleaseIx) (x : Release), s.pool.storeState = .live →
    s.pool.passDue = true → s.pool.grantQueue = [q] → q.kind = .first → s.entry q.event = some e → e.claims = [] →
    s.pool.free = 0 → 0 < q.amount → 0 < s.minimumGrant → s.release r = some x → x.state = .pending →
    (∀ p y, s.release p = some y → p ≠ r → y.state = .unresolved) →
    x.claims.length < 4 → (∀ c ∈ x.claims, c.event ≠ q.event) →
    let available := x.amount - (x.claims.map (·.amount)).sum
    s.minimumGrant ≤ available →
    let lent := min q.amount available
    ∃ t e', exec .servicePass s = .next t ∧ t.entry q.event = some e' ∧ e'.state = .held ∧ e'.held.borrow = true ∧
      e'.held.store = false ∧ e'.grant = e.grant ∧ e'.claims = [⟨r, lent⟩] ∧
      t.release r = some { x with claims := x.claims ++ [⟨q.event, lent⟩] } ∧ t.pool.free = 0 ∧ t.pool.grantQueue = []

/-- R84, R85: the expiry of a FIRST request's wait timer, from its expiry time to 1 µs after it, removes the request and takes its
event to BYPASSED with DENIED; that of a TOPUP request removes the request and marks TOPUP-DENIED; a pass follows where the
request was the head. Before the expiry time only the time base moves. The moments are log entry 1's and the mark of the pass
log entries 5's and 27's. -/
def Obligations.WaitTimersExpire : Prop :=
  (∀ (s : State) (time : Nat) (i : EventIx) (q : GrantRequest) (e : Event), s.InTime time → s.requestOf i = some q →
      q.kind = .first →
      s.entry i = some e → e.state = .requesting → e.grant = 0 → e.spent = 0 → e.stackOrder = .none → e.outcome = none →
      let u : State := { s with now := max s.now time }
      (q.expiry ≤ max s.now time → exec (.firstWaitExpiry time i.val) s = .next ({ u with
          pool.grantQueue := s.pool.grantQueue.filter fun r : GrantRequest => decide (r.event ≠ i)
          pool.passDue := s.pool.passDue || decide (s.pool.grantQueue.head?.map GrantRequest.event = some i) }.setEntry i (some
            { e with
              state := .bypassed
              outcome := some .denied
              ladderStep := 3
              held := ⟨false, false, false⟩ }))) ∧
      (max s.now time < q.expiry → exec (.firstWaitExpiry time i.val) s = .next u)) ∧
  (∀ (s : State) (time : Nat) (i : EventIx) (q : GrantRequest) (e : Event), s.InTime time → s.requestOf i = some q →
      q.kind = .topup →
      s.entry i = some e →
      let u : State := { s with now := max s.now time }
      (q.expiry ≤ max s.now time → exec (.topupWaitExpiry time i.val) s = .next ({ u with
          pool.grantQueue := s.pool.grantQueue.filter fun r : GrantRequest => decide (r.event ≠ i)
          pool.passDue := s.pool.passDue || decide (s.pool.grantQueue.head?.map GrantRequest.event = some i) }.setEntry i (some
            { e with marks := { e.marks with topupDenied := true } }))) ∧
      (max s.now time < q.expiry → exec (.topupWaitExpiry time i.val) s = .next u))

/-- R102, R136, R163: a STORE frame that matches no configured store head and a STACK-STATUS frame from an address the channel
does not take are stray, and a STORE frame older than the baseline is stale; each changes its counter alone. A bus's row is the
one in its own bank-in-use (the model's reading, log entry 19). -/
def Obligations.StrayFramesCounted : Prop :=
  (∀ (s : State) (x : HandedStore) (rest : List HandedStore), s.handed.store = x :: rest →
      let u : State := { s with handed.store := rest }
      ((∀ p, s.activeBank.store = some p → p.head.address ≠ x.source) → exec .storeFrame s =
        .next { u with ring.counters.stray := s.ring.counters.stray + 1 }) ∧
      (∀ p base, s.activeBank.store = some p → p.head.address = x.source → s.pool.storeBaseline = some base →
        2147483648 < (x.timestamp - base).toNat →
        exec .storeFrame s = .next { u with pool.staleStore := s.pool.staleStore + 1 })) ∧
  (∀ (s : State) (x : HandedStatus) (rest : List HandedStatus) (turn : NoticeTurn), s.handed.status = x :: rest →
      (∀ k : Station, k.address = x.source → (∀ b r, s.row b = some r → r.stack ≠ k) ∧ (s.view k).outstanding = [] ∧
        (s.view k).unsent = none ∧ (∀ q y, s.release q = some y → y.stack ≠ k)) →
      exec (.stackStatus turn) s =
        .next { s with handed.status := rest, ring.counters.stray := s.ring.counters.stray + 1 })

/-- R66, R69, R101 to R107: an accepted STORE frame leads to a store confirmation: the parameters come into effect, B is
computed from the voltage, D is 0, every UNRESOLVED release is gone with the claims on it, the store is LIVE with its one-shot
started, and a pass is due. Where B covers what is committed, Free is the rest. R104, R105, R110: where it does not, Free is 0
and the shortfall is cut from the events, the least critical and among those the newest first, and then from the releases; an
INJECTING event, or a HELD one without claims, cut to 0 goes to BYPASSED with CUT, a HELD one with claims stays HELD for BORROW, an
event waiting for a release entry leaves its wait, a CLOSING one for REPORTING, and an event cut short keeps its state with less;
and SHORTFALL is reported. R35, R70, R109: entering LIVE frees every HELD
event of STORE, those with no reason left leave HELD, and the change is reported. R98, R101: what follows for the borrowers, the
stack and the freed entry of a dissolved release. That the pass is marked due is the model's (log entries 5 and 27), the clamp of
the voltage sent is log entry 22, the order of the consequences log entry 14, the order in which HELD events are freed log
entry 31, and the order of the borrowers of a dissolved release log entry 37. -/
def Obligations.StoreConfirmed : Prop :=
  ∀ (s : State) (x : HandedStore) (rest : List HandedStore) (p : StoreParameters), s.handed.store = x :: rest →
    s.activeBank.store = some p → p.head.address = x.source →
    (∀ base, s.pool.storeBaseline = some base → (x.timestamp - base).toNat ≤ 2147483648) →
    let v := min x.voltage 16000
    let budget := min ((if v ≤ p.floorVoltage then 0
      else p.capacitance * (v * v - p.floorVoltage * p.floorVoltage) / 2000) - p.reserve) 4294967295
    (∃ t, exec .storeFrame s = .next t ∧ t.pool.budget = budget ∧ t.pool.inEffect = some p ∧
      t.pool.storeState = .live ∧ t.pool.storeSilence = some (s.now + p.silenceTimeout) ∧
      t.pool.storeBaseline = some x.timestamp ∧ t.pool.charger = some x.charger ∧
      (t.pool.chargerFault = true ↔ s.pool.chargerFault = true ∨ x.charger = .fault) ∧ t.pool.passDue = true ∧
      t.pool.drawn = 0 ∧
      ((∀ i e, s.entry i = some e → e.releaseWait = none) → ∀ r y, s.release r = some y → y.state = .unresolved →
        t.release r = none ∧
          ∀ c ∈ y.claims, ∀ e, t.entry c.event = some e → ∀ d ∈ e.claims, d.release ≠ r)) ∧
    (s.pool.storeState = .live → (∀ r y, s.release r = some y → y.state = .pending) →
      s.unspentSum + s.releaseSum ≤ budget →
      exec .storeFrame s = .next { s with
        handed.store := rest
        pool.storeBaseline := some x.timestamp
        pool.charger := some x.charger
        pool.chargerFault := s.pool.chargerFault || decide (x.charger = .fault)
        pool.inEffect := some p
        pool.budget := budget
        pool.drawn := 0
        pool.free := budget - (s.unspentSum + s.releaseSum)
        pool.storeSilence := some (s.now + p.silenceTimeout)
        pool.passDue := true }) ∧
    (s.pool.storeState ≠ .live → (∀ r y, s.release r = some y → y.state = .pending) →
      s.unspentSum + s.releaseSum ≤ budget →
      let u : State := { s with
        handed.store := rest
        pool.storeState := .live
        pool.storeBaseline := some x.timestamp
        pool.charger := some x.charger
        pool.chargerFault := s.pool.chargerFault || decide (x.charger = .fault)
        pool.inEffect := some p
        pool.budget := budget
        pool.drawn := 0
        pool.free := budget - (s.unspentSum + s.releaseSum)
        pool.storeSilence := some (s.now + p.silenceTimeout) }
      let freed := allEvents.foldl (fun w i => match w.entry i with
        | some e =>
          if e.state = .held then (w.setEntry i (some { e with held := { e.held with store := false } })).leaveHeld i else w
        | none => w) u
      let told := freed.report (.storeState s.pool.storeState .live .frame budget (some (x.timestamp, v)))
      exec .storeFrame s = .next { told with pool.passDue := true }) ∧
    (∀ r y, s.pool.storeState = .live → s.release r = some y → y.state = .unresolved →
      (∀ n z, s.release n = some z → n ≠ r → z.state = .pending) →
      s.unspentSum + (s.releaseSum - y.amount) ≤ budget →
      let u : State := { s with
        handed.store := rest
        pool.storeBaseline := some x.timestamp
        pool.charger := some x.charger
        pool.chargerFault := s.pool.chargerFault || decide (x.charger = .fault)
        pool.inEffect := some p
        pool.budget := budget
        pool.drawn := 0
        pool.free := budget - (s.unspentSum + (s.releaseSum - y.amount))
        pool.storeSilence := some (s.now + p.silenceTimeout)
        pool.passDue := true }
      let dissolved := (y.claims.foldl (fun w c => w.modEvent c.event fun e =>
        { e with claims := e.claims.filter fun d => decide (d.release ≠ r) }) u).setRelease r none
      let settled := y.claims.foldl (fun w c => w.settleBorrower c.event) dissolved
      exec .storeFrame s = .next { (settled.availabilityCheck y.stack).offerEntries with pool.passDue := true }) ∧
    (s.pool.storeState = .live → EnergySound s → (∀ r y, s.release r = some y → y.state = .pending) →
      (∀ i e, s.entry i = some e → e.copy.cls ≤ 3) → budget < s.unspentSum + s.releaseSum →
      let shortfall := s.unspentSum + s.releaseSum - budget
      ∃ (t : State) (cut : EventIx → Nat), exec .storeFrame s = .next t ∧ t.pool.free = 0 ∧
        t.unspentSum + t.releaseSum = budget ∧ (0 < t.unspentSum → t.releaseSum = s.releaseSum) ∧
        (allEvents.map cut).sum = min shortfall s.unspentSum ∧
        let zero (i : EventIx) (e : Event) : Prop := 0 < cut i ∧ cut i = e.grant - e.spent
        (∀ i, s.entry i = none → cut i = 0) ∧
        (∀ i e, s.entry i = some e →
          let less : Event := { e with grant := e.grant - cut i }
          let freed := ∃ j y, s.entry j = some y ∧ y.copy.stack = e.copy.stack ∧ y.releaseWait.isSome ∧ zero j y
          cut i ≤ e.grant - e.spent ∧
          (0 < cut i → ∀ j y, s.entry j = some y → (e.copy.cls < y.copy.cls ∨ e.copy.cls = y.copy.cls ∧
            orderAge s.events.openCounter y.openOrder < orderAge s.events.openCounter e.openOrder) →
            cut j = y.grant - y.spent) ∧
          (¬ zero i e → e.state ≠ .held → e.state ≠ .reporting ∨ s.ring.port ≠ none → t.entry i = some less) ∧
          (¬ zero i e → e.state = .held → (¬ freed → t.entry i = some less) ∧
            (freed → ∃ e', t.entry i = some e' ∧ e'.grant = less.grant ∧ e'.spent = e.spent ∧
              (e.held.borrow = true ∨ e.held.stack = false ∨ e.held.store = true → e'.state = .held))) ∧
          (zero i e → e.state = .injecting ∨ e.state = .held ∧ e.claims = [] →
            t.requestOf i = none ∧ t.entry i = some { less with
              state := .bypassed
              outcome := some (e.outcome.getD .cut)
              ladderStep := 3
              held := ⟨false, false, false⟩
              stackOrder := match e.stackOrder with
                | .inject => .bypass
                | order => order
              releaseWait := none } ∧
            (e.stackOrder = .inject → s.ring.port ≠ none → (∀ j y, s.entry j = some y → y.copy.stack = e.copy.stack → j = i) →
              (t.view e.copy.stack).unsent = some ⟨match (s.view e.copy.stack).unsent with
                | some c => c.sequence
                | none => (s.view e.copy.stack).nextSequence, .bypass⟩)) ∧
          (zero i e → e.state = .held → e.claims ≠ [] → ∃ stack,
            t.entry i = some { less with held := ⟨true, stack, e.held.store⟩, releaseWait := none } ∧
            (stack = true → e.held.stack = true) ∧ (¬ freed → stack = e.held.stack)) ∧
          (zero i e → e.state = .requesting ∨ e.state = .bypassed ∨ e.state = .closing ∧ e.releaseWait = none →
            t.entry i = some { less with releaseWait := none }) ∧
          (zero i e → e.state = .closing → e.releaseWait.isSome →
            let reporting : Event := { less with releaseWait := none, state := .reporting }
            t.entry i = some reporting ∧ 32 ≤ t.ring.reports.length ∨
              t.entry i = none ∧ (s.ring.port ≠ none → ∃ n, ⟨n, .eventClosed i reporting⟩ ∈ t.ring.reports))) ∧
        (∀ r y, s.release r = some y → ∃ y', t.release r = some y' ∧ y'.amount ≤ y.amount ∧ y'.claims = y.claims ∧
          y'.state = y.state ∧ (y'.amount < y.amount → ∀ q z z', s.release q = some z → t.release q = some z' →
            (s.ownerClass y < s.ownerClass z ∨ s.ownerClass y = s.ownerClass z ∧
              orderAge s.pool.creationCounter z.creationOrder < orderAge s.pool.creationCounter y.creationOrder) →
            z'.amount = 0)) ∧
        (s.ring.port ≠ none → s.ring.reports.length < 32 → ∃ closed, t.ring.reports = s.ring.reports ++
            ⟨s.management.reportCounter, .shortfall x.timestamp v budget shortfall
              (s.unspentSum - t.unspentSum) (s.releaseSum - t.releaseSum)
              (allEvents.filter fun i => decide (0 < cut i)).length
              (allEvents.filter fun i => match s.entry i with
                | some e => decide (0 < cut i ∧ cut i = e.grant - e.spent ∧
                    (e.state = .injecting ∨ e.state = .held ∧ e.claims = []))
                | none => false).length
              (allReleases.filter fun r => decide ((t.release r).map (·.amount) ≠ (s.release r).map (·.amount))).length⟩
              :: closed ∧
          (∀ y ∈ closed, ∃ n i e, y = ⟨n, .eventClosed i e⟩) ∧
          ((∀ i e, s.entry i = some e → e.state = .closing → e.releaseWait = none) → closed = [])))

/-- R70, R107, R109: the expiry of the store silence one-shot takes the store to SILENT with no baseline, holds every HELD
event for STORE, and reports; before its expiry time only the time base moves. The moments are log entry 1's. -/
def Obligations.StoreSilenceTaken : Prop :=
  ∀ (s : State) (time : Nat), s.InTime time →
    let u : State := { s with now := max s.now time }
    (∀ expiry, s.pool.storeSilence = some expiry → expiry ≤ max s.now time →
      ∃ w : State, exec (.storeSilenceExpiry time) s =
        .next (w.report (.storeState s.pool.storeState .silent .expiry s.pool.budget none)) ∧
      (∀ i, w.entry i = (s.entry i).map fun e =>
        if e.state = .held then { e with held := { e.held with store := true } } else e) ∧
      w = { u with
        events.entries := w.events.entries
        pool.storeState := .silent
        pool.storeSilence := none
        pool.storeBaseline := none }) ∧
    ((∀ expiry, s.pool.storeSilence = some expiry → max s.now time < expiry) →
      exec (.storeSilenceExpiry time) s = .next u)

/-! ## The Stack Command Channel -/

/-- R91, R133, R134, R169: a command asked for a stack takes the unsent command's number, or the next; it is placed while fewer
than three are outstanding, and the stack's release awaits it; a part goes into the stack's unsent frame, which keeps its
place, or into a new frame at the tail of the DRIVE queue. -/
def Obligations.CommandQueued : Prop :=
  (∀ (s : State) (k : Station) (kind : CommandKind),
      let v := s.view k
      let q := match v.unsent with
        | some c => c.sequence
        | none => v.nextSequence
      let v' : StackView := { v with
        unsent := some ⟨q, kind⟩
        nextSequence := match v.unsent with
          | some _ => v.nextSequence
          | none => v.nextSequence + 1 }
      ∃ u : State, u = { s.setView k v' with pool.releases := u.pool.releases } ∧
        (∀ r, u.release r = (s.release r).map fun x => if x.stack = k then { x with awaited := q } else x) ∧
        (v.outstanding.length < 3 → s.queueCommand k kind = u.placeCommand k ⟨q, kind⟩) ∧
        (3 ≤ v.outstanding.length → s.queueCommand k kind = u)) ∧
  (∀ (s : State) (k : Station) (r : ReferencePart) (c : Command),
      ((∀ f ∈ s.ring.drive, f.stack ≠ k) →
        s.placeReference k r = { s with ring.drive := s.ring.drive ++ [DriveFrame.mk k (some r) none] }.kick ∧
        s.placeCommand k c = { s with ring.drive := s.ring.drive ++ [DriveFrame.mk k none (some c)] }.kick) ∧
      (∀ before f after, s.ring.drive = before ++ f :: after → f.stack = k → (∀ g ∈ before, g.stack ≠ k) →
        s.placeReference k r = { s with
          ring.drive := before ++ { f with reference := some r } :: after }.kick ∧
        s.placeCommand k c = { s with
          ring.drive := before ++ { f with command := some c } :: after }.kick))

/-- R136, R142: a STACK-STATUS frame from a stack named by a row in use that reports INJECTING, or reports STANDBY or BYPASSED with
no fault to end: the SENT command of its sequence and every command before it are acknowledged, a held command is placed, the view
takes the frame's fields, the Allocator gets notice, and RELEASE is queued where the stack reports BYPASSED with no command live
and no open event on its bus. R91: the Allocator takes the notice after that test, or, where the turn says so and no notice waits
before it, ahead of it; the test is then made on what the notice leaves (the turns are log entry 4). -/
def Obligations.StatusFrameTaken : Prop :=
  (∀ s : State, (s.handed.notices ≠ [] → exec (.stackStatus .first) s = exec (.stackStatus .later) s) ∧
    (∀ x rest t, s.handed.status = x :: rest → s.handed.notices = [] → x.state ≠ .bypassed →
      exec (.stackStatus .later) s = .next t → exec (.stackStatus .first) s = exec .stackNotice t)) ∧
  ∀ (s : State) (x : HandedStatus) (rest : List HandedStatus) (k : Station) (b : Bus) (r : BusRow),
    s.handed.status = x :: rest → k.address = x.source → s.row b = some r → r.stack = k →
    x.state = .injecting ∨ x.state ≠ .tripped ∧ (s.view k).tripped = false ∧ (s.view k).unresponsive = false →
    (x.state = .bypassed → ∀ b' r', s.row b' = some r' → r'.stack = k → b' = b) →
    let u : State := { s with handed.status := rest }
    let v := s.view k
    let told (w : State) (acknowledged : Option Seq) : State :=
      let w := w.setView k { w.view k with reported := x.state, derate := x.derate, lastReported := some x.sequence }
      { w with handed.notices := w.handed.notices ++ [⟨k, x.state, x.sequence, acknowledged, false⟩] }
    let tidied (w : State) : State :=
      if x.state = .bypassed ∧ (w.view k).outstanding = [] ∧ (w.view k).unsent = none ∧ (s.channel b).openEvent = none then
        w.queueCommand k .release
      else w
    let taken (w : State) (acknowledged : Option Seq) : State := tidied (told w acknowledged)
    let ahead (w : State) (acknowledged : Option Seq) : Prop := s.handed.notices = [] →
      ∃ z, exec .stackNotice (told w acknowledged) = .next z ∧ exec (.stackStatus .first) s = .next (tidied z)
    (v.outstanding.find? (fun o => decide (o.command.sequence = x.sequence ∧ o.standing ≠ .inTransmission)) = none →
      exec (.stackStatus .later) s = .next (taken u v.lastAcknowledged) ∧ ahead u v.lastAcknowledged) ∧
    (∀ before o after timer, v.outstanding = before ++ o :: after → o.command.sequence = x.sequence →
      o.standing = .sent timer → (∀ p ∈ before, p.command.sequence ≠ x.sequence) →
      let w := u.setView k { v with outstanding := after, lastAcknowledged := some x.sequence }
      (v.unsent = none → exec (.stackStatus .later) s = .next (taken w (some x.sequence)) ∧ ahead w (some x.sequence)) ∧
      (∀ c, v.unsent = some c → after.length < 3 →
        ∃ t, exec (.stackStatus .later) s = .next t ∧ (t.view k).reported = x.state ∧
          (t.view k).lastAcknowledged = some x.sequence ∧ (t.view k).lastReported = some x.sequence ∧
          (t.view k).derate = x.derate ∧ t = taken (w.placeCommand k c) (some x.sequence) ∧
          ahead (w.placeCommand k c) (some x.sequence)))

/-- R138, R140, R141: a frame that reports TRIPPED faults its stack: TRIPPED enters the fault set, the outstanding commands stay,
a PENDING release turns UNRESOLVED, a protected event of the stack goes to BYPASSED and every event the fault reaches gains the
STACK-FAULT mark, BYPASS is queued where one of them was ordered INJECT, the bus's alarm is raised and STACK-FAULT reported. A
stack faulted already only enters TRIPPED, with the alarm and the report, or changes nothing more. A frame that reports STANDBY or
BYPASSED from a faulted stack empties the fault set and starts the timers its SENT commands lack; RELEASE may follow (R142), tested before the
Allocator takes the notice or, by the turn, after it (R91, log entry 4). What a fault leaves of a CLOSING event's stack order is the
model's reading (log entry 16), and the event the report names, where there are several, its choice (log entry 37). -/
def Obligations.StackFaultsAndRecovers : Prop :=
  (∀ (s : State) (x : HandedStatus) (rest : List HandedStatus) (k : Station) (b : Bus) (r : BusRow),
    s.handed.status = x :: rest → k.address = x.source → s.row b = some r → r.stack = k →
    (∀ b' r', s.row b' = some r' → r'.stack = k → b' = b) →
    (s.view k).outstanding.find? (fun o => decide (o.command.sequence = x.sequence ∧ o.standing ≠ .inTransmission)) = none →
    let u : State := { s with handed.status := rest }
    let v := s.view k
    let seen : StackView := { v with reported := x.state, derate := x.derate, lastReported := some x.sequence }
    let noticed (w : State) (recovered : Bool) : State :=
      { w with handed.notices := w.handed.notices ++ [⟨k, x.state, x.sequence, v.lastAcknowledged, recovered⟩] }
    (x.state = .tripped → v.tripped = true → exec (.stackStatus .later) s = .next (noticed (u.setView k seen) false)) ∧
    (x.state = .tripped → v.tripped = false → v.unresponsive = true → exec (.stackStatus .later) s = .next (noticed
      (((u.setView k { seen with tripped := true }).addAlarm b .stackFault).report
        (.stackFault k (some b) none 0 none none)) false)) ∧
    (x.state = .tripped → v.tripped = false → v.unresponsive = false → s.ring.port ≠ none → s.ring.reports.length < 32 →
      let guarded (i : EventIx) : Prop := ∃ e, s.entry i = some e ∧ e.copy.stack = k ∧
        (e.state = .requesting ∨ e.state = .held ∨ e.state = .injecting)
      let reached (e : Event) : Prop :=
        e.copy.stack = k ∧ ¬ ((e.state = .closing ∨ e.state = .reporting) ∧ e.stackOrder = .none)
      ∃ t event release, exec (.stackStatus .later) s = .next t ∧ (t.view k).tripped = true ∧
        (t.view k).outstanding = v.outstanding ∧ (t.channel b).alarms.stackFault = true ∧
        t.ring.reports = s.ring.reports ++
          [⟨s.management.reportCounter, .stackFault k (some b) none 0 event release⟩] ∧
        (∀ i, event = some i ↔ guarded i ∧ ∀ j, j < i → ¬ guarded j) ∧
        (∀ q, release = some q ↔ s.releaseOf k = some q ∧ (s.release q).map (·.state) = some .pending) ∧
        ((∃ i e, s.entry i = some e ∧ reached e ∧ e.stackOrder = .inject) → (t.view k).unsent = some ⟨match v.unsent with
          | some c => c.sequence
          | none => v.nextSequence, .bypass⟩) ∧
        ((∀ i e, s.entry i = some e → reached e → e.stackOrder ≠ .inject) → (t.view k).unsent = v.unsent) ∧
        (∀ i e, s.entry i = some e → e.state = .bypassed ∨ e.state = .closing ∨ e.state = .reporting →
          (reached e → t.entry i = some { e with marks := { e.marks with stackFault := true } }) ∧
          (¬ reached e → t.entry i = some e))) ∧
    (x.state = .standby ∨ x.state = .bypassed → v.tripped = true ∨ v.unresponsive = true →
      let w := noticed (u.setView k { seen with
        tripped := false
        unresponsive := false
        outstanding := v.outstanding.map fun o =>
          if o.standing = .sent none then { o with standing := .sent (some (s.now + 4000)) } else o }) true
      let tidied (z : State) : State :=
        if x.state = .bypassed ∧ (z.view k).outstanding = [] ∧ (z.view k).unsent = none ∧ (s.channel b).openEvent = none then
          z.queueCommand k .release
        else z
      exec (.stackStatus .later) s = .next (tidied w) ∧
      (s.handed.notices = [] →
        ∃ z, exec .stackNotice w = .next z ∧ exec (.stackStatus .first) s = .next (tidied z)))) ∧
  ∀ (s : State) (x : HandedStatus) (rest : List HandedStatus) (turn : NoticeTurn) (k : Station) (b : Bus) (r : BusRow),
    s.handed.status = x :: rest → k.address = x.source → s.row b = some r → r.stack = k →
    (x.state = .tripped → turn = .later → (s.view k).tripped = false → (s.view k).unresponsive = false →
      ∃ t, exec (.stackStatus turn) s = .next t ∧ (t.view k).tripped = true ∧ (t.view k).reported = .tripped ∧
        (∀ q y, s.releaseOf k = some q → s.release q = some y → y.state = .pending →
          ∃ y', t.release q = some y' ∧ y'.state = .unresolved ∧ y'.amount = y.amount) ∧
        (∀ i e, s.entry i = some e → e.copy.stack = k →
          (e.state = .requesting ∨ e.state = .held ∨ e.state = .injecting) →
          ∃ e', t.entry i = some e' ∧ e'.state = .bypassed ∧ e'.marks.stackFault = true ∧
            e'.outcome = some (e.outcome.getD .stackFault) ∧ e'.stackOrder ≠ .inject)) ∧
    (x.state = .standby → turn = .later →
      ∃ t, exec (.stackStatus turn) s = .next t ∧ (t.view k).tripped = false ∧ (t.view k).unresponsive = false ∧
        (t.view k).reported = .standby ∧ (∀ i e, t.entry i = some e → s.entry i = some e) ∧
        (∀ q y, s.release q = some y → ∃ y', t.release q = some y' ∧ y'.state = y.state ∧ y'.amount = y.amount))

/-- R96 to R98: the Allocator takes the notice of a status frame. Where it does not confirm the stack's release and the
stack has not left a fault, nothing changes; where it confirms a PENDING release with no claims, with no event waiting for
an entry or held for the stack, the whole amount goes to Free, the entry is freed and a pass is due. R35, R79, R98: a notice of
a fault left leads to the availability check, which frees the HELD events of a stack that is available of STACK; a borrower whose
claims have gone loses BORROW; a HELD event with no reason left enters INJECTING on its grant, or is DENIED without one. R92: a
freed entry goes to the oldest waiting event, whose wait ends. The notice carries what the view held at step 4 of R136 (log entry
6); the pass marked due is log entries 5 and 27; a stack found faulted is log entry 15; the order in which the HELD events of a
stack are freed is log entry 37. -/
def Obligations.StackNoticeTaken : Prop :=
  (∀ (s : State) (i : EventIx) (e : Event), s.entry i = some e →
    let stack := e.copy.stack
    let faulted := (s.view stack).tripped = true ∨ (s.view stack).unresponsive = true
    let off (x : Event) (cause : EventOutcome) : State := { s.setEntry i (some { x with
        state := .bypassed
        outcome := some (e.outcome.getD cause)
        ladderStep := 3
        returned := min (e.returned + (e.grant - e.spent)) 4294967295
        grant := e.spent }) with
      pool.grantQueue := s.pool.grantQueue.filter fun q => decide (q.event ≠ i)
      pool.free := s.pool.free + (e.grant - e.spent)
      pool.passDue := s.pool.passDue || decide (s.pool.grantQueue.head?.map GrantRequest.event = some i)
        || decide (0 < e.grant - e.spent) }
    let available := ¬ faulted ∧ (∀ r y, s.release r = some y → y.stack ≠ stack) ∧
      (∀ j x, s.entry j = some x → x.releaseWait.isSome → x.copy.stack ≠ stack)
    (e.state ≠ .held ∨ e.held ≠ ⟨false, false, false⟩ → s.leaveHeld i = s) ∧
    (e.state = .held → e.held = ⟨false, false, false⟩ →
      (e.grant = 0 → s.leaveHeld i = off e .denied) ∧
      (0 < e.grant → faulted → s.leaveHeld i = off { e with marks := { e.marks with stackFault := true } } .stackFault) ∧
      (0 < e.grant → ¬ faulted → s.leaveHeld i = ((s.setEntry i (some { e with
        state := .injecting
        stackOrder := .inject
        deepestStep := some (e.deepestStep.getD e.ladderStep) })).setRecord stack
          { s.record stack with boundBus := some e.bus, drawingEvent := some i }).queueCommand stack (.inject i))) ∧
    (∀ k, (e.state = .held → e.held.stack = true → stack = k → available →
        State.freeOfStack k s i = (s.setEntry i (some { e with held := { e.held with stack := false } })).leaveHeld i) ∧
      (e.state ≠ .held ∨ e.held.stack = false ∨ stack ≠ k ∨ ¬ available → State.freeOfStack k s i = s)) ∧
    (let u : State := (if e.claims = [] then s.setEntry i (some { e with held := { e.held with borrow := false } }) else s)
     (e.state = .requesting ∨ e.state = .held ∨ e.state = .injecting → s.settleBorrower i = u.leaveHeld i) ∧
     (e.state = .bypassed ∨ e.state = .closing → e.releaseWait.isSome → s.settleBorrower i = u) ∧
     (e.state = .bypassed ∨ e.state = .closing → e.releaseWait = none → s.settleBorrower i = u.giveToFree i)) ∧
    s.giveToFree i = { s.setEntry i (some { e with
        returned := min (e.returned + (e.grant - e.spent)) 4294967295
        grant := e.spent }) with
      pool.free := s.pool.free + (e.grant - e.spent)
      pool.passDue := s.pool.passDue || decide (0 < e.grant - e.spent) } ∧
    s.afterWait i = (if e.state = .closing then s.enterReporting i else s).availabilityCheck stack) ∧
  (∀ (s : State) (k : Station) (n : Nat),
    s.availabilityCheck k = allEvents.foldl (State.freeOfStack k) s ∧ s.offerEntries = State.offer 32 s ∧
    ((∀ r, (s.release r).isSome) ∨ (∀ i e, s.entry i = some e → e.releaseWait = none) → State.offer n s = s) ∧
    (∀ r i e w, s.release r = none → (∀ q, q < r → (s.release q).isSome) → s.entry i = some e → e.releaseWait = some w →
      (∀ j x z, s.entry j = some x → x.releaseWait = some z → j ≠ i → w.order < z.order) →
      State.offer (n + 1) s = State.offer n ((s.newRelease i r).afterWait i))) ∧
  (∀ (s : State) (n : Notice) (rest : List Notice), s.handed.notices = n :: rest → s.releaseOf n.stack = none →
    n.recovered = true → exec .stackNotice s = .next (State.availabilityCheck { s with handed.notices := rest } n.stack)) ∧
  ∀ (s : State) (n : Notice) (rest : List Notice), s.handed.notices = n :: rest → n.recovered = false →
    let u : State := { s with handed.notices := rest }
    (s.releaseOf n.stack = none → exec .stackNotice s = .next u) ∧
    (∀ q y, s.releaseOf n.stack = some q → s.release q = some y →
      (y.state = .unresolved ∨ n.acknowledged ≠ some y.awaited ∨ n.reported ≠ y.awaited ∨ n.state = .injecting ∨
        n.state = .tripped → exec .stackNotice s = .next u) ∧
      (y.state = .pending → n.acknowledged = some y.awaited → n.reported = y.awaited →
        n.state = .standby ∨ n.state = .bypassed → y.claims = [] →
        (∀ i e, s.entry i = some e → e.releaseWait = none ∧ e.state ≠ .held) →
        exec .stackNotice s = .next { u.setRelease q none with
          pool.free := s.pool.free + y.amount
          pool.passDue := true }))

/-- R97: at a release's confirmation its claims are paid in the order made, each the smaller of the claim and what remains,
and the rest goes to Free. R96, R98: a notice that confirms a release pays it out, settles each borrower, checks the stack's
availability, and offers the freed entry. The pass marked due is the model's (log entries 5 and 27), and so is the order in which
the borrowers are settled, that of the claims (log entry 37). -/
def Obligations.ClaimsPaidInOrder : Prop :=
  (∀ (s : State) (n : Notice) (rest : List Notice) (q : ReleaseIx) (y : Release), s.handed.notices = n :: rest →
    s.releaseOf n.stack = some q → s.release q = some y → y.state = .pending → n.acknowledged = some y.awaited →
    n.reported = y.awaited → n.state = .standby ∨ n.state = .bypassed →
    let paid := State.payOut { s with handed.notices := rest } q y
    let settled := y.claims.foldl (fun w c => w.settleBorrower c.event) paid
    let offered : State := { (settled.availabilityCheck n.stack).offerEntries with pool.passDue := true }
    exec .stackNotice s = .next (if n.recovered = true then offered.availabilityCheck n.stack else offered)) ∧
  (∀ (s : State) (r : ReleaseIx) (x : Release),
    (x.claims = [] → s.payOut r x =
      { s.setRelease r none with pool.free := s.pool.free + x.amount, pool.passDue := true }) ∧
    (∀ c rest e, x.claims = c :: rest → s.entry c.event = some e →
      let paid := min c.amount x.amount
      let spent := min (e.accumulator / 1000000000) (e.grant + paid)
      s.payOut r x = State.payOut { s.setEntry c.event (some { e with
          grant := e.grant + paid
          spent := spent
          overdraw := min (e.accumulator / 1000000000 - (e.grant + paid)) 4294967295
          claims := e.claims.filter fun z => decide (z.release ≠ r) }) with
        pool.drawn := s.pool.drawn + (spent - e.spent) } r { x with amount := x.amount - paid, claims := rest })) ∧
  ∀ (s : State) (r : ReleaseIx) (x : Release) (c d : ReleaseClaim) (e g : Event), x.claims = [c, d] →
    c.event ≠ d.event → s.entry c.event = some e → s.entry d.event = some g →
    let first := min c.amount x.amount
    let second := min d.amount (x.amount - first)
    let t := s.payOut r x
    (∃ e', t.entry c.event = some e' ∧ e'.grant = e.grant + first ∧ (∀ y ∈ e'.claims, y.release ≠ r)) ∧
    (∃ g', t.entry d.event = some g' ∧ g'.grant = g.grant + second ∧ (∀ y ∈ g'.claims, y.release ≠ r)) ∧
    t.release r = none ∧ t.pool.free = s.pool.free + (x.amount - first - second) ∧ t.pool.passDue = true

/-- R139, R140: the expiry of an acknowledgement timer makes the stack UNRESPONSIVE, flushes its commands, the part of its unsent
DRIVE frame with them, and queues BYPASS with the number of an unsent command it removed, or the next. A PENDING release turns
UNRESOLVED and a protected event of the stack goes to BYPASSED with the STACK-FAULT mark; no other command follows, the alarm of the
stack's bus is raised, and STACK-FAULT is reported with the cause EXPIRY, the command, the number flushed, the event and the
release. Where no event names the stack and it owns no release, or the stack is TRIPPED already, nothing else but the alarm and the
report follows. The number of commands flushed is the model's reading (log entry 23), the event named where there are several its
choice (log entry 37), and the moments are log entry 1's. -/
def Obligations.AckTimerTaken : Prop :=
  (∀ (k : Station) (before after : List DriveFrame) (f : DriveFrame), (∀ g ∈ before, g.stack ≠ k) →
    takeOutOfDrive k before = before ∧
    (f.stack = k → takeOutOfDrive k (before ++ f :: after) =
      before ++ (if f.reference.isSome then [{ f with command := none }] else []) ++ after)) ∧
  ∀ (s : State) (time : Nat) (k : Station), s.InTime time →
    let v := s.view k
    let u : State := { s with now := max s.now time }
    ((∀ o ∈ v.outstanding, ∀ t, o.standing = .sent (some t) → max s.now time < t) →
      exec (.ackTimerExpiry time k.address) s = .next u) ∧
    (∀ before o after expiry, v.outstanding = before ++ o :: after → o.standing = .sent (some expiry) →
      expiry ≤ max s.now time → (∀ p ∈ before, ∀ t, p.standing = .sent (some t) → max s.now time < t) →
      let q := match v.unsent with
        | some c => c.sequence
        | none => v.nextSequence
      let flushed : State := { u.setView k { v with
        unresponsive := true
        outstanding := []
        unsent := none
        nextSequence := q } with ring.drive := takeOutOfDrive k s.ring.drive }
      let commanded := flushed.queueCommand k .bypass
      let count := v.outstanding.length + (if v.unsent.isSome then 1 else 0)
      let guarded (i : EventIx) : Prop := ∃ e, s.entry i = some e ∧ e.copy.stack = k ∧
        (e.state = .requesting ∨ e.state = .held ∨ e.state = .injecting)
      (∃ t, exec (.ackTimerExpiry time k.address) s = .next t ∧ (t.view k).unresponsive = true ∧
        (t.view k).nextSequence = q + 1 ∧ t.view k = commanded.view k ∧ t.ring.drive = commanded.ring.drive ∧
        (s.ring.port ≠ none → (t.view k).outstanding = [] ∧ (t.view k).unsent = some ⟨q, .bypass⟩ ∧ t.ring.port = s.ring.port) ∧
        (s.ring.port = none → (t.view k).outstanding = [] ∧ (t.view k).unsent = some ⟨q, .bypass⟩ ∨
          (t.view k).outstanding = [⟨⟨q, .bypass⟩, .inTransmission⟩] ∧ (t.view k).unsent = none) ∧
        (∀ b, (∃ r, s.row b = some r ∧ r.stack = k ∧ ∀ b' r', s.row b' = some r' → r'.stack = k → b' = b) ∨
            (∀ b' r', s.row b' = some r' → r'.stack ≠ k) ∧ (s.record k).boundBus = some b →
          (t.channel b).alarms.stackFault = true) ∧
        (v.tripped = false → s.ring.reports.length < 32 → ∃ event release, t.ring.reports = s.ring.reports ++
            [⟨s.management.reportCounter, .stackFault k (s.busOfStack k) (some o.command) count event release⟩] ∧
          (∀ i, event = some i ↔ guarded i ∧ ∀ j, j < i → ¬ guarded j) ∧
          (∀ p, release = some p ↔ s.releaseOf k = some p ∧ (s.release p).map (·.state) = some .pending)) ∧
        (v.tripped = false →
          (∀ p y, s.releaseOf k = some p → s.release p = some y → y.state = .pending →
            ∃ y', t.release p = some y' ∧ y'.state = .unresolved ∧ y'.amount = y.amount) ∧
          (∀ i e, s.entry i = some e → e.copy.stack = k →
            (e.state = .requesting ∨ e.state = .held ∨ e.state = .injecting) →
            ∃ e', t.entry i = some e' ∧ e'.state = .bypassed ∧ e'.marks.stackFault = true ∧
              e'.outcome = some (e.outcome.getD .stackFault) ∧ e'.stackOrder ≠ .inject) ∧
          (∀ i e, s.entry i = some e → e.copy.stack = k → e.state = .bypassed →
            t.entry i = some { e with marks := { e.marks with stackFault := true } }))) ∧
      (v.tripped = true ∨
          (∀ i e, s.entry i = some e → e.copy.stack ≠ k) ∧ (∀ p y, s.release p = some y → y.stack ≠ k) →
        exec (.ackTimerExpiry time k.address) s = .next (commanded.reportFault k (some o.command) count none none)))

/-! ## The Management Unit -/

/-- R181 to R183: a request is taken from the head of the queue when it is of the command's row and the response queue has
room; it is answered with its tag and kind as received, and a refusal leaves the rest of the state alone. A kind the
dispatcher does not define is refused with UNKNOWN, and fields of a wrong length with RANGE naming the body length (255 as
its place is the model's choice, log entry 7). That the length is refused before every other check is the model's reading (log
entry 10), and that a command with no request of its row at the head does nothing its choice (log entry 6). -/
def Obligations.RequestTaken : Prop :=
  (∀ (s : State) (r : Request) (rest : List Request), s.Heads r rest → s.NothingAhead →
      (∃ t result, Answers r.row.command s r t result ∧ t.management.requests = rest ∧
        (∀ reason, result = .refused reason → t = s.taken rest)) ∧
      (r.row = .unknownRequest ↔ r.kind.toNat = 0 ∨ 19 < r.kind.toNat) ∧
      (r.row = .unknownRequest → Answers .unknownRequest s r (s.taken rest) (.refused .unknown)) ∧
      (∀ n, r.row.fieldBytes = some n → r.fields.length ≠ n →
        Answers r.row.command s r (s.taken rest) (.refused (.range 255 (r.fields.length + 2))))) ∧
  (∀ (s : State) (row : RequestRow), (∀ r rest, s.Heads r rest → r.row ≠ row) → exec row.command s = .next s)

/-- R48, R87, R108, R156, R157, R171, R184: the reads answer from the state as it stands and change nothing; a number outside
its table is refused with RANGE naming the field and the value. The places of the fields, and the form byte of the two capture
reads as place 0, are the model's (log entry 7), and so is that READ PORTS gives IDLE or SENDING without the frame in transmission (log
entry 38). -/
def Obligations.ReadsAnswered : Prop :=
  (∀ (s : State) (r : Request) (rest : List Request), s.Heads r rest →
      (r.row = .readIdentity → r.fields = [] → Answers .readIdentity s r (s.taken rest) (.done (.identity
        s.banks.active (allBuses.filter fun b => decide ((s.channel b).bankInUse ≠ s.banks.active)).length))) ∧
      (r.row = .readPool → r.fields = [] → Answers .readPool s r (s.taken rest) (.done (.pool
        { budget := s.pool.budget
          free := s.pool.free
          drawn := s.pool.drawn
          releaseSum := (allReleases.map fun p => ((s.release p).map (·.amount)).getD 0).sum
          storeState := s.pool.storeState
          requests := s.pool.grantQueue.length
          releasesInUse := (allReleases.filter fun p => (s.release p).isSome).length
          waiting := (allEvents.filter fun i => ((s.entry i).bind (·.releaseWait)).isSome).length
          charger := s.pool.charger
          chargerFault := s.pool.chargerFault
          staleStore := s.pool.staleStore
          baseline := s.pool.storeBaseline }))) ∧
      (r.row = .readPorts → r.fields = [] → Answers .readPorts s r (s.taken rest) (.done (.ports
        { counters := s.ring.counters
          sending := s.ring.port.isSome
          drive := s.ring.drive.length
          responses := s.ring.responses.length
          transit := s.ring.transit.length
          reports := s.ring.reports.length
          dropped := s.management.reportsDropped
          nextNumber := s.management.reportCounter
          requests := rest.length }))) ∧
      (∀ x : Byte, r.fields = [x] →
        (r.row = .readBus → (∀ b : Bus, b.val = x.toNat →
            Answers .readBus s r (s.taken rest) (.done (.bus (s.channel b)))) ∧
          (23 < x.toNat → Answers .readBus s r (s.taken rest) (.refused (.range 0 x.toNat)))) ∧
        (r.row = .readEvent → (∀ i : EventIx, i.val = x.toNat →
            Answers .readEvent s r (s.taken rest)
              (.done (.event ((s.entry i).map fun e => ⟨i, e, s.requestOf i, s.rate i⟩)))) ∧
          (31 < x.toNat → Answers .readEvent s r (s.taken rest) (.refused (.range 0 x.toNat)))) ∧
        (r.row = .readRelease → (∀ p : ReleaseIx, p.val = x.toNat →
            Answers .readRelease s r (s.taken rest) (.done (.release ((s.release p).map fun y =>
              ⟨p, y, ((y.origin.bind s.entry).map (·.copy.cls)).getD 3⟩)))) ∧
          (15 < x.toNat → Answers .readRelease s r (s.taken rest) (.refused (.range 0 x.toNat))))) ∧
      (∀ x : Byte, r.row = .readCaptureChannel → r.fields = [0, x] →
        (∀ k : CaptureIx, k.val = x.toNat →
          Answers .readCaptureChannel s r (s.taken rest) (.done (.captureChannel (s.recorder k)))) ∧
        (7 < x.toNat → Answers .readCaptureChannel s r (s.taken rest) (.refused (.range 1 x.toNat)))) ∧
      (∀ low high count : Byte, r.row = .readCaptureRecords → r.fields = [1, low, high, count] →
        let start := low.toNat + 256 * high.toNat
        let n := count.toNat
        (1 ≤ n ∧ n ≤ 16 ∧ start + n ≤ 65536 → Answers .readCaptureRecords s r (s.taken rest)
          (.done (.records ((List.range n).map fun j => Memory.read s.capture.memory (start + j))))) ∧
        (¬ (1 ≤ n ∧ n ≤ 16 ∧ start + n ≤ 65536) →
          Answers .readCaptureRecords s r (s.taken rest) (.refused (.range 2 n))))) ∧
  (∀ active differing, Answer.bytes (.identity active differing) = [1, 120, 9, 1, 24, 32, 16, 8, 0, 0, 1, 0, 62, 8,
    16, 32, 4, BitVec.ofNat 8 active.val, BitVec.ofNat 8 differing])

/-- R178: READ ROW answers with the row's validity and, for a valid row, every field as last loaded, from either bank; a bank
other than 0 or 1, a table outside the three, or a row number outside its table is refused with RANGE naming the field. The
tables' codes and the fields' places are the model's (log entry 7), a table code is checked before the length it gives (log
entry 10), and the bank before the table and the table before the row (log entry 40). -/
def Obligations.RowRead : Prop :=
  ∀ (s : State) (r : Request) (rest : List Request) (x y : Byte) (more : List Byte), s.Heads r rest →
    r.row = .readRow → r.fields = x :: y :: more →
    (∀ n : BankIx, n.val = x.toNat →
      (∀ (z : Byte) (b : Bus), y = 0 → more = [z] → b.val = z.toNat →
        Answers .readRow s r (s.taken rest) (.done (.busRow (s.bank n).busRows[b]))) ∧
      (∀ (z : Byte) (i : EnvelopeIx), y = 1 → more = [z] → i.val = z.toNat →
        Answers .readRow s r (s.taken rest) (.done (.envelopeRow (s.bank n).envelopes[i]))) ∧
      (y = 2 → more = [] → Answers .readRow s r (s.taken rest) (.done (.storeRow (s.bank n).store))) ∧
      (2 < y.toNat → Answers .readRow s r (s.taken rest) (.refused (.range 1 y.toNat))) ∧
      (∀ z : Byte, y = 0 ∧ 23 < z.toNat ∨ y = 1 ∧ 15 < z.toNat → more = [z] →
        Answers .readRow s r (s.taken rest) (.refused (.range 2 z.toNat)))) ∧
    (1 < x.toNat → more.length = (if y = 2 then 0 else 1) →
      Answers .readRow s r (s.taken rest) (.refused (.range 0 x.toNat)))

/-- R50, R51, R174 to R177: a load within its ranges replaces its row or set in the standby bank whole; an indication of no
makes the row or set invalid; an address in two roles is refused with CONFLICT, and any load of the right length, with valid yes
or no, with BANK while a bus uses the standby bank. The first field, in the order carried, outside its range is refused with
RANGE naming it and its value. The places of the fields are the model's (log entry 7), the length checked first its reading (log
entry 10), and an indication or a code that is none of those defined refused with RANGE its choice (log entry 11). -/
def Obligations.LoadsTaken : Prop :=
  ∀ (s : State) (r : Request) (rest : List Request), s.Heads r rest →
    let u := s.taken rest
    let old := s.bank s.standbyIx
    let loaded (row : RequestRow) (bank : Bank) : Prop :=
      Answers row.command s r { u with banks.bank := s.banks.bank.set s.standbyIx bank } (.done .nothing)
    let refused (row : RequestRow) (reason : Reason) : Prop := Answers row.command s r u (.refused reason)
    let settled : Prop := ∀ c, (s.channel c).bankInUse = s.banks.active
    (∀ (b : Bus) (i : Byte), r.row = .loadBusRow → i.toNat = b.val →
      (∀ row : BusRow, row.InRange → r.fields = [i, 1] ++ putBusRow row →
        (settled → old.RowFits b row → loaded .loadBusRow { old with busRows := old.busRows.set b (some row) }) ∧
        (settled → ¬ old.RowFits b row → refused .loadBusRow (.conflict none)) ∧
        (¬ settled → refused .loadBusRow .bank)) ∧
      (r.fields = [i, 0] → settled → loaded .loadBusRow { old with busRows := old.busRows.set b none })) ∧
    (∀ (e : EnvelopeIx) (i : Byte) (row : EnvelopeRow), r.row = .loadEnvelopeRow → i.toNat = e.val → row.InRange →
      r.fields = [i] ++ putEnvelope row →
      (settled → loaded .loadEnvelopeRow { old with envelopes := old.envelopes.set e (some row) }) ∧
      (¬ settled → refused .loadEnvelopeRow .bank)) ∧
    (r.row = .loadStoreParameters →
      (∀ p : StoreParameters, p.InRange → r.fields = [1] ++ putStore p →
        (settled → old.StoreFits p → loaded .loadStoreParameters { old with store := some p }) ∧
        (settled → ¬ old.StoreFits p → refused .loadStoreParameters (.conflict none)) ∧
        (¬ settled → refused .loadStoreParameters .bank)) ∧
      (r.fields = [0] → settled → loaded .loadStoreParameters { old with store := none })) ∧
    (let f := r.fields
     let n := byteAt f 1
     let points : List Breakpoint := (List.range n).map fun j => ⟨wordAt f (2 + 4 * j), wordAt f (4 + 4 * j)⟩
     let ofBus : List FieldRange := [⟨byteAt f 2, 1, 62⟩, ⟨byteAt f 3, 1, 62⟩, ⟨wordAt f 4, 50, 600⟩, ⟨byteAt f 6, 0, 3⟩,
       ⟨byteAt f 7, 0, 15⟩, ⟨wordAt f 8, 500, 980⟩, ⟨wordAt f 10, wordAt f 8 + 1, 995⟩, ⟨wordAt f 12, 1050, 1500⟩,
       ⟨byteAt f 14, 1, 16⟩, ⟨byteAt f 15, 1, 64⟩, ⟨wordAt f 16, 500, 20000⟩, ⟨wordAt f 18, 1, 4000⟩, ⟨byteAt f 20, 0, 1⟩,
       ⟨byteAt f 21, 0, 1⟩, ⟨wordAt f 22, 100, 600⟩, ⟨longAt f 24, 1, 4294967295⟩,
       ⟨byteAt f 28, 0, if byteAt f 28 = 255 then 255 else 7⟩]
     let ofEnvelope : List FieldRange := [⟨byteAt f 0, 0, 15⟩, ⟨n, 2, 8⟩] ++ breakpointRanges 1 0 points ++
       [⟨wordAt f (2 + 4 * n), lastFloor points, 1000⟩, ⟨byteAt f (4 + 4 * n), 0, 100⟩, ⟨byteAt f (5 + 4 * n), 1, 8⟩]
     let ofStore : List FieldRange := [⟨byteAt f 1, 1, 62⟩, ⟨wordAt f 2, 1, 65535⟩, ⟨wordAt f 4, 0, 16000⟩,
       ⟨longAt f 6, 0, 4294967295⟩, ⟨longAt f 10, 1000, 100000⟩, ⟨longAt f 14, 1, 1000000⟩]
     let long (row : RequestRow) : Prop := match row with
       | .loadBusRow => n = 0 ∧ f.length = 2 ∨ n = 1 ∧ f.length = 29 ∨ 1 < n ∧ 2 ≤ f.length
       | .loadEnvelopeRow => 2 ≤ f.length ∧ (2 ≤ n → n ≤ 8 → f.length = 6 + 4 * n)
       | .loadStoreParameters =>
         byteAt f 0 = 0 ∧ f.length = 1 ∨ byteAt f 0 = 1 ∧ f.length = 18 ∨ 1 < byteAt f 0 ∧ 1 ≤ f.length
       | _ => False
     let refusesFirst (place : Nat) (ranges : List FieldRange) : Prop := ∀ before x after,
       ranges = before ++ x :: after → (∀ y ∈ before, y.holds) → ¬ x.holds →
         refused r.row (.range (place + before.length) x.value)
     long r.row → (¬ settled → refused r.row .bank) ∧ (settled →
       (r.row = .loadBusRow → (23 < byteAt f 0 → refused r.row (.range 0 (byteAt f 0))) ∧
         (byteAt f 0 ≤ 23 → 1 < n → refused r.row (.range 1 n)) ∧
         (byteAt f 0 ≤ 23 → n = 1 → refusesFirst 2 ofBus)) ∧
       (r.row = .loadEnvelopeRow → refusesFirst 0 ofEnvelope) ∧
       (r.row = .loadStoreParameters → (1 < byteAt f 0 → refused r.row (.range 0 (byteAt f 0))) ∧
         (byteAt f 0 = 1 → refusesFirst 1 ofStore))))

/-- R26, R52, R106, R179, R180: COMMIT BANK is refused at the first of its four checks that fails, naming the lowest bus; an
accepted one flips the selector, has each bus adopt at once or defer, moves an UNCONFIGURED store with valid parameters to
WAITING, and lists the buses that deferred. -/
def Obligations.CommitTaken : Prop :=
  ∀ (s : State) (r : Request) (rest : List Request), s.Heads r rest → s.NothingAhead → r.row = .commitBank →
    r.fields = [] →
    let new := s.bank s.standbyIx
    let refused (reason : Reason) : Prop := Answers .commitBank s r (s.taken rest) (.refused reason)
    let adopted : Prop := ∀ c, (s.channel c).bankInUse = s.banks.active
    let unserved (b : Bus) : Prop := (s.channel b).detection ≠ .outOfService ∧ new.busRows[b] = none
    let unenveloped (b : Bus) : Prop := ∃ row, new.busRows[b] = some row ∧ new.envelopes[row.envelope] = none
    let moved (b : Bus) : Prop := ∃ (row : BusRow) (c : Bus) (q : BusRow), new.busRows[b] = some row ∧ c ≠ b ∧
      s.activeBank.busRows[c] = some q ∧ row.Shares q
    let defers (b : Bus) : Prop := (s.channel b).openEvent.isSome ∨ (s.channel b).detection = .suspect
    let wakes : Prop := s.pool.storeState = .unconfigured ∧ new.store.isSome
    (¬ adopted → refused .busy) ∧
    (adopted → ∀ b, LowestBus b unserved → refused (.state (some b))) ∧
    (adopted → (∀ c, ¬ unserved c) → ∀ b, LowestBus b unenveloped → refused (.state (some b))) ∧
    (adopted → (∀ c, ¬ unserved c) → (∀ c, ¬ unenveloped c) → ∀ b, LowestBus b moved →
      refused (.conflict (some b))) ∧
    (adopted → (∀ c, ¬ unserved c) → (∀ c, ¬ unenveloped c) → (∀ c, ¬ moved c) →
      ∃ t deferred, Answers .commitBank s r t (.done (.committed deferred)) ∧
        (∀ b, b ∈ deferred ↔ defers b) ∧ deferred.Pairwise (· < ·) ∧
        t.banks = { s.banks with active := s.standbyIx } ∧
        (∀ b, (defers b → t.channel b = s.channel b) ∧
          (¬ defers b → t.channel b = { s.channel b with bankInUse := s.standbyIx })) ∧
        (wakes → t = State.report
          { s.taken rest with banks := t.banks, channels := t.channels, pool.storeState := .waiting }
          (.storeState .unconfigured .waiting .management s.pool.budget none)) ∧
        (¬ wakes → t = { s.taken rest with banks := t.banks, channels := t.channels }))

/-- R20, R21, R23: SET SERVICE off takes a bus out of service and ends its sag with the cause WITHDRAWN; SET SERVICE on puts it
into NORMAL under the active bank, and is refused with STATE where its row there is invalid; neither changes a bus that is
there already. A bus above 23 is refused with RANGE, and so is an indication that is neither (the latter is the model's
choice, log entry 11). R22: the change of state is reported. The places of the fields are the model's
(log entry 7), as is the order in which a bus comes into service (log entry 9) and the check of the bus before the indication (log
entry 40). -/
def Obligations.ServiceTaken : Prop :=
  ∀ (s : State) (r : Request) (rest : List Request) (x y : Byte), s.Heads r rest → s.NothingAhead →
    r.fields = [x, y] →
    let u := s.taken rest
    (r.row = .setServiceOff ∨ r.row = .setServiceOn → 23 < x.toNat →
      Answers r.row.command s r u (.refused (.range 0 x.toNat))) ∧
    (∀ b : Bus, b.val = x.toNat →
      let c := s.channel b
      (r.row = .setServiceOff → 1 < y.toNat → Answers .setServiceOff s r u (.refused (.range 1 y.toNat))) ∧
      (r.row = .setServiceOff → y = 0 →
        (c.detection = .outOfService → Answers .setServiceOff s r u (.done .nothing)) ∧
        (c.detection ≠ .outOfService → ∃ t, Answers .setServiceOff s r t (.done .nothing) ∧
          (t.channel b).detection = .outOfService ∧ (t.channel b).silence = none ∧ (t.channel b).runCount = 0 ∧
          (t.channel b).suspectStart = none ∧ (t.channel b).suspectLowest = none ∧
          (t.channel b).baseline = c.baseline ∧ (t.channel b).bankInUse = c.bankInUse ∧
          (c.openEvent = none → (t.channel b).alarms = c.alarms) ∧ SagEnded .withdrawn b s t ∧
          ((∀ i e, c.openEvent = some i → s.entry i = some e → e.bus = b) →
            ∀ d, d ≠ b → t.channel d = s.channel d) ∧
          (c.openEvent = none → c.untracked = false → t = (u.setChannel b { c with
            detection := .outOfService
            silence := none
            runCount := 0
            suspectStart := none
            suspectLowest := none }).report (.busState b c.detection .outOfService .management none)))) ∧
      (r.row = .setServiceOn → y = 1 →
        (c.detection ≠ .outOfService → Answers .setServiceOn s r u (.done .nothing)) ∧
        (c.detection = .outOfService → s.activeBank.busRows[b] = none →
          Answers .setServiceOn s r u (.refused (.state none))) ∧
        (∀ row, c.detection = .outOfService → s.activeBank.busRows[b] = some row →
          ∃ t, Answers .setServiceOn s r t (.done .nothing) ∧
            t.channel b = { c with
              detection := .normal
              runCount := 0
              suspectStart := none
              suspectLowest := none
              openEvent := none
              untracked := false
              baseline := none
              bankInUse := s.banks.active
              silence := some (s.now + row.silenceTimeout) } ∧
            (∀ d, d ≠ b → t.channel d = s.channel d) ∧ (∀ i e, t.entry i = some e → s.entry i = some e) ∧
            let w := (u.setChannel b { c with baseline := none }).enterNormal b
            t = (w.setChannel b { w.channel b with silence := some (s.now + row.silenceTimeout) }).report
              (.busState b .outOfService .normal .management none))))

/-- R146, R147, R150: LOAD CAPTURE CHANNEL programs a channel that is not RUNNING and clears its pass; SET CAPTURE MASK masks a
channel, truncating a pass that runs, or unmasks it; numbers outside their ranges are refused with RANGE. The places of the
fields are the model's (log entry 7), and so are the refusal of an undefined mode with RANGE, before the RUNNING check (log entries
11 and 34), and the check of the channel before the indication (log entry 40). -/
def Obligations.CaptureControlled : Prop :=
  ∀ (s : State) (r : Request) (rest : List Request) (x y : Byte) (more : List Byte), s.Heads r rest →
    r.fields = x :: y :: more →
    let u := s.taken rest
    ((r.row = .captureMask ∨ r.row = .captureUnmask) ∧ more = [] ∨ r.row = .loadCaptureChannel ∧ more.length = 4 →
      7 < x.toNat → Answers r.row.command s r u (.refused (.range 0 x.toNat))) ∧
    (∀ k : CaptureIx, k.val = x.toNat →
      let c := s.recorder k
      (r.row = .captureMask → more = [] → y = 1 →
        (c.state ≠ .running →
          Answers .captureMask s r (u.setRecorder k { c with state := .masked }) (.done .nothing)) ∧
        (c.state = .running → ∃ w : State,
          Answers .captureMask s r (w.setRecorder k { c with state := .masked }) (.done .nothing) ∧
          w = { u with events.entries := w.events.entries } ∧
          (∀ i, w.entry i = (s.entry i).map fun e => if c.event = some i ∧ c.status ≠ .freed then
            { e with marks := { e.marks with truncated := true } } else e))) ∧
      (r.row = .captureUnmask → more = [] → y = 0 →
        Answers .captureUnmask s r (u.setRecorder k (if c.state = .masked then { c with state := .idle } else c))
          (.done .nothing)) ∧
      (∀ y' low high mode : Byte, r.row = .loadCaptureChannel → more = [y', low, high, mode] →
        let base := y.toNat + 256 * y'.toNat
        let count := low.toNat + 256 * high.toNat
        (4095 < count → Answers .loadCaptureChannel s r u (.refused (.range 2 count))) ∧
        (count ≤ 4095 → 1 < mode.toNat → Answers .loadCaptureChannel s r u (.refused (.range 3 mode.toNat))) ∧
        (count ≤ 4095 → mode.toNat ≤ 1 → c.state = .running →
          Answers .loadCaptureChannel s r u (.refused (.state none))) ∧
        (count ≤ 4095 → mode.toNat ≤ 1 → c.state ≠ .running → Answers .loadCaptureChannel s r (u.setRecorder k
          { state := if c.state = .masked then .masked else .idle
            base := base
            count := count
            mode := if mode = 0 then .single else .continuous
            current := base
            written := 0
            halfNotified := false
            passCount := 0
            bus := none
            event := none
            status := .freed
            startFrame := none }) (.done .nothing))))

/-- R24, R102, R184 to R186: TAKE ALARMS returns the set of a bus or of the pool and empties it; LATCH METERING makes a
snapshot where none is held and keeps one that is; READ SNAPSHOT gives the part named as latched, and empties the snapshot
where the release indication is set. The parts' codes and the fields' places are the model's (log entry 7), and so is the order of
the checks of READ SNAPSHOT, the part's first (log entry 40). -/
def Obligations.AlarmsAndSnapshotTaken : Prop :=
  ∀ (s : State) (r : Request) (rest : List Request), s.Heads r rest →
    let u := s.taken rest
    (∀ x : Byte, r.row = .takeAlarmsBus → r.fields = [x] →
      (∀ b : Bus, b.val = x.toNat → Answers .takeAlarmsBus s r
        (u.setChannel b { s.channel b with alarms := ⟨false, false, false, false, false, false, false⟩ })
        (.done (.busAlarms (s.channel b).alarms))) ∧
      (23 < x.toNat → Answers .takeAlarmsBus s r u (.refused (.range 0 x.toNat)))) ∧
    (r.row = .takeAlarmsPool → r.fields = [255] →
      Answers .takeAlarmsPool s r { u with pool.chargerFault := false } (.done (.poolAlarms s.pool.chargerFault))) ∧
    (r.row = .latchMetering → r.fields = [] →
      (∀ x, s.management.snapshot = some x → Answers .latchMetering s r u (.done (.latched true))) ∧
      (s.management.snapshot = none →
        let latched : Snapshot :=
          { time := s.now
            budget := s.pool.budget
            free := s.pool.free
            drawn := s.pool.drawn
            events := allEvents.filterMap fun i => (s.entry i).map fun e => ⟨i, e.bus, e.state, e.grant, e.spent⟩
            releases := allReleases.filterMap fun p => (s.release p).map fun y => (p, y.amount) }
        Answers .latchMetering s r { u with management.snapshot := some latched } (.done (.latched false)))) ∧
    (∀ x y : Byte, r.row = .readSnapshot → r.fields = [x, y] →
      (2 < x.toNat → Answers .readSnapshot s r u (.refused (.range 0 x.toNat))) ∧
      (x.toNat ≤ 2 → y.toNat ≤ 1 → s.management.snapshot = none →
        Answers .readSnapshot s r u (.refused (.state none))) ∧
      (∀ held, s.management.snapshot = some held → y.toNat ≤ 1 →
        let t : State := if y = 1 then { u with management.snapshot := none } else u
        (x = 0 → Answers .readSnapshot s r t (.done (.snapshotPool held))) ∧
        (x = 1 → Answers .readSnapshot s r t
          (.done (.snapshotEvents (held.events.filter fun e => decide (e.index.val < 16))))) ∧
        (x = 2 → Answers .readSnapshot s r t
          (.done (.snapshotEvents (held.events.filter fun e => decide (16 ≤ e.index.val)))))))

/-- R27, R47, R65, R89, R107, R111, R145, R188, R189: RESTART without force is refused with STATE while a map holds an entry.
An accepted one empties the maps, the pool, the report queue and the snapshot, puts the buses in service into NORMAL, stops
the capture passes, queues BYPASS once for each stack of an open event or a release and RELEASE for a bypassed one that a bus
finds idle as it enters NORMAL (R23), keeps the banks, the transit and response queues, the frame under way, the requests behind it,
the capture memory, the alarms, the counters and orders, the charger state and the parameters in effect, and, for every stack it
commands nothing, the view and the DRIVE frame, and answers with every event emptied, in order of index (the model's choice, log
entry 26). That a bus that had deferred adopts the active bank is R27's, and the model's choice against R173 and R189 (log entry
39). -/
def Obligations.RestartTaken : Prop :=
  ∀ (s : State) (r : Request) (rest : List Request) (x : Byte), s.Heads r rest → s.NothingAhead → PortServed s →
    r.row = .restart → r.fields = [x] →
    let busy := (∃ i e, s.entry i = some e) ∨ (∃ p y, s.release p = some y)
    (x = 0 → busy → Answers .restart s r (s.taken rest) (.refused (.state none))) ∧
    (x.toNat ≤ 1 → x = 1 ∨ ¬ busy → ∃ (t : State) (stations : List Station),
      Answers .restart s r t (.done (.restarted (decide (x = 1))
        (allEvents.filterMap fun i => (s.entry i).map fun e => (i, e.bus, e.outcome.getD .restarted))
        (allReleases.filter fun p => (s.release p).isSome).length stations.length)) ∧
      stations.Nodup ∧ (∀ k, k ∈ stations ↔
        (∃ b i e, (s.channel b).openEvent = some i ∧ s.entry i = some e ∧ e.copy.stack = k) ∨
        (∃ p y, s.release p = some y ∧ y.stack = k)) ∧
      (∀ k ∈ stations,
        let q := match (s.view k).unsent with
          | some c => c.sequence
          | none => (s.view k).nextSequence
        (t.view k).unsent = some ⟨q, .bypass⟩ ∨ ⟨⟨q, .bypass⟩, .inTransmission⟩ ∈ (t.view k).outstanding) ∧
      (∀ i, t.entry i = none ∧ t.rate i = none) ∧ (∀ p, t.release p = none) ∧
      t.pool.budget = 0 ∧ t.pool.free = 0 ∧ t.pool.drawn = 0 ∧ t.pool.grantQueue = [] ∧
      t.pool.storeState = (if s.activeBank.store.isSome then .waiting else .unconfigured) ∧
      t.pool.storeSilence = none ∧ t.pool.storeBaseline = none ∧
      (∀ k, t.record k = { s.record k with drawingEvent := none }) ∧
      (∀ b, ((s.channel b).detection = .outOfService → t.channel b = s.channel b) ∧
        (∀ row, (s.channel b).detection ≠ .outOfService → s.activeBank.busRows[b] = some row →
          t.channel b = { s.channel b with
            detection := .normal
            runCount := 0
            suspectStart := none
            suspectLowest := none
            openEvent := none
            untracked := false
            bankInUse := s.banks.active
            silence := some (s.now + row.silenceTimeout)
            counters := { (s.channel b).counters with untrackedSags :=
              (s.channel b).counters.untrackedSags + (if (s.channel b).untracked then 1 else 0) } })) ∧
      (∀ k, t.recorder k = { s.recorder k with
        state := if (s.recorder k).state = .running then .done else (s.recorder k).state
        status := .freed
        startFrame := if (s.recorder k).state = .running then none else (s.recorder k).startFrame }) ∧
      t.ring.reports = [] ∧ t.management = { s.management with requests := rest, snapshot := none } ∧
      t.capture.memory = s.capture.memory ∧ t.banks = s.banks ∧ t.ring.transit = s.ring.transit ∧
      t.ring.responses = s.ring.responses ∧ t.ring.counters = s.ring.counters ∧
      t.pool.charger = s.pool.charger ∧ t.pool.chargerFault = s.pool.chargerFault ∧ t.pool.staleStore = s.pool.staleStore ∧
      t.pool.inEffect = s.pool.inEffect ∧ t.pool.creationCounter = s.pool.creationCounter ∧
      t.events.openCounter = s.events.openCounter ∧ t.events.closeCounter = s.events.closeCounter ∧
      (s.ring.port ≠ none → t.ring.port = s.ring.port ∧ t.ring.egressSequence = s.ring.egressSequence) ∧
      ∀ k,
        let v := s.view k
        let tidied := ∃ b row, (s.channel b).detection ≠ .outOfService ∧ s.activeBank.busRows[b] = some row ∧ row.stack = k ∧
          v.reported = .bypassed ∧ v.unresponsive = false ∧ v.unsent = none ∧ v.outstanding = []
        (k ∉ stations → ¬ tidied → t.view k = v ∧
          t.ring.drive.filter (fun f => decide (f.stack = k)) = s.ring.drive.filter fun f => decide (f.stack = k)) ∧
        (s.ring.port ≠ none → k ∈ stations ∨ tidied → t.view k = { v with
          unsent := some ⟨match v.unsent with
            | some c => c.sequence
            | none => v.nextSequence, if k ∈ stations then .bypass else .release⟩
          nextSequence := if v.unsent.isSome then v.nextSequence else v.nextSequence + 1 }))
end

