-- ==== Sys2Proof/Laws/Clock.lean ====
section
/-! SUPPORT. What moving the time base does: which timers run, and the move alone where none must be taken. -/

namespace Sys2Proof.Machine

/-! ## The timers that run -/

@[simp] theorem State.silence_mem_timers {s : State} {b : Bus} {t : Nat} :
    (⟨.silence b, t⟩ : Running) ∈ s.timers ↔ (s.channel b).silence = some t := by
  simp only [State.timers, List.mem_append, List.mem_filterMap, List.mem_flatMap, List.mem_map, Option.mem_toList,
    Option.map_eq_some_iff, Running.mk.injEq, Timer.silence.injEq, reduceCtorEq, false_and, and_false,
    exists_false, or_false]
  constructor
  · rintro (⟨c, _, n, hn, rfl, rfl⟩ | ⟨k, _, o, _, ho⟩)
    · exact hn
    · unfold Outstanding.running at ho
      split at ho <;> simp at ho
  · exact fun h => Or.inl ⟨b, List.mem_finRange b, t, h, rfl, rfl⟩

@[simp] theorem State.store_mem_timers {s : State} {t : Nat} :
    (⟨.store, t⟩ : Running) ∈ s.timers ↔ s.pool.storeSilence = some t := by
  simp only [State.timers, List.mem_append, List.mem_filterMap, List.mem_flatMap, List.mem_map, Option.mem_toList,
    Option.map_eq_some_iff, Running.mk.injEq, reduceCtorEq, false_and, and_false, true_and,
    exists_false, false_or, or_false, exists_eq_right]
  constructor
  · rintro (h | ⟨k, _, o, _, ho⟩)
    · exact h
    · unfold Outstanding.running at ho
      split at ho <;> simp at ho
  · exact Or.inl

@[simp] theorem State.acknowledgement_mem_timers {s : State} {k : Station} {t : Nat} :
    (⟨.acknowledgement k, t⟩ : Running) ∈ s.timers ↔ ∃ o ∈ (s.view k).outstanding, o.standing = .sent (some t) := by
  simp only [State.timers, List.mem_append, List.mem_filterMap, List.mem_flatMap, List.mem_map, Option.mem_toList,
    Option.map_eq_some_iff, Running.mk.injEq, reduceCtorEq, false_and, and_false, exists_false,
    false_or, or_false]
  constructor
  · rintro ⟨j, _, o, ho, hr⟩
    unfold Outstanding.running at hr
    split at hr <;> simp at hr
    obtain ⟨rfl, rfl⟩ := hr
    exact ⟨o, ho, by assumption⟩
  · rintro ⟨o, ho, hs⟩
    exact ⟨k, List.mem_finRange k, o, ho, by simp [Outstanding.running, hs]⟩

@[simp] theorem State.wait_mem_timers {s : State} {kind : RequestKind} {i : EventIx} {t : Nat} :
    (⟨.wait kind i, t⟩ : Running) ∈ s.timers ↔
      ∃ q ∈ s.pool.grantQueue, q.kind = kind ∧ q.event = i ∧ q.expiry = t := by
  simp only [State.timers, List.mem_append, List.mem_filterMap, List.mem_flatMap, List.mem_map, Option.mem_toList,
    Option.map_eq_some_iff, Running.mk.injEq, Timer.wait.injEq, reduceCtorEq, false_and, and_false,
    exists_false, false_or]
  constructor
  · rintro (⟨k, _, o, _, ho⟩ | ⟨q, hq, ⟨h1, h2⟩, h3⟩)
    · unfold Outstanding.running at ho
      split at ho <;> simp at ho
    · exact ⟨q, hq, h1, h2, h3⟩
  · rintro ⟨q, hq, h1, h2, h3⟩
    exact Or.inr ⟨q, hq, ⟨h1, h2⟩, h3⟩

/-- The timers that run depend on the bus channels, the store's one-shot, the stack views and the Grant Queue alone. -/
theorem State.timers_congr {s t : State} (hc : s.channels = t.channels) (hs : s.pool.storeSilence = t.pool.storeSilence)
    (hv : s.views = t.views) (hq : s.pool.grantQueue = t.pool.grantQueue) : s.timers = t.timers := by
  have hch : s.channel = t.channel := by
    funext b
    simp [State.channel, hc]
  have hvw : s.view = t.view := by
    funext k
    simp [State.view, hv]
  simp only [State.timers, hch, hvw, hs, hq]

/-- A move of the time base by hand leaves the timers as they are. -/
@[simp] theorem State.timers_now (s : State) (n : Nat) : ({ s with now := n } : State).timers = s.timers :=
  State.timers_congr rfl rfl rfl rfl

/-! ## The move of the time base -/

@[simp] theorem State.at_now (s : State) (time : Nat) : (s.at time).now = max s.now time := rfl

/-- Nothing is overdue where every running timer is in time. -/
theorem State.overdue_of_inTime {s : State} {time : Nat} (h : s.InTime time) : s.overdue (max s.now time) = [] := by
  have : s.timers.filter (fun x => decide (x.expiry + 1 < max s.now time)) = [] := by
    rw [List.filter_eq_nil_iff]
    intro x hx
    have := h x hx
    simp only [decide_eq_true_eq]
    omega
  rw [State.overdue, this]
  rfl

/-- Where every running timer is in time, only the time base moves. -/
theorem State.at_of_inTime {s : State} {time : Nat} (h : s.InTime time) : s.at time = { s with now := max s.now time } := by
  simp [State.at, State.overdue_of_inTime h]

/-- A moment that is past already takes nothing from a state in time. -/
theorem State.InTime.mono {s : State} {time later : Nat} (h : s.InTime later) (ht : time ≤ later) : s.InTime time :=
  fun x hx => le_trans (max_le_max le_rfl ht) (h x hx)

end Sys2Proof.Machine
end

