-- ==== Sys2Proof/Laws/Frame.lean ====
section
/-! SUPPORT. What each shared operation leaves alone: one lemma for each, naming every part of the state that it keeps. A
part that is not named may change. -/

namespace Sys2Proof.Machine

/-! ## Writers -/

@[simp] theorem State.setChannel_frame (s : State) (b : Bus) (c : BusChannel) :
    (State.setChannel s b c).now = s.now ∧ (State.setChannel s b c).pending = s.pending ∧
    (State.setChannel s b c).events = s.events ∧ (State.setChannel s b c).pool = s.pool ∧
    (State.setChannel s b c).injection = s.injection ∧ (State.setChannel s b c).views = s.views ∧
    (State.setChannel s b c).capture = s.capture ∧ (State.setChannel s b c).ring = s.ring ∧
    (State.setChannel s b c).banks = s.banks ∧ (State.setChannel s b c).management = s.management ∧
    (State.setChannel s b c).handed = s.handed := by
  simp [State.setChannel]

@[simp] theorem State.modChannel_frame (s : State) (b : Bus) (f : BusChannel → BusChannel) :
    (State.modChannel s b f).now = s.now ∧ (State.modChannel s b f).pending = s.pending ∧
    (State.modChannel s b f).events = s.events ∧ (State.modChannel s b f).pool = s.pool ∧
    (State.modChannel s b f).injection = s.injection ∧ (State.modChannel s b f).views = s.views ∧
    (State.modChannel s b f).capture = s.capture ∧ (State.modChannel s b f).ring = s.ring ∧
    (State.modChannel s b f).banks = s.banks ∧ (State.modChannel s b f).management = s.management ∧
    (State.modChannel s b f).handed = s.handed := by
  simp [State.modChannel, State.setChannel]

@[simp] theorem State.setEntry_frame (s : State) (i : EventIx) (e : Option Event) :
    (State.setEntry s i e).now = s.now ∧ (State.setEntry s i e).pending = s.pending ∧
    (State.setEntry s i e).channels = s.channels ∧
    (State.setEntry s i e).events.openCounter = s.events.openCounter ∧
    (State.setEntry s i e).events.closeCounter = s.events.closeCounter ∧
    (State.setEntry s i e).events.waitCounter = s.events.waitCounter ∧ (State.setEntry s i e).pool = s.pool ∧
    (State.setEntry s i e).injection = s.injection ∧ (State.setEntry s i e).views = s.views ∧
    (State.setEntry s i e).capture = s.capture ∧ (State.setEntry s i e).ring = s.ring ∧
    (State.setEntry s i e).banks = s.banks ∧ (State.setEntry s i e).management = s.management ∧
    (State.setEntry s i e).handed = s.handed := by
  simp [State.setEntry]

@[simp] theorem State.setRelease_frame (s : State) (r : ReleaseIx) (x : Option Release) :
    (State.setRelease s r x).now = s.now ∧ (State.setRelease s r x).pending = s.pending ∧
    (State.setRelease s r x).channels = s.channels ∧ (State.setRelease s r x).events = s.events ∧
    (State.setRelease s r x).pool.budget = s.pool.budget ∧ (State.setRelease s r x).pool.free = s.pool.free ∧
    (State.setRelease s r x).pool.drawn = s.pool.drawn ∧
    (State.setRelease s r x).pool.grantQueue = s.pool.grantQueue ∧
    (State.setRelease s r x).pool.creationCounter = s.pool.creationCounter ∧
    (State.setRelease s r x).pool.storeState = s.pool.storeState ∧
    (State.setRelease s r x).pool.inEffect = s.pool.inEffect ∧
    (State.setRelease s r x).pool.storeSilence = s.pool.storeSilence ∧
    (State.setRelease s r x).pool.storeBaseline = s.pool.storeBaseline ∧
    (State.setRelease s r x).pool.charger = s.pool.charger ∧
    (State.setRelease s r x).pool.chargerFault = s.pool.chargerFault ∧
    (State.setRelease s r x).pool.staleStore = s.pool.staleStore ∧
    (State.setRelease s r x).pool.passDue = s.pool.passDue ∧ (State.setRelease s r x).injection = s.injection ∧
    (State.setRelease s r x).views = s.views ∧ (State.setRelease s r x).capture = s.capture ∧
    (State.setRelease s r x).ring = s.ring ∧ (State.setRelease s r x).banks = s.banks ∧
    (State.setRelease s r x).management = s.management ∧ (State.setRelease s r x).handed = s.handed := by
  simp [State.setRelease]

@[simp] theorem State.setView_frame (s : State) (k : Station) (v : StackView) :
    (State.setView s k v).now = s.now ∧ (State.setView s k v).pending = s.pending ∧
    (State.setView s k v).channels = s.channels ∧ (State.setView s k v).events = s.events ∧
    (State.setView s k v).pool = s.pool ∧ (State.setView s k v).injection = s.injection ∧
    (State.setView s k v).capture = s.capture ∧ (State.setView s k v).ring = s.ring ∧
    (State.setView s k v).banks = s.banks ∧ (State.setView s k v).management = s.management ∧
    (State.setView s k v).handed = s.handed := by
  simp [State.setView]

@[simp] theorem State.modView_frame (s : State) (k : Station) (f : StackView → StackView) :
    (State.modView s k f).now = s.now ∧ (State.modView s k f).pending = s.pending ∧
    (State.modView s k f).channels = s.channels ∧ (State.modView s k f).events = s.events ∧
    (State.modView s k f).pool = s.pool ∧ (State.modView s k f).injection = s.injection ∧
    (State.modView s k f).capture = s.capture ∧ (State.modView s k f).ring = s.ring ∧
    (State.modView s k f).banks = s.banks ∧ (State.modView s k f).management = s.management ∧
    (State.modView s k f).handed = s.handed := by
  simp [State.modView, State.setView]

@[simp] theorem State.setRecord_frame (s : State) (k : Station) (x : StackRecord) :
    (State.setRecord s k x).now = s.now ∧ (State.setRecord s k x).pending = s.pending ∧
    (State.setRecord s k x).channels = s.channels ∧ (State.setRecord s k x).events = s.events ∧
    (State.setRecord s k x).pool = s.pool ∧ (State.setRecord s k x).injection.rates = s.injection.rates ∧
    (State.setRecord s k x).views = s.views ∧ (State.setRecord s k x).capture = s.capture ∧
    (State.setRecord s k x).ring = s.ring ∧ (State.setRecord s k x).banks = s.banks ∧
    (State.setRecord s k x).management = s.management ∧ (State.setRecord s k x).handed = s.handed := by
  simp [State.setRecord]

@[simp] theorem State.modRecord_frame (s : State) (k : Station) (f : StackRecord → StackRecord) :
    (State.modRecord s k f).now = s.now ∧ (State.modRecord s k f).pending = s.pending ∧
    (State.modRecord s k f).channels = s.channels ∧ (State.modRecord s k f).events = s.events ∧
    (State.modRecord s k f).pool = s.pool ∧ (State.modRecord s k f).injection.rates = s.injection.rates ∧
    (State.modRecord s k f).views = s.views ∧ (State.modRecord s k f).capture = s.capture ∧
    (State.modRecord s k f).ring = s.ring ∧ (State.modRecord s k f).banks = s.banks ∧
    (State.modRecord s k f).management = s.management ∧ (State.modRecord s k f).handed = s.handed := by
  simp [State.modRecord, State.setRecord]

@[simp] theorem State.setRate_frame (s : State) (i : EventIx) (x : Option Nat) :
    (State.setRate s i x).now = s.now ∧ (State.setRate s i x).pending = s.pending ∧
    (State.setRate s i x).channels = s.channels ∧ (State.setRate s i x).events = s.events ∧
    (State.setRate s i x).pool = s.pool ∧ (State.setRate s i x).injection.records = s.injection.records ∧
    (State.setRate s i x).views = s.views ∧ (State.setRate s i x).capture = s.capture ∧
    (State.setRate s i x).ring = s.ring ∧ (State.setRate s i x).banks = s.banks ∧
    (State.setRate s i x).management = s.management ∧ (State.setRate s i x).handed = s.handed := by
  simp [State.setRate]

@[simp] theorem State.setRecorder_frame (s : State) (k : CaptureIx) (c : CaptureChannel) :
    (State.setRecorder s k c).now = s.now ∧ (State.setRecorder s k c).pending = s.pending ∧
    (State.setRecorder s k c).channels = s.channels ∧ (State.setRecorder s k c).events = s.events ∧
    (State.setRecorder s k c).pool = s.pool ∧ (State.setRecorder s k c).injection = s.injection ∧
    (State.setRecorder s k c).views = s.views ∧ (State.setRecorder s k c).capture.memory = s.capture.memory ∧
    (State.setRecorder s k c).ring = s.ring ∧ (State.setRecorder s k c).banks = s.banks ∧
    (State.setRecorder s k c).management = s.management ∧ (State.setRecorder s k c).handed = s.handed := by
  simp [State.setRecorder]

@[simp] theorem State.modRecorder_frame (s : State) (k : CaptureIx) (f : CaptureChannel → CaptureChannel) :
    (State.modRecorder s k f).now = s.now ∧ (State.modRecorder s k f).pending = s.pending ∧
    (State.modRecorder s k f).channels = s.channels ∧ (State.modRecorder s k f).events = s.events ∧
    (State.modRecorder s k f).pool = s.pool ∧ (State.modRecorder s k f).injection = s.injection ∧
    (State.modRecorder s k f).views = s.views ∧ (State.modRecorder s k f).capture.memory = s.capture.memory ∧
    (State.modRecorder s k f).ring = s.ring ∧ (State.modRecorder s k f).banks = s.banks ∧
    (State.modRecorder s k f).management = s.management ∧ (State.modRecorder s k f).handed = s.handed := by
  simp [State.modRecorder, State.setRecorder]

@[simp] theorem State.setStandby_frame (s : State) (b : Bank) :
    (State.setStandby s b).now = s.now ∧ (State.setStandby s b).pending = s.pending ∧
    (State.setStandby s b).channels = s.channels ∧ (State.setStandby s b).events = s.events ∧
    (State.setStandby s b).pool = s.pool ∧ (State.setStandby s b).injection = s.injection ∧
    (State.setStandby s b).views = s.views ∧ (State.setStandby s b).capture = s.capture ∧
    (State.setStandby s b).ring = s.ring ∧ (State.setStandby s b).banks.active = s.banks.active ∧
    (State.setStandby s b).management = s.management ∧ (State.setStandby s b).handed = s.handed := by
  simp [State.setStandby]

@[simp] theorem State.countPort_frame (s : State) (f : PortCounters → PortCounters) :
    (State.countPort s f).now = s.now ∧ (State.countPort s f).pending = s.pending ∧
    (State.countPort s f).channels = s.channels ∧ (State.countPort s f).events = s.events ∧
    (State.countPort s f).pool = s.pool ∧ (State.countPort s f).injection = s.injection ∧
    (State.countPort s f).views = s.views ∧ (State.countPort s f).capture = s.capture ∧
    (State.countPort s f).ring.port = s.ring.port ∧ (State.countPort s f).ring.drive = s.ring.drive ∧
    (State.countPort s f).ring.responses = s.ring.responses ∧
    (State.countPort s f).ring.transit = s.ring.transit ∧ (State.countPort s f).ring.reports = s.ring.reports ∧
    (State.countPort s f).ring.egressSequence = s.ring.egressSequence ∧ (State.countPort s f).banks = s.banks ∧
    (State.countPort s f).management = s.management ∧ (State.countPort s f).handed = s.handed := by
  simp [State.countPort]

@[simp] theorem State.modEvent_frame (s : State) (i : EventIx) (f : Event → Event) :
    (State.modEvent s i f).now = s.now ∧ (State.modEvent s i f).pending = s.pending ∧
    (State.modEvent s i f).channels = s.channels ∧
    (State.modEvent s i f).events.openCounter = s.events.openCounter ∧
    (State.modEvent s i f).events.closeCounter = s.events.closeCounter ∧
    (State.modEvent s i f).events.waitCounter = s.events.waitCounter ∧ (State.modEvent s i f).pool = s.pool ∧
    (State.modEvent s i f).injection = s.injection ∧ (State.modEvent s i f).views = s.views ∧
    (State.modEvent s i f).capture = s.capture ∧ (State.modEvent s i f).ring = s.ring ∧
    (State.modEvent s i f).banks = s.banks ∧ (State.modEvent s i f).management = s.management ∧
    (State.modEvent s i f).handed = s.handed := by
  generalize h : State.modEvent s i f = t
  unfold State.modEvent at h
  try dsimp only at h
  (repeat' split at h) <;> subst h <;> simp

@[simp] theorem State.modRelease_frame (s : State) (r : ReleaseIx) (f : Release → Release) :
    (State.modRelease s r f).now = s.now ∧ (State.modRelease s r f).pending = s.pending ∧
    (State.modRelease s r f).channels = s.channels ∧ (State.modRelease s r f).events = s.events ∧
    (State.modRelease s r f).pool.budget = s.pool.budget ∧ (State.modRelease s r f).pool.free = s.pool.free ∧
    (State.modRelease s r f).pool.drawn = s.pool.drawn ∧
    (State.modRelease s r f).pool.grantQueue = s.pool.grantQueue ∧
    (State.modRelease s r f).pool.creationCounter = s.pool.creationCounter ∧
    (State.modRelease s r f).pool.storeState = s.pool.storeState ∧
    (State.modRelease s r f).pool.inEffect = s.pool.inEffect ∧
    (State.modRelease s r f).pool.storeSilence = s.pool.storeSilence ∧
    (State.modRelease s r f).pool.storeBaseline = s.pool.storeBaseline ∧
    (State.modRelease s r f).pool.charger = s.pool.charger ∧
    (State.modRelease s r f).pool.chargerFault = s.pool.chargerFault ∧
    (State.modRelease s r f).pool.staleStore = s.pool.staleStore ∧
    (State.modRelease s r f).pool.passDue = s.pool.passDue ∧ (State.modRelease s r f).injection = s.injection ∧
    (State.modRelease s r f).views = s.views ∧ (State.modRelease s r f).capture = s.capture ∧
    (State.modRelease s r f).ring = s.ring ∧ (State.modRelease s r f).banks = s.banks ∧
    (State.modRelease s r f).management = s.management ∧ (State.modRelease s r f).handed = s.handed := by
  generalize h : State.modRelease s r f = t
  unfold State.modRelease at h
  try dsimp only at h
  (repeat' split at h) <;> subst h <;> simp

@[simp] theorem State.countBus_frame (s : State) (b : Bus) (f : BusCounters → BusCounters) :
    (State.countBus s b f).now = s.now ∧ (State.countBus s b f).pending = s.pending ∧
    (State.countBus s b f).events = s.events ∧ (State.countBus s b f).pool = s.pool ∧
    (State.countBus s b f).injection = s.injection ∧ (State.countBus s b f).views = s.views ∧
    (State.countBus s b f).capture = s.capture ∧ (State.countBus s b f).ring = s.ring ∧
    (State.countBus s b f).banks = s.banks ∧ (State.countBus s b f).management = s.management ∧
    (State.countBus s b f).handed = s.handed := by
  generalize h : State.countBus s b f = t
  unfold State.countBus at h
  try dsimp only at h
  subst h; simp

@[simp] theorem State.addAlarm_frame (s : State) (b : Bus) (a : BusAlarm) :
    (State.addAlarm s b a).now = s.now ∧ (State.addAlarm s b a).pending = s.pending ∧
    (State.addAlarm s b a).events = s.events ∧ (State.addAlarm s b a).pool = s.pool ∧
    (State.addAlarm s b a).injection = s.injection ∧ (State.addAlarm s b a).views = s.views ∧
    (State.addAlarm s b a).capture = s.capture ∧ (State.addAlarm s b a).ring = s.ring ∧
    (State.addAlarm s b a).banks = s.banks ∧ (State.addAlarm s b a).management = s.management ∧
    (State.addAlarm s b a).handed = s.handed := by
  generalize h : State.addAlarm s b a = t
  unfold State.addAlarm at h
  try dsimp only at h
  subst h; simp

@[simp] theorem State.addMark_frame (s : State) (i : EventIx) (m : Mark) :
    (State.addMark s i m).now = s.now ∧ (State.addMark s i m).pending = s.pending ∧
    (State.addMark s i m).channels = s.channels ∧
    (State.addMark s i m).events.openCounter = s.events.openCounter ∧
    (State.addMark s i m).events.closeCounter = s.events.closeCounter ∧
    (State.addMark s i m).events.waitCounter = s.events.waitCounter ∧ (State.addMark s i m).pool = s.pool ∧
    (State.addMark s i m).injection = s.injection ∧ (State.addMark s i m).views = s.views ∧
    (State.addMark s i m).capture = s.capture ∧ (State.addMark s i m).ring = s.ring ∧
    (State.addMark s i m).banks = s.banks ∧ (State.addMark s i m).management = s.management ∧
    (State.addMark s i m).handed = s.handed := by
  generalize h : State.addMark s i m = t
  unfold State.addMark at h
  try dsimp only at h
  subst h; simp

/-! ## Egress -/

@[simp] theorem State.forgetDrawing_frame (s : State)(i : EventIx) :
    (State.forgetDrawing s i).now = s.now ∧ (State.forgetDrawing s i).pending = s.pending ∧
    (State.forgetDrawing s i).channels = s.channels ∧ (State.forgetDrawing s i).events = s.events ∧
    (State.forgetDrawing s i).pool = s.pool ∧ (State.forgetDrawing s i).injection.rates = s.injection.rates ∧
    (State.forgetDrawing s i).views = s.views ∧ (State.forgetDrawing s i).capture = s.capture ∧
    (State.forgetDrawing s i).ring = s.ring ∧ (State.forgetDrawing s i).banks = s.banks ∧
    (State.forgetDrawing s i).management = s.management ∧ (State.forgetDrawing s i).handed = s.handed := by
  generalize h : State.forgetDrawing s i = t
  unfold State.forgetDrawing at h
  try dsimp only at h
  subst h; simp

@[simp] theorem State.freeEvent_frame (s : State)(i : EventIx) :
    (State.freeEvent s i).now = s.now ∧ (State.freeEvent s i).pending = s.pending ∧
    (State.freeEvent s i).channels = s.channels ∧
    (State.freeEvent s i).events.openCounter = s.events.openCounter ∧
    (State.freeEvent s i).events.closeCounter = s.events.closeCounter ∧
    (State.freeEvent s i).events.waitCounter = s.events.waitCounter ∧
    (State.freeEvent s i).pool.budget = s.pool.budget ∧ (State.freeEvent s i).pool.free = s.pool.free ∧
    (State.freeEvent s i).pool.drawn = s.pool.drawn ∧
    (State.freeEvent s i).pool.grantQueue = s.pool.grantQueue ∧
    (State.freeEvent s i).pool.creationCounter = s.pool.creationCounter ∧
    (State.freeEvent s i).pool.storeState = s.pool.storeState ∧
    (State.freeEvent s i).pool.inEffect = s.pool.inEffect ∧
    (State.freeEvent s i).pool.storeSilence = s.pool.storeSilence ∧
    (State.freeEvent s i).pool.storeBaseline = s.pool.storeBaseline ∧
    (State.freeEvent s i).pool.charger = s.pool.charger ∧
    (State.freeEvent s i).pool.chargerFault = s.pool.chargerFault ∧
    (State.freeEvent s i).pool.staleStore = s.pool.staleStore ∧
    (State.freeEvent s i).pool.passDue = s.pool.passDue ∧ (State.freeEvent s i).views = s.views ∧
    (State.freeEvent s i).capture.memory = s.capture.memory ∧ (State.freeEvent s i).ring = s.ring ∧
    (State.freeEvent s i).banks = s.banks ∧ (State.freeEvent s i).management = s.management ∧
    (State.freeEvent s i).handed = s.handed := by
  generalize h : State.freeEvent s i = t
  unfold State.freeEvent at h
  try dsimp only at h
  subst h; simp

@[simp] theorem State.appendReport_frame (s : State)(r : Report) :
    (State.appendReport s r).now = s.now ∧ (State.appendReport s r).pending = s.pending ∧
    (State.appendReport s r).channels = s.channels ∧ (State.appendReport s r).events = s.events ∧
    (State.appendReport s r).pool = s.pool ∧ (State.appendReport s r).injection = s.injection ∧
    (State.appendReport s r).views = s.views ∧ (State.appendReport s r).capture = s.capture ∧
    (State.appendReport s r).ring.port = s.ring.port ∧ (State.appendReport s r).ring.drive = s.ring.drive ∧
    (State.appendReport s r).ring.responses = s.ring.responses ∧
    (State.appendReport s r).ring.transit = s.ring.transit ∧
    (State.appendReport s r).ring.egressSequence = s.ring.egressSequence ∧
    (State.appendReport s r).ring.counters = s.ring.counters ∧ (State.appendReport s r).banks = s.banks ∧
    (State.appendReport s r).management.requests = s.management.requests ∧
    (State.appendReport s r).management.snapshot = s.management.snapshot ∧
    (State.appendReport s r).management.reportsDropped = s.management.reportsDropped ∧
    (State.appendReport s r).handed = s.handed := by
  generalize h : State.appendReport s r = t
  unfold State.appendReport at h
  try dsimp only at h
  subst h; simp

@[simp] theorem State.queueClosed_frame (s : State)(i : EventIx) :
    (State.queueClosed s i).now = s.now ∧ (State.queueClosed s i).pending = s.pending ∧
    (State.queueClosed s i).channels = s.channels ∧
    (State.queueClosed s i).events.openCounter = s.events.openCounter ∧
    (State.queueClosed s i).events.closeCounter = s.events.closeCounter ∧
    (State.queueClosed s i).events.waitCounter = s.events.waitCounter ∧
    (State.queueClosed s i).pool.budget = s.pool.budget ∧ (State.queueClosed s i).pool.free = s.pool.free ∧
    (State.queueClosed s i).pool.drawn = s.pool.drawn ∧
    (State.queueClosed s i).pool.grantQueue = s.pool.grantQueue ∧
    (State.queueClosed s i).pool.creationCounter = s.pool.creationCounter ∧
    (State.queueClosed s i).pool.storeState = s.pool.storeState ∧
    (State.queueClosed s i).pool.inEffect = s.pool.inEffect ∧
    (State.queueClosed s i).pool.storeSilence = s.pool.storeSilence ∧
    (State.queueClosed s i).pool.storeBaseline = s.pool.storeBaseline ∧
    (State.queueClosed s i).pool.charger = s.pool.charger ∧
    (State.queueClosed s i).pool.chargerFault = s.pool.chargerFault ∧
    (State.queueClosed s i).pool.staleStore = s.pool.staleStore ∧
    (State.queueClosed s i).pool.passDue = s.pool.passDue ∧ (State.queueClosed s i).views = s.views ∧
    (State.queueClosed s i).capture.memory = s.capture.memory ∧
    (State.queueClosed s i).ring.port = s.ring.port ∧ (State.queueClosed s i).ring.drive = s.ring.drive ∧
    (State.queueClosed s i).ring.responses = s.ring.responses ∧
    (State.queueClosed s i).ring.transit = s.ring.transit ∧
    (State.queueClosed s i).ring.egressSequence = s.ring.egressSequence ∧
    (State.queueClosed s i).ring.counters = s.ring.counters ∧ (State.queueClosed s i).banks = s.banks ∧
    (State.queueClosed s i).management.requests = s.management.requests ∧
    (State.queueClosed s i).management.snapshot = s.management.snapshot ∧
    (State.queueClosed s i).management.reportsDropped = s.management.reportsDropped ∧
    (State.queueClosed s i).handed = s.handed := by
  generalize h : State.queueClosed s i = t
  unfold State.queueClosed at h
  try dsimp only at h
  (repeat' split at h) <;> subst h <;> simp

@[simp] theorem State.serveReporting_frame (s : State) :
    (State.serveReporting s).now = s.now ∧ (State.serveReporting s).pending = s.pending ∧
    (State.serveReporting s).channels = s.channels ∧
    (State.serveReporting s).events.openCounter = s.events.openCounter ∧
    (State.serveReporting s).events.closeCounter = s.events.closeCounter ∧
    (State.serveReporting s).events.waitCounter = s.events.waitCounter ∧
    (State.serveReporting s).pool.budget = s.pool.budget ∧ (State.serveReporting s).pool.free = s.pool.free ∧
    (State.serveReporting s).pool.drawn = s.pool.drawn ∧
    (State.serveReporting s).pool.grantQueue = s.pool.grantQueue ∧
    (State.serveReporting s).pool.creationCounter = s.pool.creationCounter ∧
    (State.serveReporting s).pool.storeState = s.pool.storeState ∧
    (State.serveReporting s).pool.inEffect = s.pool.inEffect ∧
    (State.serveReporting s).pool.storeSilence = s.pool.storeSilence ∧
    (State.serveReporting s).pool.storeBaseline = s.pool.storeBaseline ∧
    (State.serveReporting s).pool.charger = s.pool.charger ∧
    (State.serveReporting s).pool.chargerFault = s.pool.chargerFault ∧
    (State.serveReporting s).pool.staleStore = s.pool.staleStore ∧
    (State.serveReporting s).pool.passDue = s.pool.passDue ∧ (State.serveReporting s).views = s.views ∧
    (State.serveReporting s).capture.memory = s.capture.memory ∧
    (State.serveReporting s).ring.port = s.ring.port ∧ (State.serveReporting s).ring.drive = s.ring.drive ∧
    (State.serveReporting s).ring.responses = s.ring.responses ∧
    (State.serveReporting s).ring.transit = s.ring.transit ∧
    (State.serveReporting s).ring.egressSequence = s.ring.egressSequence ∧
    (State.serveReporting s).ring.counters = s.ring.counters ∧ (State.serveReporting s).banks = s.banks ∧
    (State.serveReporting s).management.requests = s.management.requests ∧
    (State.serveReporting s).management.snapshot = s.management.snapshot ∧
    (State.serveReporting s).management.reportsDropped = s.management.reportsDropped ∧
    (State.serveReporting s).handed = s.handed := by
  generalize h : State.serveReporting s = t
  unfold State.serveReporting at h
  try dsimp only at h
  (repeat' split at h) <;> subst h <;> simp

@[simp] theorem State.startNotices_frame (s : State)(f : EgressFrame) :
    (State.startNotices s f).now = s.now ∧ (State.startNotices s f).pending = s.pending ∧
    (State.startNotices s f).channels = s.channels ∧
    (State.startNotices s f).events.openCounter = s.events.openCounter ∧
    (State.startNotices s f).events.closeCounter = s.events.closeCounter ∧
    (State.startNotices s f).events.waitCounter = s.events.waitCounter ∧
    (State.startNotices s f).pool.budget = s.pool.budget ∧ (State.startNotices s f).pool.free = s.pool.free ∧
    (State.startNotices s f).pool.drawn = s.pool.drawn ∧
    (State.startNotices s f).pool.grantQueue = s.pool.grantQueue ∧
    (State.startNotices s f).pool.creationCounter = s.pool.creationCounter ∧
    (State.startNotices s f).pool.storeState = s.pool.storeState ∧
    (State.startNotices s f).pool.inEffect = s.pool.inEffect ∧
    (State.startNotices s f).pool.storeSilence = s.pool.storeSilence ∧
    (State.startNotices s f).pool.storeBaseline = s.pool.storeBaseline ∧
    (State.startNotices s f).pool.charger = s.pool.charger ∧
    (State.startNotices s f).pool.chargerFault = s.pool.chargerFault ∧
    (State.startNotices s f).pool.staleStore = s.pool.staleStore ∧
    (State.startNotices s f).pool.passDue = s.pool.passDue ∧
    (State.startNotices s f).capture.memory = s.capture.memory ∧
    (State.startNotices s f).ring.port = s.ring.port ∧ (State.startNotices s f).ring.drive = s.ring.drive ∧
    (State.startNotices s f).ring.responses = s.ring.responses ∧
    (State.startNotices s f).ring.transit = s.ring.transit ∧
    (State.startNotices s f).ring.egressSequence = s.ring.egressSequence ∧
    (State.startNotices s f).ring.counters = s.ring.counters ∧ (State.startNotices s f).banks = s.banks ∧
    (State.startNotices s f).management.requests = s.management.requests ∧
    (State.startNotices s f).management.snapshot = s.management.snapshot ∧
    (State.startNotices s f).management.reportsDropped = s.management.reportsDropped ∧
    (State.startNotices s f).handed = s.handed := by
  generalize h : State.startNotices s f = t
  unfold State.startNotices at h
  try dsimp only at h
  (repeat' split at h) <;> subst h <;> simp

@[simp] theorem State.kick_frame (s : State) :
    (State.kick s).now = s.now ∧ (State.kick s).pending = s.pending ∧ (State.kick s).channels = s.channels ∧
    (State.kick s).events.openCounter = s.events.openCounter ∧
    (State.kick s).events.closeCounter = s.events.closeCounter ∧
    (State.kick s).events.waitCounter = s.events.waitCounter ∧ (State.kick s).pool.budget = s.pool.budget ∧
    (State.kick s).pool.free = s.pool.free ∧ (State.kick s).pool.drawn = s.pool.drawn ∧
    (State.kick s).pool.grantQueue = s.pool.grantQueue ∧
    (State.kick s).pool.creationCounter = s.pool.creationCounter ∧
    (State.kick s).pool.storeState = s.pool.storeState ∧ (State.kick s).pool.inEffect = s.pool.inEffect ∧
    (State.kick s).pool.storeSilence = s.pool.storeSilence ∧
    (State.kick s).pool.storeBaseline = s.pool.storeBaseline ∧ (State.kick s).pool.charger = s.pool.charger ∧
    (State.kick s).pool.chargerFault = s.pool.chargerFault ∧
    (State.kick s).pool.staleStore = s.pool.staleStore ∧ (State.kick s).pool.passDue = s.pool.passDue ∧
    (State.kick s).capture.memory = s.capture.memory ∧ (State.kick s).ring.counters = s.ring.counters ∧
    (State.kick s).banks = s.banks ∧ (State.kick s).management.requests = s.management.requests ∧
    (State.kick s).management.snapshot = s.management.snapshot ∧
    (State.kick s).management.reportsDropped = s.management.reportsDropped ∧ (State.kick s).handed = s.handed := by
  generalize h : State.kick s = t
  unfold State.kick at h
  split at h
  · subst h; simp
  · split at h
    · subst h; simp
    · rename_i frame rest hc
      have hk : (rest.transmit frame).counters = s.ring.counters := by
        have h1 : rest.counters = s.ring.counters := by
          unfold Ring.choose at hc
          (repeat' split at hc) <;> first | (injection hc with hc; injection hc with _ hc; subst hc; rfl) | (exact absurd hc (by simp))
        rw [← h1]; cases frame <;> simp [Ring.transmit, Ring.number]
      subst h; simp [hk]

@[simp] theorem State.report_frame (s : State)(r : Report) :
    (State.report s r).now = s.now ∧ (State.report s r).pending = s.pending ∧
    (State.report s r).channels = s.channels ∧ (State.report s r).events.openCounter = s.events.openCounter ∧
    (State.report s r).events.closeCounter = s.events.closeCounter ∧
    (State.report s r).events.waitCounter = s.events.waitCounter ∧
    (State.report s r).pool.budget = s.pool.budget ∧ (State.report s r).pool.free = s.pool.free ∧
    (State.report s r).pool.drawn = s.pool.drawn ∧ (State.report s r).pool.grantQueue = s.pool.grantQueue ∧
    (State.report s r).pool.creationCounter = s.pool.creationCounter ∧
    (State.report s r).pool.storeState = s.pool.storeState ∧
    (State.report s r).pool.inEffect = s.pool.inEffect ∧
    (State.report s r).pool.storeSilence = s.pool.storeSilence ∧
    (State.report s r).pool.storeBaseline = s.pool.storeBaseline ∧
    (State.report s r).pool.charger = s.pool.charger ∧
    (State.report s r).pool.chargerFault = s.pool.chargerFault ∧
    (State.report s r).pool.staleStore = s.pool.staleStore ∧ (State.report s r).pool.passDue = s.pool.passDue ∧
    (State.report s r).capture.memory = s.capture.memory ∧ (State.report s r).ring.counters = s.ring.counters ∧
    (State.report s r).banks = s.banks ∧ (State.report s r).management.requests = s.management.requests ∧
    (State.report s r).management.snapshot = s.management.snapshot ∧ (State.report s r).handed = s.handed := by
  generalize h : State.report s r = t
  unfold State.report at h
  try dsimp only at h
  (repeat' split at h) <;> subst h <;> simp

@[simp] theorem State.respond_frame (s : State)(r : Response) :
    (State.respond s r).now = s.now ∧ (State.respond s r).pending = s.pending ∧
    (State.respond s r).channels = s.channels ∧ (State.respond s r).events.openCounter = s.events.openCounter ∧
    (State.respond s r).events.closeCounter = s.events.closeCounter ∧
    (State.respond s r).events.waitCounter = s.events.waitCounter ∧
    (State.respond s r).pool.budget = s.pool.budget ∧ (State.respond s r).pool.free = s.pool.free ∧
    (State.respond s r).pool.drawn = s.pool.drawn ∧ (State.respond s r).pool.grantQueue = s.pool.grantQueue ∧
    (State.respond s r).pool.creationCounter = s.pool.creationCounter ∧
    (State.respond s r).pool.storeState = s.pool.storeState ∧
    (State.respond s r).pool.inEffect = s.pool.inEffect ∧
    (State.respond s r).pool.storeSilence = s.pool.storeSilence ∧
    (State.respond s r).pool.storeBaseline = s.pool.storeBaseline ∧
    (State.respond s r).pool.charger = s.pool.charger ∧
    (State.respond s r).pool.chargerFault = s.pool.chargerFault ∧
    (State.respond s r).pool.staleStore = s.pool.staleStore ∧
    (State.respond s r).pool.passDue = s.pool.passDue ∧ (State.respond s r).capture.memory = s.capture.memory ∧
    (State.respond s r).ring.counters = s.ring.counters ∧ (State.respond s r).banks = s.banks ∧
    (State.respond s r).management.requests = s.management.requests ∧
    (State.respond s r).management.snapshot = s.management.snapshot ∧
    (State.respond s r).management.reportsDropped = s.management.reportsDropped ∧
    (State.respond s r).handed = s.handed := by
  generalize h : State.respond s r = t
  unfold State.respond at h
  try dsimp only at h
  subst h; simp

@[simp] theorem State.enqueueTransit_frame (s : State)(bytes : List Byte) :
    (State.enqueueTransit s bytes).now = s.now ∧ (State.enqueueTransit s bytes).pending = s.pending ∧
    (State.enqueueTransit s bytes).channels = s.channels ∧
    (State.enqueueTransit s bytes).events.openCounter = s.events.openCounter ∧
    (State.enqueueTransit s bytes).events.closeCounter = s.events.closeCounter ∧
    (State.enqueueTransit s bytes).events.waitCounter = s.events.waitCounter ∧
    (State.enqueueTransit s bytes).pool.budget = s.pool.budget ∧
    (State.enqueueTransit s bytes).pool.free = s.pool.free ∧
    (State.enqueueTransit s bytes).pool.drawn = s.pool.drawn ∧
    (State.enqueueTransit s bytes).pool.grantQueue = s.pool.grantQueue ∧
    (State.enqueueTransit s bytes).pool.creationCounter = s.pool.creationCounter ∧
    (State.enqueueTransit s bytes).pool.storeState = s.pool.storeState ∧
    (State.enqueueTransit s bytes).pool.inEffect = s.pool.inEffect ∧
    (State.enqueueTransit s bytes).pool.storeSilence = s.pool.storeSilence ∧
    (State.enqueueTransit s bytes).pool.storeBaseline = s.pool.storeBaseline ∧
    (State.enqueueTransit s bytes).pool.charger = s.pool.charger ∧
    (State.enqueueTransit s bytes).pool.chargerFault = s.pool.chargerFault ∧
    (State.enqueueTransit s bytes).pool.staleStore = s.pool.staleStore ∧
    (State.enqueueTransit s bytes).pool.passDue = s.pool.passDue ∧
    (State.enqueueTransit s bytes).capture.memory = s.capture.memory ∧
    (State.enqueueTransit s bytes).banks = s.banks ∧
    (State.enqueueTransit s bytes).management.requests = s.management.requests ∧
    (State.enqueueTransit s bytes).management.snapshot = s.management.snapshot ∧
    (State.enqueueTransit s bytes).management.reportsDropped = s.management.reportsDropped ∧
    (State.enqueueTransit s bytes).handed = s.handed := by
  generalize h : State.enqueueTransit s bytes = t
  unfold State.enqueueTransit at h
  try dsimp only at h
  (repeat' split at h) <;> subst h <;> simp

@[simp] theorem State.enterReporting_frame (s : State)(i : EventIx) :
    (State.enterReporting s i).now = s.now ∧ (State.enterReporting s i).pending = s.pending ∧
    (State.enterReporting s i).channels = s.channels ∧
    (State.enterReporting s i).events.openCounter = s.events.openCounter ∧
    (State.enterReporting s i).events.closeCounter = s.events.closeCounter ∧
    (State.enterReporting s i).events.waitCounter = s.events.waitCounter ∧
    (State.enterReporting s i).pool.budget = s.pool.budget ∧
    (State.enterReporting s i).pool.free = s.pool.free ∧ (State.enterReporting s i).pool.drawn = s.pool.drawn ∧
    (State.enterReporting s i).pool.grantQueue = s.pool.grantQueue ∧
    (State.enterReporting s i).pool.creationCounter = s.pool.creationCounter ∧
    (State.enterReporting s i).pool.storeState = s.pool.storeState ∧
    (State.enterReporting s i).pool.inEffect = s.pool.inEffect ∧
    (State.enterReporting s i).pool.storeSilence = s.pool.storeSilence ∧
    (State.enterReporting s i).pool.storeBaseline = s.pool.storeBaseline ∧
    (State.enterReporting s i).pool.charger = s.pool.charger ∧
    (State.enterReporting s i).pool.chargerFault = s.pool.chargerFault ∧
    (State.enterReporting s i).pool.staleStore = s.pool.staleStore ∧
    (State.enterReporting s i).pool.passDue = s.pool.passDue ∧
    (State.enterReporting s i).capture.memory = s.capture.memory ∧
    (State.enterReporting s i).ring.counters = s.ring.counters ∧ (State.enterReporting s i).banks = s.banks ∧
    (State.enterReporting s i).management.requests = s.management.requests ∧
    (State.enterReporting s i).management.snapshot = s.management.snapshot ∧
    (State.enterReporting s i).management.reportsDropped = s.management.reportsDropped ∧
    (State.enterReporting s i).handed = s.handed := by
  generalize h : State.enterReporting s i = t
  unfold State.enterReporting at h
  try dsimp only at h
  (repeat' split at h) <;> subst h <;> simp

@[simp] theorem State.placeReference_frame (s : State)(k : Station) (r : ReferencePart) :
    (State.placeReference s k r).now = s.now ∧ (State.placeReference s k r).pending = s.pending ∧
    (State.placeReference s k r).channels = s.channels ∧
    (State.placeReference s k r).events.openCounter = s.events.openCounter ∧
    (State.placeReference s k r).events.closeCounter = s.events.closeCounter ∧
    (State.placeReference s k r).events.waitCounter = s.events.waitCounter ∧
    (State.placeReference s k r).pool.budget = s.pool.budget ∧
    (State.placeReference s k r).pool.free = s.pool.free ∧
    (State.placeReference s k r).pool.drawn = s.pool.drawn ∧
    (State.placeReference s k r).pool.grantQueue = s.pool.grantQueue ∧
    (State.placeReference s k r).pool.creationCounter = s.pool.creationCounter ∧
    (State.placeReference s k r).pool.storeState = s.pool.storeState ∧
    (State.placeReference s k r).pool.inEffect = s.pool.inEffect ∧
    (State.placeReference s k r).pool.storeSilence = s.pool.storeSilence ∧
    (State.placeReference s k r).pool.storeBaseline = s.pool.storeBaseline ∧
    (State.placeReference s k r).pool.charger = s.pool.charger ∧
    (State.placeReference s k r).pool.chargerFault = s.pool.chargerFault ∧
    (State.placeReference s k r).pool.staleStore = s.pool.staleStore ∧
    (State.placeReference s k r).pool.passDue = s.pool.passDue ∧
    (State.placeReference s k r).capture.memory = s.capture.memory ∧
    (State.placeReference s k r).ring.counters = s.ring.counters ∧
    (State.placeReference s k r).banks = s.banks ∧
    (State.placeReference s k r).management.requests = s.management.requests ∧
    (State.placeReference s k r).management.snapshot = s.management.snapshot ∧
    (State.placeReference s k r).management.reportsDropped = s.management.reportsDropped ∧
    (State.placeReference s k r).handed = s.handed := by
  generalize h : State.placeReference s k r = t
  unfold State.placeReference at h
  try dsimp only at h
  subst h; simp

@[simp] theorem State.placeCommand_frame (s : State)(k : Station) (c : Command) :
    (State.placeCommand s k c).now = s.now ∧ (State.placeCommand s k c).pending = s.pending ∧
    (State.placeCommand s k c).channels = s.channels ∧
    (State.placeCommand s k c).events.openCounter = s.events.openCounter ∧
    (State.placeCommand s k c).events.closeCounter = s.events.closeCounter ∧
    (State.placeCommand s k c).events.waitCounter = s.events.waitCounter ∧
    (State.placeCommand s k c).pool.budget = s.pool.budget ∧
    (State.placeCommand s k c).pool.free = s.pool.free ∧ (State.placeCommand s k c).pool.drawn = s.pool.drawn ∧
    (State.placeCommand s k c).pool.grantQueue = s.pool.grantQueue ∧
    (State.placeCommand s k c).pool.creationCounter = s.pool.creationCounter ∧
    (State.placeCommand s k c).pool.storeState = s.pool.storeState ∧
    (State.placeCommand s k c).pool.inEffect = s.pool.inEffect ∧
    (State.placeCommand s k c).pool.storeSilence = s.pool.storeSilence ∧
    (State.placeCommand s k c).pool.storeBaseline = s.pool.storeBaseline ∧
    (State.placeCommand s k c).pool.charger = s.pool.charger ∧
    (State.placeCommand s k c).pool.chargerFault = s.pool.chargerFault ∧
    (State.placeCommand s k c).pool.staleStore = s.pool.staleStore ∧
    (State.placeCommand s k c).pool.passDue = s.pool.passDue ∧
    (State.placeCommand s k c).capture.memory = s.capture.memory ∧
    (State.placeCommand s k c).ring.counters = s.ring.counters ∧ (State.placeCommand s k c).banks = s.banks ∧
    (State.placeCommand s k c).management.requests = s.management.requests ∧
    (State.placeCommand s k c).management.snapshot = s.management.snapshot ∧
    (State.placeCommand s k c).management.reportsDropped = s.management.reportsDropped ∧
    (State.placeCommand s k c).handed = s.handed := by
  generalize h : State.placeCommand s k c = t
  unfold State.placeCommand at h
  try dsimp only at h
  subst h; simp

@[simp] theorem State.takeOutCommand_frame (s : State)(k : Station) :
    (State.takeOutCommand s k).now = s.now ∧ (State.takeOutCommand s k).pending = s.pending ∧
    (State.takeOutCommand s k).channels = s.channels ∧ (State.takeOutCommand s k).events = s.events ∧
    (State.takeOutCommand s k).pool = s.pool ∧ (State.takeOutCommand s k).injection = s.injection ∧
    (State.takeOutCommand s k).views = s.views ∧ (State.takeOutCommand s k).capture = s.capture ∧
    (State.takeOutCommand s k).ring.port = s.ring.port ∧
    (State.takeOutCommand s k).ring.responses = s.ring.responses ∧
    (State.takeOutCommand s k).ring.transit = s.ring.transit ∧
    (State.takeOutCommand s k).ring.reports = s.ring.reports ∧
    (State.takeOutCommand s k).ring.egressSequence = s.ring.egressSequence ∧
    (State.takeOutCommand s k).ring.counters = s.ring.counters ∧ (State.takeOutCommand s k).banks = s.banks ∧
    (State.takeOutCommand s k).management = s.management ∧ (State.takeOutCommand s k).handed = s.handed := by
  generalize h : State.takeOutCommand s k = t
  unfold State.takeOutCommand at h
  try dsimp only at h
  subst h; simp

/-! ## Commands -/

@[simp] theorem State.awaitOn_frame (s : State)(k : Station) (q : Seq) :
    (State.awaitOn s k q).now = s.now ∧ (State.awaitOn s k q).pending = s.pending ∧
    (State.awaitOn s k q).channels = s.channels ∧ (State.awaitOn s k q).events = s.events ∧
    (State.awaitOn s k q).pool.budget = s.pool.budget ∧ (State.awaitOn s k q).pool.free = s.pool.free ∧
    (State.awaitOn s k q).pool.drawn = s.pool.drawn ∧
    (State.awaitOn s k q).pool.grantQueue = s.pool.grantQueue ∧
    (State.awaitOn s k q).pool.creationCounter = s.pool.creationCounter ∧
    (State.awaitOn s k q).pool.storeState = s.pool.storeState ∧
    (State.awaitOn s k q).pool.inEffect = s.pool.inEffect ∧
    (State.awaitOn s k q).pool.storeSilence = s.pool.storeSilence ∧
    (State.awaitOn s k q).pool.storeBaseline = s.pool.storeBaseline ∧
    (State.awaitOn s k q).pool.charger = s.pool.charger ∧
    (State.awaitOn s k q).pool.chargerFault = s.pool.chargerFault ∧
    (State.awaitOn s k q).pool.staleStore = s.pool.staleStore ∧
    (State.awaitOn s k q).pool.passDue = s.pool.passDue ∧ (State.awaitOn s k q).injection = s.injection ∧
    (State.awaitOn s k q).views = s.views ∧ (State.awaitOn s k q).capture = s.capture ∧
    (State.awaitOn s k q).ring = s.ring ∧ (State.awaitOn s k q).banks = s.banks ∧
    (State.awaitOn s k q).management = s.management ∧ (State.awaitOn s k q).handed = s.handed := by
  generalize h : State.awaitOn s k q = t
  unfold State.awaitOn at h
  try dsimp only at h
  subst h; simp

@[simp] theorem State.queueCommand_frame (s : State)(k : Station) (c : CommandKind) :
    (State.queueCommand s k c).now = s.now ∧ (State.queueCommand s k c).pending = s.pending ∧
    (State.queueCommand s k c).channels = s.channels ∧
    (State.queueCommand s k c).events.openCounter = s.events.openCounter ∧
    (State.queueCommand s k c).events.closeCounter = s.events.closeCounter ∧
    (State.queueCommand s k c).events.waitCounter = s.events.waitCounter ∧
    (State.queueCommand s k c).pool.budget = s.pool.budget ∧
    (State.queueCommand s k c).pool.free = s.pool.free ∧ (State.queueCommand s k c).pool.drawn = s.pool.drawn ∧
    (State.queueCommand s k c).pool.grantQueue = s.pool.grantQueue ∧
    (State.queueCommand s k c).pool.creationCounter = s.pool.creationCounter ∧
    (State.queueCommand s k c).pool.storeState = s.pool.storeState ∧
    (State.queueCommand s k c).pool.inEffect = s.pool.inEffect ∧
    (State.queueCommand s k c).pool.storeSilence = s.pool.storeSilence ∧
    (State.queueCommand s k c).pool.storeBaseline = s.pool.storeBaseline ∧
    (State.queueCommand s k c).pool.charger = s.pool.charger ∧
    (State.queueCommand s k c).pool.chargerFault = s.pool.chargerFault ∧
    (State.queueCommand s k c).pool.staleStore = s.pool.staleStore ∧
    (State.queueCommand s k c).pool.passDue = s.pool.passDue ∧
    (State.queueCommand s k c).capture.memory = s.capture.memory ∧
    (State.queueCommand s k c).ring.counters = s.ring.counters ∧ (State.queueCommand s k c).banks = s.banks ∧
    (State.queueCommand s k c).management.requests = s.management.requests ∧
    (State.queueCommand s k c).management.snapshot = s.management.snapshot ∧
    (State.queueCommand s k c).management.reportsDropped = s.management.reportsDropped ∧
    (State.queueCommand s k c).handed = s.handed := by
  generalize h : State.queueCommand s k c = t
  unfold State.queueCommand at h
  try dsimp only at h
  (repeat' split at h) <;> subst h <;> simp

@[simp] theorem State.placeHeld_frame (s : State)(k : Station) :
    (State.placeHeld s k).now = s.now ∧ (State.placeHeld s k).pending = s.pending ∧
    (State.placeHeld s k).channels = s.channels ∧
    (State.placeHeld s k).events.openCounter = s.events.openCounter ∧
    (State.placeHeld s k).events.closeCounter = s.events.closeCounter ∧
    (State.placeHeld s k).events.waitCounter = s.events.waitCounter ∧
    (State.placeHeld s k).pool.budget = s.pool.budget ∧ (State.placeHeld s k).pool.free = s.pool.free ∧
    (State.placeHeld s k).pool.drawn = s.pool.drawn ∧
    (State.placeHeld s k).pool.grantQueue = s.pool.grantQueue ∧
    (State.placeHeld s k).pool.creationCounter = s.pool.creationCounter ∧
    (State.placeHeld s k).pool.storeState = s.pool.storeState ∧
    (State.placeHeld s k).pool.inEffect = s.pool.inEffect ∧
    (State.placeHeld s k).pool.storeSilence = s.pool.storeSilence ∧
    (State.placeHeld s k).pool.storeBaseline = s.pool.storeBaseline ∧
    (State.placeHeld s k).pool.charger = s.pool.charger ∧
    (State.placeHeld s k).pool.chargerFault = s.pool.chargerFault ∧
    (State.placeHeld s k).pool.staleStore = s.pool.staleStore ∧
    (State.placeHeld s k).pool.passDue = s.pool.passDue ∧
    (State.placeHeld s k).capture.memory = s.capture.memory ∧
    (State.placeHeld s k).ring.counters = s.ring.counters ∧ (State.placeHeld s k).banks = s.banks ∧
    (State.placeHeld s k).management.requests = s.management.requests ∧
    (State.placeHeld s k).management.snapshot = s.management.snapshot ∧
    (State.placeHeld s k).management.reportsDropped = s.management.reportsDropped ∧
    (State.placeHeld s k).handed = s.handed := by
  generalize h : State.placeHeld s k = t
  unfold State.placeHeld at h
  try dsimp only at h
  (repeat' split at h) <;> subst h <;> simp

/-! ## Capture -/

@[simp] theorem State.halfTest_frame (s : State)(k : CaptureIx)(a : Nat) :
    (State.halfTest s k a).now = s.now ∧ (State.halfTest s k a).pending = s.pending ∧
    (State.halfTest s k a).channels = s.channels ∧
    (State.halfTest s k a).events.openCounter = s.events.openCounter ∧
    (State.halfTest s k a).events.closeCounter = s.events.closeCounter ∧
    (State.halfTest s k a).events.waitCounter = s.events.waitCounter ∧
    (State.halfTest s k a).pool.budget = s.pool.budget ∧ (State.halfTest s k a).pool.free = s.pool.free ∧
    (State.halfTest s k a).pool.drawn = s.pool.drawn ∧
    (State.halfTest s k a).pool.grantQueue = s.pool.grantQueue ∧
    (State.halfTest s k a).pool.creationCounter = s.pool.creationCounter ∧
    (State.halfTest s k a).pool.storeState = s.pool.storeState ∧
    (State.halfTest s k a).pool.inEffect = s.pool.inEffect ∧
    (State.halfTest s k a).pool.storeSilence = s.pool.storeSilence ∧
    (State.halfTest s k a).pool.storeBaseline = s.pool.storeBaseline ∧
    (State.halfTest s k a).pool.charger = s.pool.charger ∧
    (State.halfTest s k a).pool.chargerFault = s.pool.chargerFault ∧
    (State.halfTest s k a).pool.staleStore = s.pool.staleStore ∧
    (State.halfTest s k a).pool.passDue = s.pool.passDue ∧
    (State.halfTest s k a).capture.memory = s.capture.memory ∧
    (State.halfTest s k a).ring.counters = s.ring.counters ∧ (State.halfTest s k a).banks = s.banks ∧
    (State.halfTest s k a).management.requests = s.management.requests ∧
    (State.halfTest s k a).management.snapshot = s.management.snapshot ∧
    (State.halfTest s k a).handed = s.handed := by
  generalize h : State.halfTest s k a = t
  unfold State.halfTest at h
  try dsimp only at h
  (repeat' split at h) <;> subst h <;> simp

@[simp] theorem State.endTest_frame (s : State)(k : CaptureIx)(a : Nat) :
    (State.endTest s k a).now = s.now ∧ (State.endTest s k a).pending = s.pending ∧
    (State.endTest s k a).channels = s.channels ∧
    (State.endTest s k a).events.openCounter = s.events.openCounter ∧
    (State.endTest s k a).events.closeCounter = s.events.closeCounter ∧
    (State.endTest s k a).events.waitCounter = s.events.waitCounter ∧
    (State.endTest s k a).pool.budget = s.pool.budget ∧ (State.endTest s k a).pool.free = s.pool.free ∧
    (State.endTest s k a).pool.drawn = s.pool.drawn ∧
    (State.endTest s k a).pool.grantQueue = s.pool.grantQueue ∧
    (State.endTest s k a).pool.creationCounter = s.pool.creationCounter ∧
    (State.endTest s k a).pool.storeState = s.pool.storeState ∧
    (State.endTest s k a).pool.inEffect = s.pool.inEffect ∧
    (State.endTest s k a).pool.storeSilence = s.pool.storeSilence ∧
    (State.endTest s k a).pool.storeBaseline = s.pool.storeBaseline ∧
    (State.endTest s k a).pool.charger = s.pool.charger ∧
    (State.endTest s k a).pool.chargerFault = s.pool.chargerFault ∧
    (State.endTest s k a).pool.staleStore = s.pool.staleStore ∧
    (State.endTest s k a).pool.passDue = s.pool.passDue ∧
    (State.endTest s k a).capture.memory = s.capture.memory ∧
    (State.endTest s k a).ring.counters = s.ring.counters ∧ (State.endTest s k a).banks = s.banks ∧
    (State.endTest s k a).management.requests = s.management.requests ∧
    (State.endTest s k a).management.snapshot = s.management.snapshot ∧
    (State.endTest s k a).handed = s.handed := by
  generalize h : State.endTest s k a = t
  unfold State.endTest at h
  try dsimp only at h
  (repeat' split at h) <;> subst h <;> simp

@[simp] theorem State.writeRecord_frame (s : State)(k : CaptureIx)(kind : RecordKind) (f : AcceptedFrame) :
    (State.writeRecord s k kind f).now = s.now ∧ (State.writeRecord s k kind f).pending = s.pending ∧
    (State.writeRecord s k kind f).channels = s.channels ∧
    (State.writeRecord s k kind f).events.openCounter = s.events.openCounter ∧
    (State.writeRecord s k kind f).events.closeCounter = s.events.closeCounter ∧
    (State.writeRecord s k kind f).events.waitCounter = s.events.waitCounter ∧
    (State.writeRecord s k kind f).pool.budget = s.pool.budget ∧
    (State.writeRecord s k kind f).pool.free = s.pool.free ∧
    (State.writeRecord s k kind f).pool.drawn = s.pool.drawn ∧
    (State.writeRecord s k kind f).pool.grantQueue = s.pool.grantQueue ∧
    (State.writeRecord s k kind f).pool.creationCounter = s.pool.creationCounter ∧
    (State.writeRecord s k kind f).pool.storeState = s.pool.storeState ∧
    (State.writeRecord s k kind f).pool.inEffect = s.pool.inEffect ∧
    (State.writeRecord s k kind f).pool.storeSilence = s.pool.storeSilence ∧
    (State.writeRecord s k kind f).pool.storeBaseline = s.pool.storeBaseline ∧
    (State.writeRecord s k kind f).pool.charger = s.pool.charger ∧
    (State.writeRecord s k kind f).pool.chargerFault = s.pool.chargerFault ∧
    (State.writeRecord s k kind f).pool.staleStore = s.pool.staleStore ∧
    (State.writeRecord s k kind f).pool.passDue = s.pool.passDue ∧
    (State.writeRecord s k kind f).ring.counters = s.ring.counters ∧
    (State.writeRecord s k kind f).banks = s.banks ∧
    (State.writeRecord s k kind f).management.requests = s.management.requests ∧
    (State.writeRecord s k kind f).management.snapshot = s.management.snapshot ∧
    (State.writeRecord s k kind f).handed = s.handed := by
  generalize h : State.writeRecord s k kind f = t
  unfold State.writeRecord at h
  try dsimp only at h
  subst h; simp

@[simp] theorem State.truncatePass_frame (s : State)(k : CaptureIx) :
    (State.truncatePass s k).now = s.now ∧ (State.truncatePass s k).pending = s.pending ∧
    (State.truncatePass s k).channels = s.channels ∧
    (State.truncatePass s k).events.openCounter = s.events.openCounter ∧
    (State.truncatePass s k).events.closeCounter = s.events.closeCounter ∧
    (State.truncatePass s k).events.waitCounter = s.events.waitCounter ∧
    (State.truncatePass s k).pool = s.pool ∧ (State.truncatePass s k).injection = s.injection ∧
    (State.truncatePass s k).views = s.views ∧ (State.truncatePass s k).capture = s.capture ∧
    (State.truncatePass s k).ring = s.ring ∧ (State.truncatePass s k).banks = s.banks ∧
    (State.truncatePass s k).management = s.management ∧ (State.truncatePass s k).handed = s.handed := by
  generalize h : State.truncatePass s k = t
  unfold State.truncatePass at h
  try dsimp only at h
  (repeat' split at h) <;> subst h <;> simp

@[simp] theorem State.attachRecorder_frame (s : State)(k : CaptureIx)(i : EventIx)(f : AcceptedFrame) :
    (State.attachRecorder s k i f).now = s.now ∧ (State.attachRecorder s k i f).pending = s.pending ∧
    (State.attachRecorder s k i f).channels = s.channels ∧
    (State.attachRecorder s k i f).events.openCounter = s.events.openCounter ∧
    (State.attachRecorder s k i f).events.closeCounter = s.events.closeCounter ∧
    (State.attachRecorder s k i f).events.waitCounter = s.events.waitCounter ∧
    (State.attachRecorder s k i f).pool.budget = s.pool.budget ∧
    (State.attachRecorder s k i f).pool.free = s.pool.free ∧
    (State.attachRecorder s k i f).pool.drawn = s.pool.drawn ∧
    (State.attachRecorder s k i f).pool.grantQueue = s.pool.grantQueue ∧
    (State.attachRecorder s k i f).pool.creationCounter = s.pool.creationCounter ∧
    (State.attachRecorder s k i f).pool.storeState = s.pool.storeState ∧
    (State.attachRecorder s k i f).pool.inEffect = s.pool.inEffect ∧
    (State.attachRecorder s k i f).pool.storeSilence = s.pool.storeSilence ∧
    (State.attachRecorder s k i f).pool.storeBaseline = s.pool.storeBaseline ∧
    (State.attachRecorder s k i f).pool.charger = s.pool.charger ∧
    (State.attachRecorder s k i f).pool.chargerFault = s.pool.chargerFault ∧
    (State.attachRecorder s k i f).pool.staleStore = s.pool.staleStore ∧
    (State.attachRecorder s k i f).pool.passDue = s.pool.passDue ∧
    (State.attachRecorder s k i f).ring.counters = s.ring.counters ∧
    (State.attachRecorder s k i f).banks = s.banks ∧
    (State.attachRecorder s k i f).management.requests = s.management.requests ∧
    (State.attachRecorder s k i f).management.snapshot = s.management.snapshot ∧
    (State.attachRecorder s k i f).handed = s.handed := by
  generalize h : State.attachRecorder s k i f = t
  unfold State.attachRecorder at h
  try dsimp only at h
  subst h; simp

@[simp] theorem State.sampleOn_frame (s : State)(f : AcceptedFrame)(k : CaptureIx) :
    (State.sampleOn s f k).now = s.now ∧ (State.sampleOn s f k).pending = s.pending ∧
    (State.sampleOn s f k).channels = s.channels ∧
    (State.sampleOn s f k).events.openCounter = s.events.openCounter ∧
    (State.sampleOn s f k).events.closeCounter = s.events.closeCounter ∧
    (State.sampleOn s f k).events.waitCounter = s.events.waitCounter ∧
    (State.sampleOn s f k).pool.budget = s.pool.budget ∧ (State.sampleOn s f k).pool.free = s.pool.free ∧
    (State.sampleOn s f k).pool.drawn = s.pool.drawn ∧
    (State.sampleOn s f k).pool.grantQueue = s.pool.grantQueue ∧
    (State.sampleOn s f k).pool.creationCounter = s.pool.creationCounter ∧
    (State.sampleOn s f k).pool.storeState = s.pool.storeState ∧
    (State.sampleOn s f k).pool.inEffect = s.pool.inEffect ∧
    (State.sampleOn s f k).pool.storeSilence = s.pool.storeSilence ∧
    (State.sampleOn s f k).pool.storeBaseline = s.pool.storeBaseline ∧
    (State.sampleOn s f k).pool.charger = s.pool.charger ∧
    (State.sampleOn s f k).pool.chargerFault = s.pool.chargerFault ∧
    (State.sampleOn s f k).pool.staleStore = s.pool.staleStore ∧
    (State.sampleOn s f k).pool.passDue = s.pool.passDue ∧
    (State.sampleOn s f k).ring.counters = s.ring.counters ∧ (State.sampleOn s f k).banks = s.banks ∧
    (State.sampleOn s f k).management.requests = s.management.requests ∧
    (State.sampleOn s f k).management.snapshot = s.management.snapshot ∧
    (State.sampleOn s f k).handed = s.handed := by
  generalize h : State.sampleOn s f k = t
  unfold State.sampleOn at h
  try dsimp only at h
  (repeat' split at h) <;> subst h <;> simp

@[simp] theorem foldl_sampleOn_frame (f : AcceptedFrame) (l : List CaptureIx) (s : State) :
    (List.foldl (fun s k => State.sampleOn s f k) s l).now = s.now ∧
    (List.foldl (fun s k => State.sampleOn s f k) s l).pending = s.pending ∧
    (List.foldl (fun s k => State.sampleOn s f k) s l).channels = s.channels ∧
    (List.foldl (fun s k => State.sampleOn s f k) s l).events.openCounter = s.events.openCounter ∧
    (List.foldl (fun s k => State.sampleOn s f k) s l).events.closeCounter = s.events.closeCounter ∧
    (List.foldl (fun s k => State.sampleOn s f k) s l).events.waitCounter = s.events.waitCounter ∧
    (List.foldl (fun s k => State.sampleOn s f k) s l).pool.budget = s.pool.budget ∧
    (List.foldl (fun s k => State.sampleOn s f k) s l).pool.free = s.pool.free ∧
    (List.foldl (fun s k => State.sampleOn s f k) s l).pool.drawn = s.pool.drawn ∧
    (List.foldl (fun s k => State.sampleOn s f k) s l).pool.grantQueue = s.pool.grantQueue ∧
    (List.foldl (fun s k => State.sampleOn s f k) s l).pool.creationCounter = s.pool.creationCounter ∧
    (List.foldl (fun s k => State.sampleOn s f k) s l).pool.storeState = s.pool.storeState ∧
    (List.foldl (fun s k => State.sampleOn s f k) s l).pool.inEffect = s.pool.inEffect ∧
    (List.foldl (fun s k => State.sampleOn s f k) s l).pool.storeSilence = s.pool.storeSilence ∧
    (List.foldl (fun s k => State.sampleOn s f k) s l).pool.storeBaseline = s.pool.storeBaseline ∧
    (List.foldl (fun s k => State.sampleOn s f k) s l).pool.charger = s.pool.charger ∧
    (List.foldl (fun s k => State.sampleOn s f k) s l).pool.chargerFault = s.pool.chargerFault ∧
    (List.foldl (fun s k => State.sampleOn s f k) s l).pool.staleStore = s.pool.staleStore ∧
    (List.foldl (fun s k => State.sampleOn s f k) s l).pool.passDue = s.pool.passDue ∧
    (List.foldl (fun s k => State.sampleOn s f k) s l).ring.counters = s.ring.counters ∧
    (List.foldl (fun s k => State.sampleOn s f k) s l).banks = s.banks ∧
    (List.foldl (fun s k => State.sampleOn s f k) s l).management.requests = s.management.requests ∧
    (List.foldl (fun s k => State.sampleOn s f k) s l).management.snapshot = s.management.snapshot ∧
    (List.foldl (fun s k => State.sampleOn s f k) s l).handed = s.handed := by
  induction l generalizing s with
  | nil => simp
  | cons a l ih => simp [ih]

@[simp] theorem State.captureTakes_frame (s : State)(f : AcceptedFrame) :
    (State.captureTakes s f).now = s.now ∧ (State.captureTakes s f).pending = s.pending ∧
    (State.captureTakes s f).channels = s.channels ∧
    (State.captureTakes s f).events.openCounter = s.events.openCounter ∧
    (State.captureTakes s f).events.closeCounter = s.events.closeCounter ∧
    (State.captureTakes s f).events.waitCounter = s.events.waitCounter ∧
    (State.captureTakes s f).pool.budget = s.pool.budget ∧ (State.captureTakes s f).pool.free = s.pool.free ∧
    (State.captureTakes s f).pool.drawn = s.pool.drawn ∧
    (State.captureTakes s f).pool.grantQueue = s.pool.grantQueue ∧
    (State.captureTakes s f).pool.creationCounter = s.pool.creationCounter ∧
    (State.captureTakes s f).pool.storeState = s.pool.storeState ∧
    (State.captureTakes s f).pool.inEffect = s.pool.inEffect ∧
    (State.captureTakes s f).pool.storeSilence = s.pool.storeSilence ∧
    (State.captureTakes s f).pool.storeBaseline = s.pool.storeBaseline ∧
    (State.captureTakes s f).pool.charger = s.pool.charger ∧
    (State.captureTakes s f).pool.chargerFault = s.pool.chargerFault ∧
    (State.captureTakes s f).pool.staleStore = s.pool.staleStore ∧
    (State.captureTakes s f).pool.passDue = s.pool.passDue ∧
    (State.captureTakes s f).ring.counters = s.ring.counters ∧ (State.captureTakes s f).banks = s.banks ∧
    (State.captureTakes s f).management.requests = s.management.requests ∧
    (State.captureTakes s f).management.snapshot = s.management.snapshot ∧
    (State.captureTakes s f).handed = s.handed := by
  generalize h : State.captureTakes s f = t
  unfold State.captureTakes at h
  try dsimp only at h
  subst h; simp

@[simp] theorem foldl_captureTakes_frame  (l : List AcceptedFrame) (s : State) :
    (List.foldl State.captureTakes s l).now = s.now ∧ (List.foldl State.captureTakes s l).pending = s.pending ∧
    (List.foldl State.captureTakes s l).channels = s.channels ∧
    (List.foldl State.captureTakes s l).events.openCounter = s.events.openCounter ∧
    (List.foldl State.captureTakes s l).events.closeCounter = s.events.closeCounter ∧
    (List.foldl State.captureTakes s l).events.waitCounter = s.events.waitCounter ∧
    (List.foldl State.captureTakes s l).pool.budget = s.pool.budget ∧
    (List.foldl State.captureTakes s l).pool.free = s.pool.free ∧
    (List.foldl State.captureTakes s l).pool.drawn = s.pool.drawn ∧
    (List.foldl State.captureTakes s l).pool.grantQueue = s.pool.grantQueue ∧
    (List.foldl State.captureTakes s l).pool.creationCounter = s.pool.creationCounter ∧
    (List.foldl State.captureTakes s l).pool.storeState = s.pool.storeState ∧
    (List.foldl State.captureTakes s l).pool.inEffect = s.pool.inEffect ∧
    (List.foldl State.captureTakes s l).pool.storeSilence = s.pool.storeSilence ∧
    (List.foldl State.captureTakes s l).pool.storeBaseline = s.pool.storeBaseline ∧
    (List.foldl State.captureTakes s l).pool.charger = s.pool.charger ∧
    (List.foldl State.captureTakes s l).pool.chargerFault = s.pool.chargerFault ∧
    (List.foldl State.captureTakes s l).pool.staleStore = s.pool.staleStore ∧
    (List.foldl State.captureTakes s l).pool.passDue = s.pool.passDue ∧
    (List.foldl State.captureTakes s l).ring.counters = s.ring.counters ∧
    (List.foldl State.captureTakes s l).banks = s.banks ∧
    (List.foldl State.captureTakes s l).management.requests = s.management.requests ∧
    (List.foldl State.captureTakes s l).management.snapshot = s.management.snapshot ∧
    (List.foldl State.captureTakes s l).handed = s.handed := by
  induction l generalizing s with
  | nil => simp
  | cons a l ih => simp [ih]

@[simp] theorem State.captureCaughtUp_frame (s : State)(b : Bus) :
    (State.captureCaughtUp s b).now = s.now ∧ (State.captureCaughtUp s b).pending = s.pending ∧
    (State.captureCaughtUp s b).channels = s.channels ∧
    (State.captureCaughtUp s b).events.openCounter = s.events.openCounter ∧
    (State.captureCaughtUp s b).events.closeCounter = s.events.closeCounter ∧
    (State.captureCaughtUp s b).events.waitCounter = s.events.waitCounter ∧
    (State.captureCaughtUp s b).pool.budget = s.pool.budget ∧
    (State.captureCaughtUp s b).pool.free = s.pool.free ∧
    (State.captureCaughtUp s b).pool.drawn = s.pool.drawn ∧
    (State.captureCaughtUp s b).pool.grantQueue = s.pool.grantQueue ∧
    (State.captureCaughtUp s b).pool.creationCounter = s.pool.creationCounter ∧
    (State.captureCaughtUp s b).pool.storeState = s.pool.storeState ∧
    (State.captureCaughtUp s b).pool.inEffect = s.pool.inEffect ∧
    (State.captureCaughtUp s b).pool.storeSilence = s.pool.storeSilence ∧
    (State.captureCaughtUp s b).pool.storeBaseline = s.pool.storeBaseline ∧
    (State.captureCaughtUp s b).pool.charger = s.pool.charger ∧
    (State.captureCaughtUp s b).pool.chargerFault = s.pool.chargerFault ∧
    (State.captureCaughtUp s b).pool.staleStore = s.pool.staleStore ∧
    (State.captureCaughtUp s b).pool.passDue = s.pool.passDue ∧
    (State.captureCaughtUp s b).ring.counters = s.ring.counters ∧ (State.captureCaughtUp s b).banks = s.banks ∧
    (State.captureCaughtUp s b).management.requests = s.management.requests ∧
    (State.captureCaughtUp s b).management.snapshot = s.management.snapshot ∧
    (State.captureCaughtUp s b).handed.sense = s.handed.sense ∧
    (State.captureCaughtUp s b).handed.injection = s.handed.injection ∧
    (State.captureCaughtUp s b).handed.envelope = s.handed.envelope ∧
    (State.captureCaughtUp s b).handed.store = s.handed.store ∧
    (State.captureCaughtUp s b).handed.status = s.handed.status ∧
    (State.captureCaughtUp s b).handed.topups = s.handed.topups ∧
    (State.captureCaughtUp s b).handed.notices = s.handed.notices := by
  generalize h : State.captureCaughtUp s b = t
  unfold State.captureCaughtUp at h
  try dsimp only at h
  subst h; simp

@[simp] theorem State.captureOpening_frame (s : State)(i : EventIx)(choice : Option CaptureIx) (f : AcceptedFrame) :
    (State.captureOpening s i choice f).now = s.now ∧ (State.captureOpening s i choice f).pending = s.pending ∧
    (State.captureOpening s i choice f).channels = s.channels ∧
    (State.captureOpening s i choice f).events.openCounter = s.events.openCounter ∧
    (State.captureOpening s i choice f).events.closeCounter = s.events.closeCounter ∧
    (State.captureOpening s i choice f).events.waitCounter = s.events.waitCounter ∧
    (State.captureOpening s i choice f).pool.budget = s.pool.budget ∧
    (State.captureOpening s i choice f).pool.free = s.pool.free ∧
    (State.captureOpening s i choice f).pool.drawn = s.pool.drawn ∧
    (State.captureOpening s i choice f).pool.grantQueue = s.pool.grantQueue ∧
    (State.captureOpening s i choice f).pool.creationCounter = s.pool.creationCounter ∧
    (State.captureOpening s i choice f).pool.storeState = s.pool.storeState ∧
    (State.captureOpening s i choice f).pool.inEffect = s.pool.inEffect ∧
    (State.captureOpening s i choice f).pool.storeSilence = s.pool.storeSilence ∧
    (State.captureOpening s i choice f).pool.storeBaseline = s.pool.storeBaseline ∧
    (State.captureOpening s i choice f).pool.charger = s.pool.charger ∧
    (State.captureOpening s i choice f).pool.chargerFault = s.pool.chargerFault ∧
    (State.captureOpening s i choice f).pool.staleStore = s.pool.staleStore ∧
    (State.captureOpening s i choice f).pool.passDue = s.pool.passDue ∧
    (State.captureOpening s i choice f).ring.counters = s.ring.counters ∧
    (State.captureOpening s i choice f).banks = s.banks ∧
    (State.captureOpening s i choice f).management.requests = s.management.requests ∧
    (State.captureOpening s i choice f).management.snapshot = s.management.snapshot ∧
    (State.captureOpening s i choice f).handed.sense = s.handed.sense ∧
    (State.captureOpening s i choice f).handed.injection = s.handed.injection ∧
    (State.captureOpening s i choice f).handed.envelope = s.handed.envelope ∧
    (State.captureOpening s i choice f).handed.store = s.handed.store ∧
    (State.captureOpening s i choice f).handed.status = s.handed.status ∧
    (State.captureOpening s i choice f).handed.topups = s.handed.topups ∧
    (State.captureOpening s i choice f).handed.notices = s.handed.notices := by
  generalize h : State.captureOpening s i choice f = t
  unfold State.captureOpening at h
  try dsimp only at h
  (repeat' split at h) <;> subst h <;> simp

@[simp] theorem State.captureEnded_frame (s : State)(i : EventIx) :
    (State.captureEnded s i).now = s.now ∧ (State.captureEnded s i).pending = s.pending ∧
    (State.captureEnded s i).channels = s.channels ∧ (State.captureEnded s i).events = s.events ∧
    (State.captureEnded s i).pool = s.pool ∧ (State.captureEnded s i).injection = s.injection ∧
    (State.captureEnded s i).views = s.views ∧ (State.captureEnded s i).capture.memory = s.capture.memory ∧
    (State.captureEnded s i).ring = s.ring ∧ (State.captureEnded s i).banks = s.banks ∧
    (State.captureEnded s i).management = s.management ∧ (State.captureEnded s i).handed = s.handed := by
  generalize h : State.captureEnded s i = t
  unfold State.captureEnded at h
  try dsimp only at h
  subst h; simp

/-! ## Energy -/

@[simp] theorem State.duePass_frame (s : State) :
    (State.duePass s).now = s.now ∧ (State.duePass s).pending = s.pending ∧
    (State.duePass s).channels = s.channels ∧ (State.duePass s).events = s.events ∧
    (State.duePass s).pool.budget = s.pool.budget ∧ (State.duePass s).pool.free = s.pool.free ∧
    (State.duePass s).pool.drawn = s.pool.drawn ∧ (State.duePass s).pool.grantQueue = s.pool.grantQueue ∧
    (State.duePass s).pool.releases = s.pool.releases ∧
    (State.duePass s).pool.creationCounter = s.pool.creationCounter ∧
    (State.duePass s).pool.storeState = s.pool.storeState ∧ (State.duePass s).pool.inEffect = s.pool.inEffect ∧
    (State.duePass s).pool.storeSilence = s.pool.storeSilence ∧
    (State.duePass s).pool.storeBaseline = s.pool.storeBaseline ∧
    (State.duePass s).pool.charger = s.pool.charger ∧
    (State.duePass s).pool.chargerFault = s.pool.chargerFault ∧
    (State.duePass s).pool.staleStore = s.pool.staleStore ∧ (State.duePass s).injection = s.injection ∧
    (State.duePass s).views = s.views ∧ (State.duePass s).capture = s.capture ∧
    (State.duePass s).ring = s.ring ∧ (State.duePass s).banks = s.banks ∧
    (State.duePass s).management = s.management ∧ (State.duePass s).handed = s.handed := by
  generalize h : State.duePass s = t
  unfold State.duePass at h
  try dsimp only at h
  subst h; simp

@[simp] theorem State.addFree_frame (s : State)(n : Nat) :
    (State.addFree s n).now = s.now ∧ (State.addFree s n).pending = s.pending ∧
    (State.addFree s n).channels = s.channels ∧ (State.addFree s n).events = s.events ∧
    (State.addFree s n).pool.budget = s.pool.budget ∧ (State.addFree s n).pool.drawn = s.pool.drawn ∧
    (State.addFree s n).pool.grantQueue = s.pool.grantQueue ∧
    (State.addFree s n).pool.releases = s.pool.releases ∧
    (State.addFree s n).pool.creationCounter = s.pool.creationCounter ∧
    (State.addFree s n).pool.storeState = s.pool.storeState ∧
    (State.addFree s n).pool.inEffect = s.pool.inEffect ∧
    (State.addFree s n).pool.storeSilence = s.pool.storeSilence ∧
    (State.addFree s n).pool.storeBaseline = s.pool.storeBaseline ∧
    (State.addFree s n).pool.charger = s.pool.charger ∧
    (State.addFree s n).pool.chargerFault = s.pool.chargerFault ∧
    (State.addFree s n).pool.staleStore = s.pool.staleStore ∧ (State.addFree s n).injection = s.injection ∧
    (State.addFree s n).views = s.views ∧ (State.addFree s n).capture = s.capture ∧
    (State.addFree s n).ring = s.ring ∧ (State.addFree s n).banks = s.banks ∧
    (State.addFree s n).management = s.management ∧ (State.addFree s n).handed = s.handed := by
  generalize h : State.addFree s n = t
  unfold State.addFree at h
  try dsimp only at h
  subst h; simp

@[simp] theorem State.putRecounted_frame (s : State)(i : EventIx)(e : Event) :
    (State.putRecounted s i e).now = s.now ∧ (State.putRecounted s i e).pending = s.pending ∧
    (State.putRecounted s i e).channels = s.channels ∧
    (State.putRecounted s i e).events.openCounter = s.events.openCounter ∧
    (State.putRecounted s i e).events.closeCounter = s.events.closeCounter ∧
    (State.putRecounted s i e).events.waitCounter = s.events.waitCounter ∧
    (State.putRecounted s i e).pool.budget = s.pool.budget ∧
    (State.putRecounted s i e).pool.free = s.pool.free ∧
    (State.putRecounted s i e).pool.grantQueue = s.pool.grantQueue ∧
    (State.putRecounted s i e).pool.releases = s.pool.releases ∧
    (State.putRecounted s i e).pool.creationCounter = s.pool.creationCounter ∧
    (State.putRecounted s i e).pool.storeState = s.pool.storeState ∧
    (State.putRecounted s i e).pool.inEffect = s.pool.inEffect ∧
    (State.putRecounted s i e).pool.storeSilence = s.pool.storeSilence ∧
    (State.putRecounted s i e).pool.storeBaseline = s.pool.storeBaseline ∧
    (State.putRecounted s i e).pool.charger = s.pool.charger ∧
    (State.putRecounted s i e).pool.chargerFault = s.pool.chargerFault ∧
    (State.putRecounted s i e).pool.staleStore = s.pool.staleStore ∧
    (State.putRecounted s i e).pool.passDue = s.pool.passDue ∧
    (State.putRecounted s i e).injection = s.injection ∧ (State.putRecounted s i e).views = s.views ∧
    (State.putRecounted s i e).capture = s.capture ∧ (State.putRecounted s i e).ring = s.ring ∧
    (State.putRecounted s i e).banks = s.banks ∧ (State.putRecounted s i e).management = s.management ∧
    (State.putRecounted s i e).handed = s.handed := by
  generalize h : State.putRecounted s i e = t
  unfold State.putRecounted at h
  try dsimp only at h
  subst h; simp

@[simp] theorem State.giveToFree_frame (s : State)(i : EventIx) :
    (State.giveToFree s i).now = s.now ∧ (State.giveToFree s i).pending = s.pending ∧
    (State.giveToFree s i).channels = s.channels ∧
    (State.giveToFree s i).events.openCounter = s.events.openCounter ∧
    (State.giveToFree s i).events.closeCounter = s.events.closeCounter ∧
    (State.giveToFree s i).events.waitCounter = s.events.waitCounter ∧
    (State.giveToFree s i).pool.budget = s.pool.budget ∧ (State.giveToFree s i).pool.drawn = s.pool.drawn ∧
    (State.giveToFree s i).pool.grantQueue = s.pool.grantQueue ∧
    (State.giveToFree s i).pool.releases = s.pool.releases ∧
    (State.giveToFree s i).pool.creationCounter = s.pool.creationCounter ∧
    (State.giveToFree s i).pool.storeState = s.pool.storeState ∧
    (State.giveToFree s i).pool.inEffect = s.pool.inEffect ∧
    (State.giveToFree s i).pool.storeSilence = s.pool.storeSilence ∧
    (State.giveToFree s i).pool.storeBaseline = s.pool.storeBaseline ∧
    (State.giveToFree s i).pool.charger = s.pool.charger ∧
    (State.giveToFree s i).pool.chargerFault = s.pool.chargerFault ∧
    (State.giveToFree s i).pool.staleStore = s.pool.staleStore ∧
    (State.giveToFree s i).injection = s.injection ∧ (State.giveToFree s i).views = s.views ∧
    (State.giveToFree s i).capture = s.capture ∧ (State.giveToFree s i).ring = s.ring ∧
    (State.giveToFree s i).banks = s.banks ∧ (State.giveToFree s i).management = s.management ∧
    (State.giveToFree s i).handed = s.handed := by
  generalize h : State.giveToFree s i = t
  unfold State.giveToFree at h
  try dsimp only at h
  (repeat' split at h) <;> subst h <;> simp

@[simp] theorem State.dropRequest_frame (s : State)(i : EventIx) :
    (State.dropRequest s i).now = s.now ∧ (State.dropRequest s i).pending = s.pending ∧
    (State.dropRequest s i).channels = s.channels ∧ (State.dropRequest s i).events = s.events ∧
    (State.dropRequest s i).pool.budget = s.pool.budget ∧ (State.dropRequest s i).pool.free = s.pool.free ∧
    (State.dropRequest s i).pool.drawn = s.pool.drawn ∧
    (State.dropRequest s i).pool.releases = s.pool.releases ∧
    (State.dropRequest s i).pool.creationCounter = s.pool.creationCounter ∧
    (State.dropRequest s i).pool.storeState = s.pool.storeState ∧
    (State.dropRequest s i).pool.inEffect = s.pool.inEffect ∧
    (State.dropRequest s i).pool.storeSilence = s.pool.storeSilence ∧
    (State.dropRequest s i).pool.storeBaseline = s.pool.storeBaseline ∧
    (State.dropRequest s i).pool.charger = s.pool.charger ∧
    (State.dropRequest s i).pool.chargerFault = s.pool.chargerFault ∧
    (State.dropRequest s i).pool.staleStore = s.pool.staleStore ∧
    (State.dropRequest s i).injection = s.injection ∧ (State.dropRequest s i).views = s.views ∧
    (State.dropRequest s i).capture = s.capture ∧ (State.dropRequest s i).ring = s.ring ∧
    (State.dropRequest s i).banks = s.banks ∧ (State.dropRequest s i).management = s.management ∧
    (State.dropRequest s i).handed = s.handed := by
  generalize h : State.dropRequest s i = t
  unfold State.dropRequest at h
  try dsimp only at h
  (repeat' split at h) <;> subst h <;> simp

@[simp] theorem State.leavePath_frame (s : State)(i : EventIx)(cause : EventOutcome) :
    (State.leavePath s i cause).now = s.now ∧ (State.leavePath s i cause).pending = s.pending ∧
    (State.leavePath s i cause).channels = s.channels ∧
    (State.leavePath s i cause).events.openCounter = s.events.openCounter ∧
    (State.leavePath s i cause).events.closeCounter = s.events.closeCounter ∧
    (State.leavePath s i cause).events.waitCounter = s.events.waitCounter ∧
    (State.leavePath s i cause).pool.budget = s.pool.budget ∧
    (State.leavePath s i cause).pool.free = s.pool.free ∧
    (State.leavePath s i cause).pool.drawn = s.pool.drawn ∧
    (State.leavePath s i cause).pool.releases = s.pool.releases ∧
    (State.leavePath s i cause).pool.creationCounter = s.pool.creationCounter ∧
    (State.leavePath s i cause).pool.storeState = s.pool.storeState ∧
    (State.leavePath s i cause).pool.inEffect = s.pool.inEffect ∧
    (State.leavePath s i cause).pool.storeSilence = s.pool.storeSilence ∧
    (State.leavePath s i cause).pool.storeBaseline = s.pool.storeBaseline ∧
    (State.leavePath s i cause).pool.charger = s.pool.charger ∧
    (State.leavePath s i cause).pool.chargerFault = s.pool.chargerFault ∧
    (State.leavePath s i cause).pool.staleStore = s.pool.staleStore ∧
    (State.leavePath s i cause).injection = s.injection ∧ (State.leavePath s i cause).views = s.views ∧
    (State.leavePath s i cause).capture = s.capture ∧ (State.leavePath s i cause).ring = s.ring ∧
    (State.leavePath s i cause).banks = s.banks ∧ (State.leavePath s i cause).management = s.management ∧
    (State.leavePath s i cause).handed = s.handed := by
  generalize h : State.leavePath s i cause = t
  unfold State.leavePath at h
  try dsimp only at h
  subst h; simp

@[simp] theorem State.bypassIdle_frame (s : State)(i : EventIx)(cause : EventOutcome) :
    (State.bypassIdle s i cause).now = s.now ∧ (State.bypassIdle s i cause).pending = s.pending ∧
    (State.bypassIdle s i cause).channels = s.channels ∧
    (State.bypassIdle s i cause).events.openCounter = s.events.openCounter ∧
    (State.bypassIdle s i cause).events.closeCounter = s.events.closeCounter ∧
    (State.bypassIdle s i cause).events.waitCounter = s.events.waitCounter ∧
    (State.bypassIdle s i cause).pool.budget = s.pool.budget ∧
    (State.bypassIdle s i cause).pool.drawn = s.pool.drawn ∧
    (State.bypassIdle s i cause).pool.releases = s.pool.releases ∧
    (State.bypassIdle s i cause).pool.creationCounter = s.pool.creationCounter ∧
    (State.bypassIdle s i cause).pool.storeState = s.pool.storeState ∧
    (State.bypassIdle s i cause).pool.inEffect = s.pool.inEffect ∧
    (State.bypassIdle s i cause).pool.storeSilence = s.pool.storeSilence ∧
    (State.bypassIdle s i cause).pool.storeBaseline = s.pool.storeBaseline ∧
    (State.bypassIdle s i cause).pool.charger = s.pool.charger ∧
    (State.bypassIdle s i cause).pool.chargerFault = s.pool.chargerFault ∧
    (State.bypassIdle s i cause).pool.staleStore = s.pool.staleStore ∧
    (State.bypassIdle s i cause).injection = s.injection ∧ (State.bypassIdle s i cause).views = s.views ∧
    (State.bypassIdle s i cause).capture = s.capture ∧ (State.bypassIdle s i cause).ring = s.ring ∧
    (State.bypassIdle s i cause).banks = s.banks ∧ (State.bypassIdle s i cause).management = s.management ∧
    (State.bypassIdle s i cause).handed = s.handed := by
  generalize h : State.bypassIdle s i cause = t
  unfold State.bypassIdle at h
  try dsimp only at h
  subst h; simp

@[simp] theorem State.enterInjecting_frame (s : State)(i : EventIx) :
    (State.enterInjecting s i).now = s.now ∧ (State.enterInjecting s i).pending = s.pending ∧
    (State.enterInjecting s i).channels = s.channels ∧
    (State.enterInjecting s i).events.openCounter = s.events.openCounter ∧
    (State.enterInjecting s i).events.closeCounter = s.events.closeCounter ∧
    (State.enterInjecting s i).events.waitCounter = s.events.waitCounter ∧
    (State.enterInjecting s i).pool.budget = s.pool.budget ∧
    (State.enterInjecting s i).pool.free = s.pool.free ∧ (State.enterInjecting s i).pool.drawn = s.pool.drawn ∧
    (State.enterInjecting s i).pool.grantQueue = s.pool.grantQueue ∧
    (State.enterInjecting s i).pool.creationCounter = s.pool.creationCounter ∧
    (State.enterInjecting s i).pool.storeState = s.pool.storeState ∧
    (State.enterInjecting s i).pool.inEffect = s.pool.inEffect ∧
    (State.enterInjecting s i).pool.storeSilence = s.pool.storeSilence ∧
    (State.enterInjecting s i).pool.storeBaseline = s.pool.storeBaseline ∧
    (State.enterInjecting s i).pool.charger = s.pool.charger ∧
    (State.enterInjecting s i).pool.chargerFault = s.pool.chargerFault ∧
    (State.enterInjecting s i).pool.staleStore = s.pool.staleStore ∧
    (State.enterInjecting s i).pool.passDue = s.pool.passDue ∧
    (State.enterInjecting s i).capture.memory = s.capture.memory ∧
    (State.enterInjecting s i).ring.counters = s.ring.counters ∧ (State.enterInjecting s i).banks = s.banks ∧
    (State.enterInjecting s i).management.requests = s.management.requests ∧
    (State.enterInjecting s i).management.snapshot = s.management.snapshot ∧
    (State.enterInjecting s i).management.reportsDropped = s.management.reportsDropped ∧
    (State.enterInjecting s i).handed = s.handed := by
  generalize h : State.enterInjecting s i = t
  unfold State.enterInjecting at h
  try dsimp only at h
  (repeat' split at h) <;> subst h <;> simp

@[simp] theorem State.leaveHeld_frame (s : State)(i : EventIx) :
    (State.leaveHeld s i).now = s.now ∧ (State.leaveHeld s i).pending = s.pending ∧
    (State.leaveHeld s i).channels = s.channels ∧
    (State.leaveHeld s i).events.openCounter = s.events.openCounter ∧
    (State.leaveHeld s i).events.closeCounter = s.events.closeCounter ∧
    (State.leaveHeld s i).events.waitCounter = s.events.waitCounter ∧
    (State.leaveHeld s i).pool.budget = s.pool.budget ∧ (State.leaveHeld s i).pool.drawn = s.pool.drawn ∧
    (State.leaveHeld s i).pool.creationCounter = s.pool.creationCounter ∧
    (State.leaveHeld s i).pool.storeState = s.pool.storeState ∧
    (State.leaveHeld s i).pool.inEffect = s.pool.inEffect ∧
    (State.leaveHeld s i).pool.storeSilence = s.pool.storeSilence ∧
    (State.leaveHeld s i).pool.storeBaseline = s.pool.storeBaseline ∧
    (State.leaveHeld s i).pool.charger = s.pool.charger ∧
    (State.leaveHeld s i).pool.chargerFault = s.pool.chargerFault ∧
    (State.leaveHeld s i).pool.staleStore = s.pool.staleStore ∧
    (State.leaveHeld s i).capture.memory = s.capture.memory ∧
    (State.leaveHeld s i).ring.counters = s.ring.counters ∧ (State.leaveHeld s i).banks = s.banks ∧
    (State.leaveHeld s i).management.requests = s.management.requests ∧
    (State.leaveHeld s i).management.snapshot = s.management.snapshot ∧
    (State.leaveHeld s i).management.reportsDropped = s.management.reportsDropped ∧
    (State.leaveHeld s i).handed = s.handed := by
  generalize h : State.leaveHeld s i = t
  unfold State.leaveHeld at h
  try dsimp only at h
  (repeat' split at h) <;> subst h <;> simp

@[simp] theorem State.freeOfStack_frame (k : Station)(s : State)(i : EventIx) :
    (State.freeOfStack k s i).now = s.now ∧ (State.freeOfStack k s i).pending = s.pending ∧
    (State.freeOfStack k s i).channels = s.channels ∧
    (State.freeOfStack k s i).events.openCounter = s.events.openCounter ∧
    (State.freeOfStack k s i).events.closeCounter = s.events.closeCounter ∧
    (State.freeOfStack k s i).events.waitCounter = s.events.waitCounter ∧
    (State.freeOfStack k s i).pool.budget = s.pool.budget ∧
    (State.freeOfStack k s i).pool.drawn = s.pool.drawn ∧
    (State.freeOfStack k s i).pool.creationCounter = s.pool.creationCounter ∧
    (State.freeOfStack k s i).pool.storeState = s.pool.storeState ∧
    (State.freeOfStack k s i).pool.inEffect = s.pool.inEffect ∧
    (State.freeOfStack k s i).pool.storeSilence = s.pool.storeSilence ∧
    (State.freeOfStack k s i).pool.storeBaseline = s.pool.storeBaseline ∧
    (State.freeOfStack k s i).pool.charger = s.pool.charger ∧
    (State.freeOfStack k s i).pool.chargerFault = s.pool.chargerFault ∧
    (State.freeOfStack k s i).pool.staleStore = s.pool.staleStore ∧
    (State.freeOfStack k s i).capture.memory = s.capture.memory ∧
    (State.freeOfStack k s i).ring.counters = s.ring.counters ∧ (State.freeOfStack k s i).banks = s.banks ∧
    (State.freeOfStack k s i).management.requests = s.management.requests ∧
    (State.freeOfStack k s i).management.snapshot = s.management.snapshot ∧
    (State.freeOfStack k s i).management.reportsDropped = s.management.reportsDropped ∧
    (State.freeOfStack k s i).handed = s.handed := by
  generalize h : State.freeOfStack k s i = t
  unfold State.freeOfStack at h
  try dsimp only at h
  (repeat' split at h) <;> subst h <;> simp

@[simp] theorem foldl_freeOfStack_frame (k : Station) (l : List EventIx) (s : State) :
    (List.foldl (State.freeOfStack k) s l).now = s.now ∧
    (List.foldl (State.freeOfStack k) s l).pending = s.pending ∧
    (List.foldl (State.freeOfStack k) s l).channels = s.channels ∧
    (List.foldl (State.freeOfStack k) s l).events.openCounter = s.events.openCounter ∧
    (List.foldl (State.freeOfStack k) s l).events.closeCounter = s.events.closeCounter ∧
    (List.foldl (State.freeOfStack k) s l).events.waitCounter = s.events.waitCounter ∧
    (List.foldl (State.freeOfStack k) s l).pool.budget = s.pool.budget ∧
    (List.foldl (State.freeOfStack k) s l).pool.drawn = s.pool.drawn ∧
    (List.foldl (State.freeOfStack k) s l).pool.creationCounter = s.pool.creationCounter ∧
    (List.foldl (State.freeOfStack k) s l).pool.storeState = s.pool.storeState ∧
    (List.foldl (State.freeOfStack k) s l).pool.inEffect = s.pool.inEffect ∧
    (List.foldl (State.freeOfStack k) s l).pool.storeSilence = s.pool.storeSilence ∧
    (List.foldl (State.freeOfStack k) s l).pool.storeBaseline = s.pool.storeBaseline ∧
    (List.foldl (State.freeOfStack k) s l).pool.charger = s.pool.charger ∧
    (List.foldl (State.freeOfStack k) s l).pool.chargerFault = s.pool.chargerFault ∧
    (List.foldl (State.freeOfStack k) s l).pool.staleStore = s.pool.staleStore ∧
    (List.foldl (State.freeOfStack k) s l).capture.memory = s.capture.memory ∧
    (List.foldl (State.freeOfStack k) s l).ring.counters = s.ring.counters ∧
    (List.foldl (State.freeOfStack k) s l).banks = s.banks ∧
    (List.foldl (State.freeOfStack k) s l).management.requests = s.management.requests ∧
    (List.foldl (State.freeOfStack k) s l).management.snapshot = s.management.snapshot ∧
    (List.foldl (State.freeOfStack k) s l).management.reportsDropped = s.management.reportsDropped ∧
    (List.foldl (State.freeOfStack k) s l).handed = s.handed := by
  induction l generalizing s with
  | nil => simp
  | cons a l ih => simp [ih]

@[simp] theorem State.availabilityCheck_frame (s : State)(k : Station) :
    (State.availabilityCheck s k).now = s.now ∧ (State.availabilityCheck s k).pending = s.pending ∧
    (State.availabilityCheck s k).channels = s.channels ∧
    (State.availabilityCheck s k).events.openCounter = s.events.openCounter ∧
    (State.availabilityCheck s k).events.closeCounter = s.events.closeCounter ∧
    (State.availabilityCheck s k).events.waitCounter = s.events.waitCounter ∧
    (State.availabilityCheck s k).pool.budget = s.pool.budget ∧
    (State.availabilityCheck s k).pool.drawn = s.pool.drawn ∧
    (State.availabilityCheck s k).pool.creationCounter = s.pool.creationCounter ∧
    (State.availabilityCheck s k).pool.storeState = s.pool.storeState ∧
    (State.availabilityCheck s k).pool.inEffect = s.pool.inEffect ∧
    (State.availabilityCheck s k).pool.storeSilence = s.pool.storeSilence ∧
    (State.availabilityCheck s k).pool.storeBaseline = s.pool.storeBaseline ∧
    (State.availabilityCheck s k).pool.charger = s.pool.charger ∧
    (State.availabilityCheck s k).pool.chargerFault = s.pool.chargerFault ∧
    (State.availabilityCheck s k).pool.staleStore = s.pool.staleStore ∧
    (State.availabilityCheck s k).capture.memory = s.capture.memory ∧
    (State.availabilityCheck s k).ring.counters = s.ring.counters ∧
    (State.availabilityCheck s k).banks = s.banks ∧
    (State.availabilityCheck s k).management.requests = s.management.requests ∧
    (State.availabilityCheck s k).management.snapshot = s.management.snapshot ∧
    (State.availabilityCheck s k).management.reportsDropped = s.management.reportsDropped ∧
    (State.availabilityCheck s k).handed = s.handed := by
  generalize h : State.availabilityCheck s k = t
  unfold State.availabilityCheck at h
  try dsimp only at h
  subst h; simp

@[simp] theorem payClaim_frame (r : ReleaseIx) (x : State × Nat) (c : ReleaseClaim) :
    (payClaim r x c).1.now = x.1.now ∧ (payClaim r x c).1.pending = x.1.pending ∧
    (payClaim r x c).1.channels = x.1.channels ∧
    (payClaim r x c).1.events.openCounter = x.1.events.openCounter ∧
    (payClaim r x c).1.events.closeCounter = x.1.events.closeCounter ∧
    (payClaim r x c).1.events.waitCounter = x.1.events.waitCounter ∧
    (payClaim r x c).1.pool.budget = x.1.pool.budget ∧ (payClaim r x c).1.pool.free = x.1.pool.free ∧
    (payClaim r x c).1.pool.grantQueue = x.1.pool.grantQueue ∧
    (payClaim r x c).1.pool.releases = x.1.pool.releases ∧
    (payClaim r x c).1.pool.creationCounter = x.1.pool.creationCounter ∧
    (payClaim r x c).1.pool.storeState = x.1.pool.storeState ∧
    (payClaim r x c).1.pool.inEffect = x.1.pool.inEffect ∧
    (payClaim r x c).1.pool.storeSilence = x.1.pool.storeSilence ∧
    (payClaim r x c).1.pool.storeBaseline = x.1.pool.storeBaseline ∧
    (payClaim r x c).1.pool.charger = x.1.pool.charger ∧
    (payClaim r x c).1.pool.chargerFault = x.1.pool.chargerFault ∧
    (payClaim r x c).1.pool.staleStore = x.1.pool.staleStore ∧
    (payClaim r x c).1.pool.passDue = x.1.pool.passDue ∧ (payClaim r x c).1.injection = x.1.injection ∧
    (payClaim r x c).1.views = x.1.views ∧ (payClaim r x c).1.capture = x.1.capture ∧
    (payClaim r x c).1.ring = x.1.ring ∧ (payClaim r x c).1.banks = x.1.banks ∧
    (payClaim r x c).1.management = x.1.management ∧ (payClaim r x c).1.handed = x.1.handed := by
  generalize h : payClaim r x c = t
  unfold payClaim at h
  split at h <;> subst h <;> simp

@[simp] theorem foldl_payClaim_frame (r : ReleaseIx) (l : List ReleaseClaim) (x : State × Nat) :
    (List.foldl (payClaim r) x l).1.now = x.1.now ∧ (List.foldl (payClaim r) x l).1.pending = x.1.pending ∧
    (List.foldl (payClaim r) x l).1.channels = x.1.channels ∧
    (List.foldl (payClaim r) x l).1.events.openCounter = x.1.events.openCounter ∧
    (List.foldl (payClaim r) x l).1.events.closeCounter = x.1.events.closeCounter ∧
    (List.foldl (payClaim r) x l).1.events.waitCounter = x.1.events.waitCounter ∧
    (List.foldl (payClaim r) x l).1.pool.budget = x.1.pool.budget ∧
    (List.foldl (payClaim r) x l).1.pool.free = x.1.pool.free ∧
    (List.foldl (payClaim r) x l).1.pool.grantQueue = x.1.pool.grantQueue ∧
    (List.foldl (payClaim r) x l).1.pool.releases = x.1.pool.releases ∧
    (List.foldl (payClaim r) x l).1.pool.creationCounter = x.1.pool.creationCounter ∧
    (List.foldl (payClaim r) x l).1.pool.storeState = x.1.pool.storeState ∧
    (List.foldl (payClaim r) x l).1.pool.inEffect = x.1.pool.inEffect ∧
    (List.foldl (payClaim r) x l).1.pool.storeSilence = x.1.pool.storeSilence ∧
    (List.foldl (payClaim r) x l).1.pool.storeBaseline = x.1.pool.storeBaseline ∧
    (List.foldl (payClaim r) x l).1.pool.charger = x.1.pool.charger ∧
    (List.foldl (payClaim r) x l).1.pool.chargerFault = x.1.pool.chargerFault ∧
    (List.foldl (payClaim r) x l).1.pool.staleStore = x.1.pool.staleStore ∧
    (List.foldl (payClaim r) x l).1.pool.passDue = x.1.pool.passDue ∧
    (List.foldl (payClaim r) x l).1.injection = x.1.injection ∧
    (List.foldl (payClaim r) x l).1.views = x.1.views ∧ (List.foldl (payClaim r) x l).1.capture = x.1.capture ∧
    (List.foldl (payClaim r) x l).1.ring = x.1.ring ∧ (List.foldl (payClaim r) x l).1.banks = x.1.banks ∧
    (List.foldl (payClaim r) x l).1.management = x.1.management ∧
    (List.foldl (payClaim r) x l).1.handed = x.1.handed := by
  induction l generalizing x with
  | nil => simp
  | cons a l ih => simp [ih]

@[simp] theorem State.payOut_frame (s : State)(r : ReleaseIx)(x : Release) :
    (State.payOut s r x).now = s.now ∧ (State.payOut s r x).pending = s.pending ∧
    (State.payOut s r x).channels = s.channels ∧
    (State.payOut s r x).events.openCounter = s.events.openCounter ∧
    (State.payOut s r x).events.closeCounter = s.events.closeCounter ∧
    (State.payOut s r x).events.waitCounter = s.events.waitCounter ∧
    (State.payOut s r x).pool.budget = s.pool.budget ∧
    (State.payOut s r x).pool.grantQueue = s.pool.grantQueue ∧
    (State.payOut s r x).pool.creationCounter = s.pool.creationCounter ∧
    (State.payOut s r x).pool.storeState = s.pool.storeState ∧
    (State.payOut s r x).pool.inEffect = s.pool.inEffect ∧
    (State.payOut s r x).pool.storeSilence = s.pool.storeSilence ∧
    (State.payOut s r x).pool.storeBaseline = s.pool.storeBaseline ∧
    (State.payOut s r x).pool.charger = s.pool.charger ∧
    (State.payOut s r x).pool.chargerFault = s.pool.chargerFault ∧
    (State.payOut s r x).pool.staleStore = s.pool.staleStore ∧ (State.payOut s r x).injection = s.injection ∧
    (State.payOut s r x).views = s.views ∧ (State.payOut s r x).capture = s.capture ∧
    (State.payOut s r x).ring = s.ring ∧ (State.payOut s r x).banks = s.banks ∧
    (State.payOut s r x).management = s.management ∧ (State.payOut s r x).handed = s.handed := by
  generalize h : State.payOut s r x = t
  unfold State.payOut at h
  try dsimp only at h
  subst h; simp

@[simp] theorem State.putNewRelease_frame (s : State)(i : EventIx)(r : ReleaseIx)(e : Event) :
    (State.putNewRelease s i r e).now = s.now ∧ (State.putNewRelease s i r e).pending = s.pending ∧
    (State.putNewRelease s i r e).channels = s.channels ∧
    (State.putNewRelease s i r e).events.openCounter = s.events.openCounter ∧
    (State.putNewRelease s i r e).events.closeCounter = s.events.closeCounter ∧
    (State.putNewRelease s i r e).events.waitCounter = s.events.waitCounter ∧
    (State.putNewRelease s i r e).pool.budget = s.pool.budget ∧
    (State.putNewRelease s i r e).pool.free = s.pool.free ∧
    (State.putNewRelease s i r e).pool.drawn = s.pool.drawn ∧
    (State.putNewRelease s i r e).pool.grantQueue = s.pool.grantQueue ∧
    (State.putNewRelease s i r e).pool.storeState = s.pool.storeState ∧
    (State.putNewRelease s i r e).pool.inEffect = s.pool.inEffect ∧
    (State.putNewRelease s i r e).pool.storeSilence = s.pool.storeSilence ∧
    (State.putNewRelease s i r e).pool.storeBaseline = s.pool.storeBaseline ∧
    (State.putNewRelease s i r e).pool.charger = s.pool.charger ∧
    (State.putNewRelease s i r e).pool.chargerFault = s.pool.chargerFault ∧
    (State.putNewRelease s i r e).pool.staleStore = s.pool.staleStore ∧
    (State.putNewRelease s i r e).pool.passDue = s.pool.passDue ∧
    (State.putNewRelease s i r e).injection.rates = s.injection.rates ∧
    (State.putNewRelease s i r e).views = s.views ∧ (State.putNewRelease s i r e).capture = s.capture ∧
    (State.putNewRelease s i r e).ring = s.ring ∧ (State.putNewRelease s i r e).banks = s.banks ∧
    (State.putNewRelease s i r e).management = s.management ∧ (State.putNewRelease s i r e).handed = s.handed := by
  generalize h : State.putNewRelease s i r e = t
  unfold State.putNewRelease at h
  try dsimp only at h
  subst h; simp

@[simp] theorem State.newRelease_frame (s : State)(i : EventIx)(r : ReleaseIx) :
    (State.newRelease s i r).now = s.now ∧ (State.newRelease s i r).pending = s.pending ∧
    (State.newRelease s i r).channels = s.channels ∧
    (State.newRelease s i r).events.openCounter = s.events.openCounter ∧
    (State.newRelease s i r).events.closeCounter = s.events.closeCounter ∧
    (State.newRelease s i r).events.waitCounter = s.events.waitCounter ∧
    (State.newRelease s i r).pool.budget = s.pool.budget ∧
    (State.newRelease s i r).pool.storeState = s.pool.storeState ∧
    (State.newRelease s i r).pool.inEffect = s.pool.inEffect ∧
    (State.newRelease s i r).pool.storeSilence = s.pool.storeSilence ∧
    (State.newRelease s i r).pool.storeBaseline = s.pool.storeBaseline ∧
    (State.newRelease s i r).pool.charger = s.pool.charger ∧
    (State.newRelease s i r).pool.chargerFault = s.pool.chargerFault ∧
    (State.newRelease s i r).pool.staleStore = s.pool.staleStore ∧
    (State.newRelease s i r).capture.memory = s.capture.memory ∧
    (State.newRelease s i r).ring.counters = s.ring.counters ∧ (State.newRelease s i r).banks = s.banks ∧
    (State.newRelease s i r).management.requests = s.management.requests ∧
    (State.newRelease s i r).management.snapshot = s.management.snapshot ∧
    (State.newRelease s i r).management.reportsDropped = s.management.reportsDropped ∧
    (State.newRelease s i r).handed = s.handed := by
  generalize h : State.newRelease s i r = t
  unfold State.newRelease at h
  try dsimp only at h
  (repeat' split at h) <;> subst h <;> simp

@[simp] theorem State.afterWait_frame (s : State)(i : EventIx) :
    (State.afterWait s i).now = s.now ∧ (State.afterWait s i).pending = s.pending ∧
    (State.afterWait s i).channels = s.channels ∧
    (State.afterWait s i).events.openCounter = s.events.openCounter ∧
    (State.afterWait s i).events.closeCounter = s.events.closeCounter ∧
    (State.afterWait s i).events.waitCounter = s.events.waitCounter ∧
    (State.afterWait s i).pool.budget = s.pool.budget ∧ (State.afterWait s i).pool.drawn = s.pool.drawn ∧
    (State.afterWait s i).pool.creationCounter = s.pool.creationCounter ∧
    (State.afterWait s i).pool.storeState = s.pool.storeState ∧
    (State.afterWait s i).pool.inEffect = s.pool.inEffect ∧
    (State.afterWait s i).pool.storeSilence = s.pool.storeSilence ∧
    (State.afterWait s i).pool.storeBaseline = s.pool.storeBaseline ∧
    (State.afterWait s i).pool.charger = s.pool.charger ∧
    (State.afterWait s i).pool.chargerFault = s.pool.chargerFault ∧
    (State.afterWait s i).pool.staleStore = s.pool.staleStore ∧
    (State.afterWait s i).capture.memory = s.capture.memory ∧
    (State.afterWait s i).ring.counters = s.ring.counters ∧ (State.afterWait s i).banks = s.banks ∧
    (State.afterWait s i).management.requests = s.management.requests ∧
    (State.afterWait s i).management.snapshot = s.management.snapshot ∧
    (State.afterWait s i).management.reportsDropped = s.management.reportsDropped ∧
    (State.afterWait s i).handed = s.handed := by
  generalize h : State.afterWait s i = t
  unfold State.afterWait at h
  try dsimp only at h
  (repeat' split at h) <;> subst h <;> simp

@[simp] theorem State.endWait_frame (s : State)(i : EventIx) :
    (State.endWait s i).now = s.now ∧ (State.endWait s i).pending = s.pending ∧
    (State.endWait s i).channels = s.channels ∧ (State.endWait s i).events.openCounter = s.events.openCounter ∧
    (State.endWait s i).events.closeCounter = s.events.closeCounter ∧
    (State.endWait s i).events.waitCounter = s.events.waitCounter ∧
    (State.endWait s i).pool.budget = s.pool.budget ∧ (State.endWait s i).pool.drawn = s.pool.drawn ∧
    (State.endWait s i).pool.creationCounter = s.pool.creationCounter ∧
    (State.endWait s i).pool.storeState = s.pool.storeState ∧
    (State.endWait s i).pool.inEffect = s.pool.inEffect ∧
    (State.endWait s i).pool.storeSilence = s.pool.storeSilence ∧
    (State.endWait s i).pool.storeBaseline = s.pool.storeBaseline ∧
    (State.endWait s i).pool.charger = s.pool.charger ∧
    (State.endWait s i).pool.chargerFault = s.pool.chargerFault ∧
    (State.endWait s i).pool.staleStore = s.pool.staleStore ∧
    (State.endWait s i).capture.memory = s.capture.memory ∧
    (State.endWait s i).ring.counters = s.ring.counters ∧ (State.endWait s i).banks = s.banks ∧
    (State.endWait s i).management.requests = s.management.requests ∧
    (State.endWait s i).management.snapshot = s.management.snapshot ∧
    (State.endWait s i).management.reportsDropped = s.management.reportsDropped ∧
    (State.endWait s i).handed = s.handed := by
  generalize h : State.endWait s i = t
  unfold State.endWait at h
  try dsimp only at h
  subst h; simp

@[simp] theorem State.endSpentWait_frame (s : State)(i : EventIx) :
    (State.endSpentWait s i).now = s.now ∧ (State.endSpentWait s i).pending = s.pending ∧
    (State.endSpentWait s i).channels = s.channels ∧
    (State.endSpentWait s i).events.openCounter = s.events.openCounter ∧
    (State.endSpentWait s i).events.closeCounter = s.events.closeCounter ∧
    (State.endSpentWait s i).events.waitCounter = s.events.waitCounter ∧
    (State.endSpentWait s i).pool.budget = s.pool.budget ∧ (State.endSpentWait s i).pool.drawn = s.pool.drawn ∧
    (State.endSpentWait s i).pool.creationCounter = s.pool.creationCounter ∧
    (State.endSpentWait s i).pool.storeState = s.pool.storeState ∧
    (State.endSpentWait s i).pool.inEffect = s.pool.inEffect ∧
    (State.endSpentWait s i).pool.storeSilence = s.pool.storeSilence ∧
    (State.endSpentWait s i).pool.storeBaseline = s.pool.storeBaseline ∧
    (State.endSpentWait s i).pool.charger = s.pool.charger ∧
    (State.endSpentWait s i).pool.chargerFault = s.pool.chargerFault ∧
    (State.endSpentWait s i).pool.staleStore = s.pool.staleStore ∧
    (State.endSpentWait s i).capture.memory = s.capture.memory ∧
    (State.endSpentWait s i).ring.counters = s.ring.counters ∧ (State.endSpentWait s i).banks = s.banks ∧
    (State.endSpentWait s i).management.requests = s.management.requests ∧
    (State.endSpentWait s i).management.snapshot = s.management.snapshot ∧
    (State.endSpentWait s i).management.reportsDropped = s.management.reportsDropped ∧
    (State.endSpentWait s i).handed = s.handed := by
  generalize h : State.endSpentWait s i = t
  unfold State.endSpentWait at h
  try dsimp only at h
  (repeat' split at h) <;> subst h <;> simp

@[simp] theorem State.offer_frame (n : Nat)(s : State) :
    (State.offer n s).now = s.now ∧ (State.offer n s).pending = s.pending ∧
    (State.offer n s).channels = s.channels ∧ (State.offer n s).events.openCounter = s.events.openCounter ∧
    (State.offer n s).events.closeCounter = s.events.closeCounter ∧
    (State.offer n s).events.waitCounter = s.events.waitCounter ∧
    (State.offer n s).pool.budget = s.pool.budget ∧ (State.offer n s).pool.storeState = s.pool.storeState ∧
    (State.offer n s).pool.inEffect = s.pool.inEffect ∧
    (State.offer n s).pool.storeSilence = s.pool.storeSilence ∧
    (State.offer n s).pool.storeBaseline = s.pool.storeBaseline ∧
    (State.offer n s).pool.charger = s.pool.charger ∧
    (State.offer n s).pool.chargerFault = s.pool.chargerFault ∧
    (State.offer n s).pool.staleStore = s.pool.staleStore ∧
    (State.offer n s).capture.memory = s.capture.memory ∧ (State.offer n s).ring.counters = s.ring.counters ∧
    (State.offer n s).banks = s.banks ∧ (State.offer n s).management.requests = s.management.requests ∧
    (State.offer n s).management.snapshot = s.management.snapshot ∧
    (State.offer n s).management.reportsDropped = s.management.reportsDropped ∧
    (State.offer n s).handed = s.handed := by
  induction n generalizing s with
  | zero => simp [State.offer]
  | succ n ih =>
    unfold State.offer
    split <;> simp [ih]

@[simp] theorem State.offerEntries_frame (s : State) :
    (State.offerEntries s).now = s.now ∧ (State.offerEntries s).pending = s.pending ∧
    (State.offerEntries s).channels = s.channels ∧
    (State.offerEntries s).events.openCounter = s.events.openCounter ∧
    (State.offerEntries s).events.closeCounter = s.events.closeCounter ∧
    (State.offerEntries s).events.waitCounter = s.events.waitCounter ∧
    (State.offerEntries s).pool.budget = s.pool.budget ∧
    (State.offerEntries s).pool.storeState = s.pool.storeState ∧
    (State.offerEntries s).pool.inEffect = s.pool.inEffect ∧
    (State.offerEntries s).pool.storeSilence = s.pool.storeSilence ∧
    (State.offerEntries s).pool.storeBaseline = s.pool.storeBaseline ∧
    (State.offerEntries s).pool.charger = s.pool.charger ∧
    (State.offerEntries s).pool.chargerFault = s.pool.chargerFault ∧
    (State.offerEntries s).pool.staleStore = s.pool.staleStore ∧
    (State.offerEntries s).capture.memory = s.capture.memory ∧
    (State.offerEntries s).ring.counters = s.ring.counters ∧ (State.offerEntries s).banks = s.banks ∧
    (State.offerEntries s).management.requests = s.management.requests ∧
    (State.offerEntries s).management.snapshot = s.management.snapshot ∧
    (State.offerEntries s).management.reportsDropped = s.management.reportsDropped ∧
    (State.offerEntries s).handed = s.handed := by
  generalize h : State.offerEntries s = t
  unfold State.offerEntries at h
  try dsimp only at h
  subst h; simp

@[simp] theorem State.beginWait_frame (s : State)(i : EventIx) :
    (State.beginWait s i).now = s.now ∧ (State.beginWait s i).pending = s.pending ∧
    (State.beginWait s i).events.openCounter = s.events.openCounter ∧
    (State.beginWait s i).events.closeCounter = s.events.closeCounter ∧
    (State.beginWait s i).pool.budget = s.pool.budget ∧ (State.beginWait s i).pool.free = s.pool.free ∧
    (State.beginWait s i).pool.drawn = s.pool.drawn ∧
    (State.beginWait s i).pool.grantQueue = s.pool.grantQueue ∧
    (State.beginWait s i).pool.creationCounter = s.pool.creationCounter ∧
    (State.beginWait s i).pool.storeState = s.pool.storeState ∧
    (State.beginWait s i).pool.inEffect = s.pool.inEffect ∧
    (State.beginWait s i).pool.storeSilence = s.pool.storeSilence ∧
    (State.beginWait s i).pool.storeBaseline = s.pool.storeBaseline ∧
    (State.beginWait s i).pool.charger = s.pool.charger ∧
    (State.beginWait s i).pool.chargerFault = s.pool.chargerFault ∧
    (State.beginWait s i).pool.staleStore = s.pool.staleStore ∧
    (State.beginWait s i).pool.passDue = s.pool.passDue ∧
    (State.beginWait s i).capture.memory = s.capture.memory ∧
    (State.beginWait s i).ring.counters = s.ring.counters ∧ (State.beginWait s i).banks = s.banks ∧
    (State.beginWait s i).management.requests = s.management.requests ∧
    (State.beginWait s i).management.snapshot = s.management.snapshot ∧
    (State.beginWait s i).management.reportsDropped = s.management.reportsDropped ∧
    (State.beginWait s i).handed = s.handed := by
  generalize h : State.beginWait s i = t
  unfold State.beginWait at h
  try dsimp only at h
  (repeat' split at h) <;> subst h <;> simp

@[simp] theorem State.dispose_frame (s : State)(i : EventIx) :
    (State.dispose s i).now = s.now ∧ (State.dispose s i).pending = s.pending ∧
    (State.dispose s i).events.openCounter = s.events.openCounter ∧
    (State.dispose s i).events.closeCounter = s.events.closeCounter ∧
    (State.dispose s i).pool.budget = s.pool.budget ∧ (State.dispose s i).pool.storeState = s.pool.storeState ∧
    (State.dispose s i).pool.inEffect = s.pool.inEffect ∧
    (State.dispose s i).pool.storeSilence = s.pool.storeSilence ∧
    (State.dispose s i).pool.storeBaseline = s.pool.storeBaseline ∧
    (State.dispose s i).pool.charger = s.pool.charger ∧
    (State.dispose s i).pool.chargerFault = s.pool.chargerFault ∧
    (State.dispose s i).pool.staleStore = s.pool.staleStore ∧
    (State.dispose s i).capture.memory = s.capture.memory ∧
    (State.dispose s i).ring.counters = s.ring.counters ∧ (State.dispose s i).banks = s.banks ∧
    (State.dispose s i).management.requests = s.management.requests ∧
    (State.dispose s i).management.snapshot = s.management.snapshot ∧
    (State.dispose s i).management.reportsDropped = s.management.reportsDropped ∧
    (State.dispose s i).handed = s.handed := by
  generalize h : State.dispose s i = t
  unfold State.dispose at h
  try dsimp only at h
  (repeat' split at h) <;> subst h <;> simp

@[simp] theorem State.bypass_frame (s : State)(i : EventIx)(cause : EventOutcome)(commanded : Bool) :
    (State.bypass s i cause commanded).now = s.now ∧ (State.bypass s i cause commanded).pending = s.pending ∧
    (State.bypass s i cause commanded).events.openCounter = s.events.openCounter ∧
    (State.bypass s i cause commanded).events.closeCounter = s.events.closeCounter ∧
    (State.bypass s i cause commanded).pool.budget = s.pool.budget ∧
    (State.bypass s i cause commanded).pool.storeState = s.pool.storeState ∧
    (State.bypass s i cause commanded).pool.inEffect = s.pool.inEffect ∧
    (State.bypass s i cause commanded).pool.storeSilence = s.pool.storeSilence ∧
    (State.bypass s i cause commanded).pool.storeBaseline = s.pool.storeBaseline ∧
    (State.bypass s i cause commanded).pool.charger = s.pool.charger ∧
    (State.bypass s i cause commanded).pool.chargerFault = s.pool.chargerFault ∧
    (State.bypass s i cause commanded).pool.staleStore = s.pool.staleStore ∧
    (State.bypass s i cause commanded).capture.memory = s.capture.memory ∧
    (State.bypass s i cause commanded).ring.counters = s.ring.counters ∧
    (State.bypass s i cause commanded).banks = s.banks ∧
    (State.bypass s i cause commanded).management.requests = s.management.requests ∧
    (State.bypass s i cause commanded).management.snapshot = s.management.snapshot ∧
    (State.bypass s i cause commanded).management.reportsDropped = s.management.reportsDropped ∧
    (State.bypass s i cause commanded).handed = s.handed := by
  generalize h : State.bypass s i cause commanded = t
  unfold State.bypass at h
  try dsimp only at h
  (repeat' split at h) <;> subst h <;> simp

@[simp] theorem State.settleBorrower_frame (s : State)(i : EventIx) :
    (State.settleBorrower s i).now = s.now ∧ (State.settleBorrower s i).pending = s.pending ∧
    (State.settleBorrower s i).channels = s.channels ∧
    (State.settleBorrower s i).events.openCounter = s.events.openCounter ∧
    (State.settleBorrower s i).events.closeCounter = s.events.closeCounter ∧
    (State.settleBorrower s i).events.waitCounter = s.events.waitCounter ∧
    (State.settleBorrower s i).pool.budget = s.pool.budget ∧
    (State.settleBorrower s i).pool.drawn = s.pool.drawn ∧
    (State.settleBorrower s i).pool.creationCounter = s.pool.creationCounter ∧
    (State.settleBorrower s i).pool.storeState = s.pool.storeState ∧
    (State.settleBorrower s i).pool.inEffect = s.pool.inEffect ∧
    (State.settleBorrower s i).pool.storeSilence = s.pool.storeSilence ∧
    (State.settleBorrower s i).pool.storeBaseline = s.pool.storeBaseline ∧
    (State.settleBorrower s i).pool.charger = s.pool.charger ∧
    (State.settleBorrower s i).pool.chargerFault = s.pool.chargerFault ∧
    (State.settleBorrower s i).pool.staleStore = s.pool.staleStore ∧
    (State.settleBorrower s i).capture.memory = s.capture.memory ∧
    (State.settleBorrower s i).ring.counters = s.ring.counters ∧ (State.settleBorrower s i).banks = s.banks ∧
    (State.settleBorrower s i).management.requests = s.management.requests ∧
    (State.settleBorrower s i).management.snapshot = s.management.snapshot ∧
    (State.settleBorrower s i).management.reportsDropped = s.management.reportsDropped ∧
    (State.settleBorrower s i).handed = s.handed := by
  generalize h : State.settleBorrower s i = t
  unfold State.settleBorrower at h
  try dsimp only at h
  (repeat' split at h) <;> subst h <;> simp

@[simp] theorem foldl_settleBorrower_frame  (l : List ReleaseClaim) (s : State) :
    (List.foldl (fun s c => State.settleBorrower s (ReleaseClaim.event c)) s l).now = s.now ∧
    (List.foldl (fun s c => State.settleBorrower s (ReleaseClaim.event c)) s l).pending = s.pending ∧
    (List.foldl (fun s c => State.settleBorrower s (ReleaseClaim.event c)) s l).channels = s.channels ∧
    (List.foldl (fun s c => State.settleBorrower s (ReleaseClaim.event c)) s l).events.openCounter = s.events.openCounter ∧
    (List.foldl (fun s c => State.settleBorrower s (ReleaseClaim.event c)) s l).events.closeCounter = s.events.closeCounter ∧
    (List.foldl (fun s c => State.settleBorrower s (ReleaseClaim.event c)) s l).events.waitCounter = s.events.waitCounter ∧
    (List.foldl (fun s c => State.settleBorrower s (ReleaseClaim.event c)) s l).pool.budget = s.pool.budget ∧
    (List.foldl (fun s c => State.settleBorrower s (ReleaseClaim.event c)) s l).pool.drawn = s.pool.drawn ∧
    (List.foldl (fun s c => State.settleBorrower s (ReleaseClaim.event c)) s l).pool.creationCounter = s.pool.creationCounter ∧
    (List.foldl (fun s c => State.settleBorrower s (ReleaseClaim.event c)) s l).pool.storeState = s.pool.storeState ∧
    (List.foldl (fun s c => State.settleBorrower s (ReleaseClaim.event c)) s l).pool.inEffect = s.pool.inEffect ∧
    (List.foldl (fun s c => State.settleBorrower s (ReleaseClaim.event c)) s l).pool.storeSilence = s.pool.storeSilence ∧
    (List.foldl (fun s c => State.settleBorrower s (ReleaseClaim.event c)) s l).pool.storeBaseline = s.pool.storeBaseline ∧
    (List.foldl (fun s c => State.settleBorrower s (ReleaseClaim.event c)) s l).pool.charger = s.pool.charger ∧
    (List.foldl (fun s c => State.settleBorrower s (ReleaseClaim.event c)) s l).pool.chargerFault = s.pool.chargerFault ∧
    (List.foldl (fun s c => State.settleBorrower s (ReleaseClaim.event c)) s l).pool.staleStore = s.pool.staleStore ∧
    (List.foldl (fun s c => State.settleBorrower s (ReleaseClaim.event c)) s l).capture.memory = s.capture.memory ∧
    (List.foldl (fun s c => State.settleBorrower s (ReleaseClaim.event c)) s l).ring.counters = s.ring.counters ∧
    (List.foldl (fun s c => State.settleBorrower s (ReleaseClaim.event c)) s l).banks = s.banks ∧
    (List.foldl (fun s c => State.settleBorrower s (ReleaseClaim.event c)) s l).management.requests = s.management.requests ∧
    (List.foldl (fun s c => State.settleBorrower s (ReleaseClaim.event c)) s l).management.snapshot = s.management.snapshot ∧
    (List.foldl (fun s c => State.settleBorrower s (ReleaseClaim.event c)) s l).management.reportsDropped = s.management.reportsDropped ∧
    (List.foldl (fun s c => State.settleBorrower s (ReleaseClaim.event c)) s l).handed = s.handed := by
  induction l generalizing s with
  | nil => simp
  | cons a l ih => simp [ih]

@[simp] theorem State.confirmRelease_frame (s : State)(r : ReleaseIx) :
    (State.confirmRelease s r).now = s.now ∧ (State.confirmRelease s r).pending = s.pending ∧
    (State.confirmRelease s r).channels = s.channels ∧
    (State.confirmRelease s r).events.openCounter = s.events.openCounter ∧
    (State.confirmRelease s r).events.closeCounter = s.events.closeCounter ∧
    (State.confirmRelease s r).events.waitCounter = s.events.waitCounter ∧
    (State.confirmRelease s r).pool.budget = s.pool.budget ∧
    (State.confirmRelease s r).pool.storeState = s.pool.storeState ∧
    (State.confirmRelease s r).pool.inEffect = s.pool.inEffect ∧
    (State.confirmRelease s r).pool.storeSilence = s.pool.storeSilence ∧
    (State.confirmRelease s r).pool.storeBaseline = s.pool.storeBaseline ∧
    (State.confirmRelease s r).pool.charger = s.pool.charger ∧
    (State.confirmRelease s r).pool.chargerFault = s.pool.chargerFault ∧
    (State.confirmRelease s r).pool.staleStore = s.pool.staleStore ∧
    (State.confirmRelease s r).capture.memory = s.capture.memory ∧
    (State.confirmRelease s r).ring.counters = s.ring.counters ∧ (State.confirmRelease s r).banks = s.banks ∧
    (State.confirmRelease s r).management.requests = s.management.requests ∧
    (State.confirmRelease s r).management.snapshot = s.management.snapshot ∧
    (State.confirmRelease s r).management.reportsDropped = s.management.reportsDropped ∧
    (State.confirmRelease s r).handed = s.handed := by
  generalize h : State.confirmRelease s r = t
  unfold State.confirmRelease at h
  try dsimp only at h
  (repeat' split at h) <;> subst h <;> simp

/-! ## Grants -/

@[simp] theorem State.enqueueRequest_frame (s : State)(i : EventIx)(e : Event) (kind : RequestKind) (amount : Nat) :
    (State.enqueueRequest s i e kind amount).now = s.now ∧
    (State.enqueueRequest s i e kind amount).pending = s.pending ∧
    (State.enqueueRequest s i e kind amount).channels = s.channels ∧
    (State.enqueueRequest s i e kind amount).events = s.events ∧
    (State.enqueueRequest s i e kind amount).pool.budget = s.pool.budget ∧
    (State.enqueueRequest s i e kind amount).pool.free = s.pool.free ∧
    (State.enqueueRequest s i e kind amount).pool.drawn = s.pool.drawn ∧
    (State.enqueueRequest s i e kind amount).pool.releases = s.pool.releases ∧
    (State.enqueueRequest s i e kind amount).pool.creationCounter = s.pool.creationCounter ∧
    (State.enqueueRequest s i e kind amount).pool.storeState = s.pool.storeState ∧
    (State.enqueueRequest s i e kind amount).pool.inEffect = s.pool.inEffect ∧
    (State.enqueueRequest s i e kind amount).pool.storeSilence = s.pool.storeSilence ∧
    (State.enqueueRequest s i e kind amount).pool.storeBaseline = s.pool.storeBaseline ∧
    (State.enqueueRequest s i e kind amount).pool.charger = s.pool.charger ∧
    (State.enqueueRequest s i e kind amount).pool.chargerFault = s.pool.chargerFault ∧
    (State.enqueueRequest s i e kind amount).pool.staleStore = s.pool.staleStore ∧
    (State.enqueueRequest s i e kind amount).injection = s.injection ∧
    (State.enqueueRequest s i e kind amount).views = s.views ∧
    (State.enqueueRequest s i e kind amount).capture = s.capture ∧
    (State.enqueueRequest s i e kind amount).ring = s.ring ∧
    (State.enqueueRequest s i e kind amount).banks = s.banks ∧
    (State.enqueueRequest s i e kind amount).management = s.management ∧
    (State.enqueueRequest s i e kind amount).handed = s.handed := by
  generalize h : State.enqueueRequest s i e kind amount = t
  unfold State.enqueueRequest at h
  try dsimp only at h
  subst h; simp

@[simp] theorem State.takeTopup_frame (s : State)(x : BroughtTopup) :
    (State.takeTopup s x).now = s.now ∧ (State.takeTopup s x).pending = s.pending ∧
    (State.takeTopup s x).channels = s.channels ∧ (State.takeTopup s x).events = s.events ∧
    (State.takeTopup s x).pool.budget = s.pool.budget ∧ (State.takeTopup s x).pool.free = s.pool.free ∧
    (State.takeTopup s x).pool.drawn = s.pool.drawn ∧ (State.takeTopup s x).pool.releases = s.pool.releases ∧
    (State.takeTopup s x).pool.creationCounter = s.pool.creationCounter ∧
    (State.takeTopup s x).pool.storeState = s.pool.storeState ∧
    (State.takeTopup s x).pool.inEffect = s.pool.inEffect ∧
    (State.takeTopup s x).pool.storeSilence = s.pool.storeSilence ∧
    (State.takeTopup s x).pool.storeBaseline = s.pool.storeBaseline ∧
    (State.takeTopup s x).pool.charger = s.pool.charger ∧
    (State.takeTopup s x).pool.chargerFault = s.pool.chargerFault ∧
    (State.takeTopup s x).pool.staleStore = s.pool.staleStore ∧ (State.takeTopup s x).injection = s.injection ∧
    (State.takeTopup s x).views = s.views ∧ (State.takeTopup s x).capture = s.capture ∧
    (State.takeTopup s x).ring = s.ring ∧ (State.takeTopup s x).banks = s.banks ∧
    (State.takeTopup s x).management = s.management ∧ (State.takeTopup s x).handed = s.handed := by
  generalize h : State.takeTopup s x = t
  unfold State.takeTopup at h
  try dsimp only at h
  (repeat' split at h) <;> subst h <;> simp

@[simp] theorem State.growClaim_frame (s : State)(i : EventIx)(r : ReleaseIx)(n : Nat) :
    (State.growClaim s i r n).now = s.now ∧ (State.growClaim s i r n).pending = s.pending ∧
    (State.growClaim s i r n).channels = s.channels ∧
    (State.growClaim s i r n).events.openCounter = s.events.openCounter ∧
    (State.growClaim s i r n).events.closeCounter = s.events.closeCounter ∧
    (State.growClaim s i r n).events.waitCounter = s.events.waitCounter ∧
    (State.growClaim s i r n).pool.budget = s.pool.budget ∧ (State.growClaim s i r n).pool.free = s.pool.free ∧
    (State.growClaim s i r n).pool.drawn = s.pool.drawn ∧
    (State.growClaim s i r n).pool.grantQueue = s.pool.grantQueue ∧
    (State.growClaim s i r n).pool.creationCounter = s.pool.creationCounter ∧
    (State.growClaim s i r n).pool.storeState = s.pool.storeState ∧
    (State.growClaim s i r n).pool.inEffect = s.pool.inEffect ∧
    (State.growClaim s i r n).pool.storeSilence = s.pool.storeSilence ∧
    (State.growClaim s i r n).pool.storeBaseline = s.pool.storeBaseline ∧
    (State.growClaim s i r n).pool.charger = s.pool.charger ∧
    (State.growClaim s i r n).pool.chargerFault = s.pool.chargerFault ∧
    (State.growClaim s i r n).pool.staleStore = s.pool.staleStore ∧
    (State.growClaim s i r n).pool.passDue = s.pool.passDue ∧
    (State.growClaim s i r n).injection = s.injection ∧ (State.growClaim s i r n).views = s.views ∧
    (State.growClaim s i r n).capture = s.capture ∧ (State.growClaim s i r n).ring = s.ring ∧
    (State.growClaim s i r n).banks = s.banks ∧ (State.growClaim s i r n).management = s.management ∧
    (State.growClaim s i r n).handed = s.handed := by
  generalize h : State.growClaim s i r n = t
  unfold State.growClaim at h
  try dsimp only at h
  subst h; simp

@[simp] theorem State.layClaims_frame (i : EventIx)(l : List (ReleaseIx × Nat)) (left : Nat)(s : State) :
    (State.layClaims i l left s).now = s.now ∧ (State.layClaims i l left s).pending = s.pending ∧
    (State.layClaims i l left s).channels = s.channels ∧
    (State.layClaims i l left s).events.openCounter = s.events.openCounter ∧
    (State.layClaims i l left s).events.closeCounter = s.events.closeCounter ∧
    (State.layClaims i l left s).events.waitCounter = s.events.waitCounter ∧
    (State.layClaims i l left s).pool.budget = s.pool.budget ∧
    (State.layClaims i l left s).pool.free = s.pool.free ∧
    (State.layClaims i l left s).pool.drawn = s.pool.drawn ∧
    (State.layClaims i l left s).pool.grantQueue = s.pool.grantQueue ∧
    (State.layClaims i l left s).pool.creationCounter = s.pool.creationCounter ∧
    (State.layClaims i l left s).pool.storeState = s.pool.storeState ∧
    (State.layClaims i l left s).pool.inEffect = s.pool.inEffect ∧
    (State.layClaims i l left s).pool.storeSilence = s.pool.storeSilence ∧
    (State.layClaims i l left s).pool.storeBaseline = s.pool.storeBaseline ∧
    (State.layClaims i l left s).pool.charger = s.pool.charger ∧
    (State.layClaims i l left s).pool.chargerFault = s.pool.chargerFault ∧
    (State.layClaims i l left s).pool.staleStore = s.pool.staleStore ∧
    (State.layClaims i l left s).pool.passDue = s.pool.passDue ∧
    (State.layClaims i l left s).injection = s.injection ∧ (State.layClaims i l left s).views = s.views ∧
    (State.layClaims i l left s).capture = s.capture ∧ (State.layClaims i l left s).ring = s.ring ∧
    (State.layClaims i l left s).banks = s.banks ∧ (State.layClaims i l left s).management = s.management ∧
    (State.layClaims i l left s).handed = s.handed := by
  induction l generalizing left s with
  | nil => simp [State.layClaims]
  | cons a l ih =>
    obtain ⟨r, n⟩ := a
    unfold State.layClaims
    split <;> simp [ih]

@[simp] theorem State.afterFirst_frame (s : State)(i : EventIx)(firm : Nat) :
    (State.afterFirst s i firm).now = s.now ∧ (State.afterFirst s i firm).pending = s.pending ∧
    (State.afterFirst s i firm).channels = s.channels ∧
    (State.afterFirst s i firm).events.openCounter = s.events.openCounter ∧
    (State.afterFirst s i firm).events.closeCounter = s.events.closeCounter ∧
    (State.afterFirst s i firm).events.waitCounter = s.events.waitCounter ∧
    (State.afterFirst s i firm).pool.budget = s.pool.budget ∧
    (State.afterFirst s i firm).pool.free = s.pool.free ∧
    (State.afterFirst s i firm).pool.drawn = s.pool.drawn ∧
    (State.afterFirst s i firm).pool.grantQueue = s.pool.grantQueue ∧
    (State.afterFirst s i firm).pool.creationCounter = s.pool.creationCounter ∧
    (State.afterFirst s i firm).pool.storeState = s.pool.storeState ∧
    (State.afterFirst s i firm).pool.inEffect = s.pool.inEffect ∧
    (State.afterFirst s i firm).pool.storeSilence = s.pool.storeSilence ∧
    (State.afterFirst s i firm).pool.storeBaseline = s.pool.storeBaseline ∧
    (State.afterFirst s i firm).pool.charger = s.pool.charger ∧
    (State.afterFirst s i firm).pool.chargerFault = s.pool.chargerFault ∧
    (State.afterFirst s i firm).pool.staleStore = s.pool.staleStore ∧
    (State.afterFirst s i firm).pool.passDue = s.pool.passDue ∧
    (State.afterFirst s i firm).capture.memory = s.capture.memory ∧
    (State.afterFirst s i firm).ring.counters = s.ring.counters ∧ (State.afterFirst s i firm).banks = s.banks ∧
    (State.afterFirst s i firm).management.requests = s.management.requests ∧
    (State.afterFirst s i firm).management.snapshot = s.management.snapshot ∧
    (State.afterFirst s i firm).management.reportsDropped = s.management.reportsDropped ∧
    (State.afterFirst s i firm).handed = s.handed := by
  generalize h : State.afterFirst s i firm = t
  unfold State.afterFirst at h
  try dsimp only at h
  (repeat' split at h) <;> subst h <;> simp

@[simp] theorem State.serve_frame (s : State)(q : GrantRequest) (amount : Nat) :
    (State.serve s q amount).now = s.now ∧ (State.serve s q amount).pending = s.pending ∧
    (State.serve s q amount).channels = s.channels ∧
    (State.serve s q amount).events.openCounter = s.events.openCounter ∧
    (State.serve s q amount).events.closeCounter = s.events.closeCounter ∧
    (State.serve s q amount).events.waitCounter = s.events.waitCounter ∧
    (State.serve s q amount).pool.budget = s.pool.budget ∧
    (State.serve s q amount).pool.creationCounter = s.pool.creationCounter ∧
    (State.serve s q amount).pool.storeState = s.pool.storeState ∧
    (State.serve s q amount).pool.inEffect = s.pool.inEffect ∧
    (State.serve s q amount).pool.storeSilence = s.pool.storeSilence ∧
    (State.serve s q amount).pool.storeBaseline = s.pool.storeBaseline ∧
    (State.serve s q amount).pool.charger = s.pool.charger ∧
    (State.serve s q amount).pool.chargerFault = s.pool.chargerFault ∧
    (State.serve s q amount).pool.staleStore = s.pool.staleStore ∧
    (State.serve s q amount).pool.passDue = s.pool.passDue ∧
    (State.serve s q amount).capture.memory = s.capture.memory ∧
    (State.serve s q amount).ring.counters = s.ring.counters ∧ (State.serve s q amount).banks = s.banks ∧
    (State.serve s q amount).management.requests = s.management.requests ∧
    (State.serve s q amount).management.snapshot = s.management.snapshot ∧
    (State.serve s q amount).management.reportsDropped = s.management.reportsDropped ∧
    (State.serve s q amount).handed = s.handed := by
  generalize h : State.serve s q amount = t
  unfold State.serve at h
  try dsimp only at h
  (repeat' split at h) <;> subst h <;> simp

@[simp] theorem State.displaceVictim_frame (s : State)(v : EventIx × ReleaseIx) :
    (State.displaceVictim s v).now = s.now ∧ (State.displaceVictim s v).pending = s.pending ∧
    (State.displaceVictim s v).channels = s.channels ∧
    (State.displaceVictim s v).events.openCounter = s.events.openCounter ∧
    (State.displaceVictim s v).events.closeCounter = s.events.closeCounter ∧
    (State.displaceVictim s v).events.waitCounter = s.events.waitCounter ∧
    (State.displaceVictim s v).pool.budget = s.pool.budget ∧
    (State.displaceVictim s v).pool.storeState = s.pool.storeState ∧
    (State.displaceVictim s v).pool.inEffect = s.pool.inEffect ∧
    (State.displaceVictim s v).pool.storeSilence = s.pool.storeSilence ∧
    (State.displaceVictim s v).pool.storeBaseline = s.pool.storeBaseline ∧
    (State.displaceVictim s v).pool.charger = s.pool.charger ∧
    (State.displaceVictim s v).pool.chargerFault = s.pool.chargerFault ∧
    (State.displaceVictim s v).pool.staleStore = s.pool.staleStore ∧
    (State.displaceVictim s v).capture.memory = s.capture.memory ∧
    (State.displaceVictim s v).ring.counters = s.ring.counters ∧ (State.displaceVictim s v).banks = s.banks ∧
    (State.displaceVictim s v).management.requests = s.management.requests ∧
    (State.displaceVictim s v).management.snapshot = s.management.snapshot ∧
    (State.displaceVictim s v).management.reportsDropped = s.management.reportsDropped ∧
    (State.displaceVictim s v).handed = s.handed := by
  generalize h : State.displaceVictim s v = t
  unfold State.displaceVictim at h
  try dsimp only at h
  (repeat' split at h) <;> subst h <;> simp

@[simp] theorem foldl_displaceVictim_frame  (l : List (EventIx × ReleaseIx)) (s : State) :
    (List.foldl State.displaceVictim s l).now = s.now ∧
    (List.foldl State.displaceVictim s l).pending = s.pending ∧
    (List.foldl State.displaceVictim s l).channels = s.channels ∧
    (List.foldl State.displaceVictim s l).events.openCounter = s.events.openCounter ∧
    (List.foldl State.displaceVictim s l).events.closeCounter = s.events.closeCounter ∧
    (List.foldl State.displaceVictim s l).events.waitCounter = s.events.waitCounter ∧
    (List.foldl State.displaceVictim s l).pool.budget = s.pool.budget ∧
    (List.foldl State.displaceVictim s l).pool.storeState = s.pool.storeState ∧
    (List.foldl State.displaceVictim s l).pool.inEffect = s.pool.inEffect ∧
    (List.foldl State.displaceVictim s l).pool.storeSilence = s.pool.storeSilence ∧
    (List.foldl State.displaceVictim s l).pool.storeBaseline = s.pool.storeBaseline ∧
    (List.foldl State.displaceVictim s l).pool.charger = s.pool.charger ∧
    (List.foldl State.displaceVictim s l).pool.chargerFault = s.pool.chargerFault ∧
    (List.foldl State.displaceVictim s l).pool.staleStore = s.pool.staleStore ∧
    (List.foldl State.displaceVictim s l).capture.memory = s.capture.memory ∧
    (List.foldl State.displaceVictim s l).ring.counters = s.ring.counters ∧
    (List.foldl State.displaceVictim s l).banks = s.banks ∧
    (List.foldl State.displaceVictim s l).management.requests = s.management.requests ∧
    (List.foldl State.displaceVictim s l).management.snapshot = s.management.snapshot ∧
    (List.foldl State.displaceVictim s l).management.reportsDropped = s.management.reportsDropped ∧
    (List.foldl State.displaceVictim s l).handed = s.handed := by
  induction l generalizing s with
  | nil => simp
  | cons a l ih => simp [ih]

theorem State.serveHead_frame (s : State)(q : GrantRequest) (t : State) (h : s.serveHead q = some t) :
    t.now = s.now ∧ t.pending = s.pending ∧ t.channels = s.channels ∧
    t.events.openCounter = s.events.openCounter ∧ t.events.closeCounter = s.events.closeCounter ∧
    t.events.waitCounter = s.events.waitCounter ∧ t.pool.budget = s.pool.budget ∧
    t.pool.storeState = s.pool.storeState ∧ t.pool.inEffect = s.pool.inEffect ∧
    t.pool.storeSilence = s.pool.storeSilence ∧ t.pool.storeBaseline = s.pool.storeBaseline ∧
    t.pool.charger = s.pool.charger ∧ t.pool.chargerFault = s.pool.chargerFault ∧
    t.pool.staleStore = s.pool.staleStore ∧ t.capture.memory = s.capture.memory ∧
    t.ring.counters = s.ring.counters ∧ t.banks = s.banks ∧ t.management.requests = s.management.requests ∧
    t.management.snapshot = s.management.snapshot ∧ t.management.reportsDropped = s.management.reportsDropped ∧
    t.handed = s.handed := by
  unfold State.serveHead State.serveByDisplacement at h
  dsimp only at h
  (repeat' split at h) <;> first | (injection h with h; subst h; simp) | (exact absurd h (by simp))

@[simp] theorem State.pass_frame (n : Nat)(s : State) :
    (State.pass n s).now = s.now ∧ (State.pass n s).pending = s.pending ∧
    (State.pass n s).channels = s.channels ∧ (State.pass n s).events.openCounter = s.events.openCounter ∧
    (State.pass n s).events.closeCounter = s.events.closeCounter ∧
    (State.pass n s).events.waitCounter = s.events.waitCounter ∧ (State.pass n s).pool.budget = s.pool.budget ∧
    (State.pass n s).pool.storeState = s.pool.storeState ∧ (State.pass n s).pool.inEffect = s.pool.inEffect ∧
    (State.pass n s).pool.storeSilence = s.pool.storeSilence ∧
    (State.pass n s).pool.storeBaseline = s.pool.storeBaseline ∧
    (State.pass n s).pool.charger = s.pool.charger ∧ (State.pass n s).pool.chargerFault = s.pool.chargerFault ∧
    (State.pass n s).pool.staleStore = s.pool.staleStore ∧ (State.pass n s).capture.memory = s.capture.memory ∧
    (State.pass n s).ring.counters = s.ring.counters ∧ (State.pass n s).banks = s.banks ∧
    (State.pass n s).management.requests = s.management.requests ∧
    (State.pass n s).management.snapshot = s.management.snapshot ∧
    (State.pass n s).management.reportsDropped = s.management.reportsDropped ∧
    (State.pass n s).handed = s.handed := by
  induction n generalizing s with
  | zero => simp [State.pass]
  | succ n ih =>
    unfold State.pass
    split
    · simp
    · split
      · rename_i heq
        simp [ih, State.serveHead_frame _ _ _ heq]
      · simp

@[simp] theorem State.servicePass_frame (s : State) :
    (State.servicePass s).now = s.now ∧ (State.servicePass s).pending = s.pending ∧
    (State.servicePass s).channels = s.channels ∧
    (State.servicePass s).events.openCounter = s.events.openCounter ∧
    (State.servicePass s).events.closeCounter = s.events.closeCounter ∧
    (State.servicePass s).events.waitCounter = s.events.waitCounter ∧
    (State.servicePass s).pool.budget = s.pool.budget ∧
    (State.servicePass s).pool.storeState = s.pool.storeState ∧
    (State.servicePass s).pool.inEffect = s.pool.inEffect ∧
    (State.servicePass s).pool.storeSilence = s.pool.storeSilence ∧
    (State.servicePass s).pool.storeBaseline = s.pool.storeBaseline ∧
    (State.servicePass s).pool.charger = s.pool.charger ∧
    (State.servicePass s).pool.chargerFault = s.pool.chargerFault ∧
    (State.servicePass s).pool.staleStore = s.pool.staleStore ∧
    (State.servicePass s).capture.memory = s.capture.memory ∧
    (State.servicePass s).ring.counters = s.ring.counters ∧ (State.servicePass s).banks = s.banks ∧
    (State.servicePass s).management.requests = s.management.requests ∧
    (State.servicePass s).management.snapshot = s.management.snapshot ∧
    (State.servicePass s).management.reportsDropped = s.management.reportsDropped ∧
    (State.servicePass s).handed = s.handed := by
  generalize h : State.servicePass s = t
  unfold State.servicePass at h
  try dsimp only at h
  (repeat' split at h) <;> subst h <;> simp

@[simp] theorem State.firstExpires_frame (s : State)(i : EventIx) :
    (State.firstExpires s i).now = s.now ∧ (State.firstExpires s i).pending = s.pending ∧
    (State.firstExpires s i).events.openCounter = s.events.openCounter ∧
    (State.firstExpires s i).events.closeCounter = s.events.closeCounter ∧
    (State.firstExpires s i).pool.budget = s.pool.budget ∧
    (State.firstExpires s i).pool.storeState = s.pool.storeState ∧
    (State.firstExpires s i).pool.inEffect = s.pool.inEffect ∧
    (State.firstExpires s i).pool.storeSilence = s.pool.storeSilence ∧
    (State.firstExpires s i).pool.storeBaseline = s.pool.storeBaseline ∧
    (State.firstExpires s i).pool.charger = s.pool.charger ∧
    (State.firstExpires s i).pool.chargerFault = s.pool.chargerFault ∧
    (State.firstExpires s i).pool.staleStore = s.pool.staleStore ∧
    (State.firstExpires s i).capture.memory = s.capture.memory ∧
    (State.firstExpires s i).ring.counters = s.ring.counters ∧ (State.firstExpires s i).banks = s.banks ∧
    (State.firstExpires s i).management.requests = s.management.requests ∧
    (State.firstExpires s i).management.snapshot = s.management.snapshot ∧
    (State.firstExpires s i).management.reportsDropped = s.management.reportsDropped ∧
    (State.firstExpires s i).handed = s.handed := by
  generalize h : State.firstExpires s i = t
  unfold State.firstExpires at h
  try dsimp only at h
  (repeat' split at h) <;> subst h <;> simp

@[simp] theorem State.topupExpires_frame (s : State)(i : EventIx) :
    (State.topupExpires s i).now = s.now ∧ (State.topupExpires s i).pending = s.pending ∧
    (State.topupExpires s i).channels = s.channels ∧
    (State.topupExpires s i).events.openCounter = s.events.openCounter ∧
    (State.topupExpires s i).events.closeCounter = s.events.closeCounter ∧
    (State.topupExpires s i).events.waitCounter = s.events.waitCounter ∧
    (State.topupExpires s i).pool.budget = s.pool.budget ∧ (State.topupExpires s i).pool.free = s.pool.free ∧
    (State.topupExpires s i).pool.drawn = s.pool.drawn ∧
    (State.topupExpires s i).pool.releases = s.pool.releases ∧
    (State.topupExpires s i).pool.creationCounter = s.pool.creationCounter ∧
    (State.topupExpires s i).pool.storeState = s.pool.storeState ∧
    (State.topupExpires s i).pool.inEffect = s.pool.inEffect ∧
    (State.topupExpires s i).pool.storeSilence = s.pool.storeSilence ∧
    (State.topupExpires s i).pool.storeBaseline = s.pool.storeBaseline ∧
    (State.topupExpires s i).pool.charger = s.pool.charger ∧
    (State.topupExpires s i).pool.chargerFault = s.pool.chargerFault ∧
    (State.topupExpires s i).pool.staleStore = s.pool.staleStore ∧
    (State.topupExpires s i).injection = s.injection ∧ (State.topupExpires s i).views = s.views ∧
    (State.topupExpires s i).capture = s.capture ∧ (State.topupExpires s i).ring = s.ring ∧
    (State.topupExpires s i).banks = s.banks ∧ (State.topupExpires s i).management = s.management ∧
    (State.topupExpires s i).handed = s.handed := by
  generalize h : State.topupExpires s i = t
  unfold State.topupExpires at h
  try dsimp only at h
  (repeat' split at h) <;> subst h <;> simp

/-! ## Events -/

@[simp] theorem State.startEvent_frame (s : State)(i : EventIx)(e : Event) (f : SenseFrame) :
    (State.startEvent s i e f).now = s.now ∧ (State.startEvent s i e f).pending = s.pending ∧
    (State.startEvent s i e f).channels = s.channels ∧
    (State.startEvent s i e f).events.openCounter = s.events.openCounter ∧
    (State.startEvent s i e f).events.closeCounter = s.events.closeCounter ∧
    (State.startEvent s i e f).events.waitCounter = s.events.waitCounter ∧
    (State.startEvent s i e f).pool.budget = s.pool.budget ∧
    (State.startEvent s i e f).pool.free = s.pool.free ∧ (State.startEvent s i e f).pool.drawn = s.pool.drawn ∧
    (State.startEvent s i e f).pool.releases = s.pool.releases ∧
    (State.startEvent s i e f).pool.creationCounter = s.pool.creationCounter ∧
    (State.startEvent s i e f).pool.storeState = s.pool.storeState ∧
    (State.startEvent s i e f).pool.inEffect = s.pool.inEffect ∧
    (State.startEvent s i e f).pool.storeSilence = s.pool.storeSilence ∧
    (State.startEvent s i e f).pool.storeBaseline = s.pool.storeBaseline ∧
    (State.startEvent s i e f).pool.charger = s.pool.charger ∧
    (State.startEvent s i e f).pool.chargerFault = s.pool.chargerFault ∧
    (State.startEvent s i e f).pool.staleStore = s.pool.staleStore ∧
    (State.startEvent s i e f).injection = s.injection ∧ (State.startEvent s i e f).views = s.views ∧
    (State.startEvent s i e f).capture = s.capture ∧ (State.startEvent s i e f).ring = s.ring ∧
    (State.startEvent s i e f).banks = s.banks ∧ (State.startEvent s i e f).management = s.management ∧
    (State.startEvent s i e f).handed = s.handed := by
  generalize h : State.startEvent s i e f = t
  unfold State.startEvent at h
  try dsimp only at h
  (repeat' split at h) <;> subst h <;> simp

theorem State.openEvent_frame (s : State)(r : BusRow) (start : U32) (lowest : Nat) (f : AcceptedFrame) (x : EventIx × State)
    (h : s.openEvent r start lowest f = some x) :
    x.2.now = s.now ∧ x.2.pending = s.pending ∧ x.2.channels = s.channels ∧
    x.2.events.closeCounter = s.events.closeCounter ∧ x.2.events.waitCounter = s.events.waitCounter ∧
    x.2.pool.budget = s.pool.budget ∧ x.2.pool.free = s.pool.free ∧ x.2.pool.drawn = s.pool.drawn ∧
    x.2.pool.creationCounter = s.pool.creationCounter ∧ x.2.pool.storeState = s.pool.storeState ∧
    x.2.pool.inEffect = s.pool.inEffect ∧ x.2.pool.storeSilence = s.pool.storeSilence ∧
    x.2.pool.storeBaseline = s.pool.storeBaseline ∧ x.2.pool.charger = s.pool.charger ∧
    x.2.pool.chargerFault = s.pool.chargerFault ∧ x.2.pool.staleStore = s.pool.staleStore ∧
    x.2.ring.counters = s.ring.counters ∧ x.2.banks = s.banks ∧
    x.2.management.requests = s.management.requests ∧ x.2.management.snapshot = s.management.snapshot ∧
    x.2.handed.sense = s.handed.sense ∧ x.2.handed.injection = s.handed.injection ∧
    x.2.handed.envelope = s.handed.envelope ∧ x.2.handed.store = s.handed.store ∧
    x.2.handed.status = s.handed.status ∧ x.2.handed.topups = s.handed.topups ∧
    x.2.handed.notices = s.handed.notices := by
  unfold State.openEvent at h
  split at h
  · exact absurd h (by simp)
  · injection h with h; subst h; simp

@[simp] theorem State.withdrawClaims_frame (s : State)(i : EventIx) :
    (State.withdrawClaims s i).now = s.now ∧ (State.withdrawClaims s i).pending = s.pending ∧
    (State.withdrawClaims s i).channels = s.channels ∧ (State.withdrawClaims s i).events = s.events ∧
    (State.withdrawClaims s i).pool.budget = s.pool.budget ∧
    (State.withdrawClaims s i).pool.free = s.pool.free ∧ (State.withdrawClaims s i).pool.drawn = s.pool.drawn ∧
    (State.withdrawClaims s i).pool.grantQueue = s.pool.grantQueue ∧
    (State.withdrawClaims s i).pool.creationCounter = s.pool.creationCounter ∧
    (State.withdrawClaims s i).pool.storeState = s.pool.storeState ∧
    (State.withdrawClaims s i).pool.inEffect = s.pool.inEffect ∧
    (State.withdrawClaims s i).pool.storeSilence = s.pool.storeSilence ∧
    (State.withdrawClaims s i).pool.storeBaseline = s.pool.storeBaseline ∧
    (State.withdrawClaims s i).pool.charger = s.pool.charger ∧
    (State.withdrawClaims s i).pool.chargerFault = s.pool.chargerFault ∧
    (State.withdrawClaims s i).pool.staleStore = s.pool.staleStore ∧
    (State.withdrawClaims s i).pool.passDue = s.pool.passDue ∧
    (State.withdrawClaims s i).injection = s.injection ∧ (State.withdrawClaims s i).views = s.views ∧
    (State.withdrawClaims s i).capture = s.capture ∧ (State.withdrawClaims s i).ring = s.ring ∧
    (State.withdrawClaims s i).banks = s.banks ∧ (State.withdrawClaims s i).management = s.management ∧
    (State.withdrawClaims s i).handed = s.handed := by
  generalize h : State.withdrawClaims s i = t
  unfold State.withdrawClaims at h
  try dsimp only at h
  subst h; simp

@[simp] theorem State.endStack_frame (s : State)(i : EventIx)(cause : EndCause) :
    (State.endStack s i cause).now = s.now ∧ (State.endStack s i cause).pending = s.pending ∧
    (State.endStack s i cause).channels = s.channels ∧
    (State.endStack s i cause).events.openCounter = s.events.openCounter ∧
    (State.endStack s i cause).events.closeCounter = s.events.closeCounter ∧
    (State.endStack s i cause).events.waitCounter = s.events.waitCounter ∧
    (State.endStack s i cause).pool.budget = s.pool.budget ∧
    (State.endStack s i cause).pool.free = s.pool.free ∧ (State.endStack s i cause).pool.drawn = s.pool.drawn ∧
    (State.endStack s i cause).pool.grantQueue = s.pool.grantQueue ∧
    (State.endStack s i cause).pool.creationCounter = s.pool.creationCounter ∧
    (State.endStack s i cause).pool.storeState = s.pool.storeState ∧
    (State.endStack s i cause).pool.inEffect = s.pool.inEffect ∧
    (State.endStack s i cause).pool.storeSilence = s.pool.storeSilence ∧
    (State.endStack s i cause).pool.storeBaseline = s.pool.storeBaseline ∧
    (State.endStack s i cause).pool.charger = s.pool.charger ∧
    (State.endStack s i cause).pool.chargerFault = s.pool.chargerFault ∧
    (State.endStack s i cause).pool.staleStore = s.pool.staleStore ∧
    (State.endStack s i cause).pool.passDue = s.pool.passDue ∧
    (State.endStack s i cause).capture.memory = s.capture.memory ∧
    (State.endStack s i cause).ring.counters = s.ring.counters ∧ (State.endStack s i cause).banks = s.banks ∧
    (State.endStack s i cause).management.requests = s.management.requests ∧
    (State.endStack s i cause).management.snapshot = s.management.snapshot ∧
    (State.endStack s i cause).management.reportsDropped = s.management.reportsDropped ∧
    (State.endStack s i cause).handed = s.handed := by
  generalize h : State.endStack s i cause = t
  unfold State.endStack at h
  try dsimp only at h
  (repeat' split at h) <;> subst h <;> simp

@[simp] theorem State.closeEvent_frame (s : State)(i : EventIx) :
    (State.closeEvent s i).now = s.now ∧ (State.closeEvent s i).pending = s.pending ∧
    (State.closeEvent s i).channels = s.channels ∧
    (State.closeEvent s i).events.openCounter = s.events.openCounter ∧
    (State.closeEvent s i).events.waitCounter = s.events.waitCounter ∧ (State.closeEvent s i).pool = s.pool ∧
    (State.closeEvent s i).injection = s.injection ∧ (State.closeEvent s i).views = s.views ∧
    (State.closeEvent s i).capture.memory = s.capture.memory ∧ (State.closeEvent s i).ring = s.ring ∧
    (State.closeEvent s i).banks = s.banks ∧ (State.closeEvent s i).management = s.management ∧
    (State.closeEvent s i).handed = s.handed := by
  generalize h : State.closeEvent s i = t
  unfold State.closeEvent at h
  try dsimp only at h
  subst h; simp

@[simp] theorem State.settleClosing_frame (s : State)(i : EventIx) :
    (State.settleClosing s i).now = s.now ∧ (State.settleClosing s i).pending = s.pending ∧
    (State.settleClosing s i).channels = s.channels ∧
    (State.settleClosing s i).events.openCounter = s.events.openCounter ∧
    (State.settleClosing s i).events.closeCounter = s.events.closeCounter ∧
    (State.settleClosing s i).events.waitCounter = s.events.waitCounter ∧
    (State.settleClosing s i).pool.budget = s.pool.budget ∧ (State.settleClosing s i).pool.free = s.pool.free ∧
    (State.settleClosing s i).pool.drawn = s.pool.drawn ∧
    (State.settleClosing s i).pool.grantQueue = s.pool.grantQueue ∧
    (State.settleClosing s i).pool.creationCounter = s.pool.creationCounter ∧
    (State.settleClosing s i).pool.storeState = s.pool.storeState ∧
    (State.settleClosing s i).pool.inEffect = s.pool.inEffect ∧
    (State.settleClosing s i).pool.storeSilence = s.pool.storeSilence ∧
    (State.settleClosing s i).pool.storeBaseline = s.pool.storeBaseline ∧
    (State.settleClosing s i).pool.charger = s.pool.charger ∧
    (State.settleClosing s i).pool.chargerFault = s.pool.chargerFault ∧
    (State.settleClosing s i).pool.staleStore = s.pool.staleStore ∧
    (State.settleClosing s i).pool.passDue = s.pool.passDue ∧
    (State.settleClosing s i).capture.memory = s.capture.memory ∧
    (State.settleClosing s i).ring.counters = s.ring.counters ∧ (State.settleClosing s i).banks = s.banks ∧
    (State.settleClosing s i).management.requests = s.management.requests ∧
    (State.settleClosing s i).management.snapshot = s.management.snapshot ∧
    (State.settleClosing s i).management.reportsDropped = s.management.reportsDropped ∧
    (State.settleClosing s i).handed = s.handed := by
  generalize h : State.settleClosing s i = t
  unfold State.settleClosing at h
  try dsimp only at h
  (repeat' split at h) <;> subst h <;> simp

@[simp] theorem State.endEvent_frame (s : State)(i : EventIx)(cause : EndCause) :
    (State.endEvent s i cause).now = s.now ∧ (State.endEvent s i cause).pending = s.pending ∧
    (State.endEvent s i cause).events.openCounter = s.events.openCounter ∧
    (State.endEvent s i cause).pool.budget = s.pool.budget ∧
    (State.endEvent s i cause).pool.storeState = s.pool.storeState ∧
    (State.endEvent s i cause).pool.inEffect = s.pool.inEffect ∧
    (State.endEvent s i cause).pool.storeSilence = s.pool.storeSilence ∧
    (State.endEvent s i cause).pool.storeBaseline = s.pool.storeBaseline ∧
    (State.endEvent s i cause).pool.charger = s.pool.charger ∧
    (State.endEvent s i cause).pool.chargerFault = s.pool.chargerFault ∧
    (State.endEvent s i cause).pool.staleStore = s.pool.staleStore ∧
    (State.endEvent s i cause).capture.memory = s.capture.memory ∧
    (State.endEvent s i cause).ring.counters = s.ring.counters ∧ (State.endEvent s i cause).banks = s.banks ∧
    (State.endEvent s i cause).management.requests = s.management.requests ∧
    (State.endEvent s i cause).management.snapshot = s.management.snapshot ∧
    (State.endEvent s i cause).management.reportsDropped = s.management.reportsDropped ∧
    (State.endEvent s i cause).handed = s.handed := by
  generalize h : State.endEvent s i cause = t
  unfold State.endEvent at h
  try dsimp only at h
  subst h; simp

/-! ## Store -/

@[simp] theorem State.settleWithNothing_frame (s : State)(r : ReleaseIx)(c : ReleaseClaim) :
    (State.settleWithNothing s r c).now = s.now ∧ (State.settleWithNothing s r c).pending = s.pending ∧
    (State.settleWithNothing s r c).channels = s.channels ∧
    (State.settleWithNothing s r c).events.openCounter = s.events.openCounter ∧
    (State.settleWithNothing s r c).events.closeCounter = s.events.closeCounter ∧
    (State.settleWithNothing s r c).events.waitCounter = s.events.waitCounter ∧
    (State.settleWithNothing s r c).pool = s.pool ∧ (State.settleWithNothing s r c).injection = s.injection ∧
    (State.settleWithNothing s r c).views = s.views ∧ (State.settleWithNothing s r c).capture = s.capture ∧
    (State.settleWithNothing s r c).ring = s.ring ∧ (State.settleWithNothing s r c).banks = s.banks ∧
    (State.settleWithNothing s r c).management = s.management ∧
    (State.settleWithNothing s r c).handed = s.handed := by
  generalize h : State.settleWithNothing s r c = t
  unfold State.settleWithNothing at h
  try dsimp only at h
  subst h; simp

@[simp] theorem foldl_settleWithNothing_frame (r : ReleaseIx) (l : List ReleaseClaim) (s : State) :
    (List.foldl (fun s c => State.settleWithNothing s r c) s l).now = s.now ∧
    (List.foldl (fun s c => State.settleWithNothing s r c) s l).pending = s.pending ∧
    (List.foldl (fun s c => State.settleWithNothing s r c) s l).channels = s.channels ∧
    (List.foldl (fun s c => State.settleWithNothing s r c) s l).events.openCounter = s.events.openCounter ∧
    (List.foldl (fun s c => State.settleWithNothing s r c) s l).events.closeCounter = s.events.closeCounter ∧
    (List.foldl (fun s c => State.settleWithNothing s r c) s l).events.waitCounter = s.events.waitCounter ∧
    (List.foldl (fun s c => State.settleWithNothing s r c) s l).pool = s.pool ∧
    (List.foldl (fun s c => State.settleWithNothing s r c) s l).injection = s.injection ∧
    (List.foldl (fun s c => State.settleWithNothing s r c) s l).views = s.views ∧
    (List.foldl (fun s c => State.settleWithNothing s r c) s l).capture = s.capture ∧
    (List.foldl (fun s c => State.settleWithNothing s r c) s l).ring = s.ring ∧
    (List.foldl (fun s c => State.settleWithNothing s r c) s l).banks = s.banks ∧
    (List.foldl (fun s c => State.settleWithNothing s r c) s l).management = s.management ∧
    (List.foldl (fun s c => State.settleWithNothing s r c) s l).handed = s.handed := by
  induction l generalizing s with
  | nil => simp
  | cons a l ih => simp [ih]

@[simp] theorem State.dissolve_frame (s : State)(r : ReleaseIx) :
    (State.dissolve s r).now = s.now ∧ (State.dissolve s r).pending = s.pending ∧
    (State.dissolve s r).channels = s.channels ∧
    (State.dissolve s r).events.openCounter = s.events.openCounter ∧
    (State.dissolve s r).events.closeCounter = s.events.closeCounter ∧
    (State.dissolve s r).events.waitCounter = s.events.waitCounter ∧
    (State.dissolve s r).pool.budget = s.pool.budget ∧ (State.dissolve s r).pool.free = s.pool.free ∧
    (State.dissolve s r).pool.drawn = s.pool.drawn ∧ (State.dissolve s r).pool.grantQueue = s.pool.grantQueue ∧
    (State.dissolve s r).pool.creationCounter = s.pool.creationCounter ∧
    (State.dissolve s r).pool.storeState = s.pool.storeState ∧
    (State.dissolve s r).pool.inEffect = s.pool.inEffect ∧
    (State.dissolve s r).pool.storeSilence = s.pool.storeSilence ∧
    (State.dissolve s r).pool.storeBaseline = s.pool.storeBaseline ∧
    (State.dissolve s r).pool.charger = s.pool.charger ∧
    (State.dissolve s r).pool.chargerFault = s.pool.chargerFault ∧
    (State.dissolve s r).pool.staleStore = s.pool.staleStore ∧ (State.dissolve s r).injection = s.injection ∧
    (State.dissolve s r).views = s.views ∧ (State.dissolve s r).capture = s.capture ∧
    (State.dissolve s r).ring = s.ring ∧ (State.dissolve s r).banks = s.banks ∧
    (State.dissolve s r).management = s.management ∧ (State.dissolve s r).handed = s.handed := by
  generalize h : State.dissolve s r = t
  unfold State.dissolve at h
  try dsimp only at h
  (repeat' split at h) <;> subst h <;> simp

@[simp] theorem foldl_dissolve_frame  (l : List ReleaseIx) (s : State) :
    (List.foldl State.dissolve s l).now = s.now ∧ (List.foldl State.dissolve s l).pending = s.pending ∧
    (List.foldl State.dissolve s l).channels = s.channels ∧
    (List.foldl State.dissolve s l).events.openCounter = s.events.openCounter ∧
    (List.foldl State.dissolve s l).events.closeCounter = s.events.closeCounter ∧
    (List.foldl State.dissolve s l).events.waitCounter = s.events.waitCounter ∧
    (List.foldl State.dissolve s l).pool.budget = s.pool.budget ∧
    (List.foldl State.dissolve s l).pool.free = s.pool.free ∧
    (List.foldl State.dissolve s l).pool.drawn = s.pool.drawn ∧
    (List.foldl State.dissolve s l).pool.grantQueue = s.pool.grantQueue ∧
    (List.foldl State.dissolve s l).pool.creationCounter = s.pool.creationCounter ∧
    (List.foldl State.dissolve s l).pool.storeState = s.pool.storeState ∧
    (List.foldl State.dissolve s l).pool.inEffect = s.pool.inEffect ∧
    (List.foldl State.dissolve s l).pool.storeSilence = s.pool.storeSilence ∧
    (List.foldl State.dissolve s l).pool.storeBaseline = s.pool.storeBaseline ∧
    (List.foldl State.dissolve s l).pool.charger = s.pool.charger ∧
    (List.foldl State.dissolve s l).pool.chargerFault = s.pool.chargerFault ∧
    (List.foldl State.dissolve s l).pool.staleStore = s.pool.staleStore ∧
    (List.foldl State.dissolve s l).injection = s.injection ∧ (List.foldl State.dissolve s l).views = s.views ∧
    (List.foldl State.dissolve s l).capture = s.capture ∧ (List.foldl State.dissolve s l).ring = s.ring ∧
    (List.foldl State.dissolve s l).banks = s.banks ∧
    (List.foldl State.dissolve s l).management = s.management ∧
    (List.foldl State.dissolve s l).handed = s.handed := by
  induction l generalizing s with
  | nil => simp
  | cons a l ih => simp [ih]

@[simp] theorem State.cutEvents_frame (l : List EventIx) (n : Nat)(s : State) :
    (State.cutEvents l n s).1.now = s.now ∧ (State.cutEvents l n s).1.pending = s.pending ∧
    (State.cutEvents l n s).1.channels = s.channels ∧
    (State.cutEvents l n s).1.events.openCounter = s.events.openCounter ∧
    (State.cutEvents l n s).1.events.closeCounter = s.events.closeCounter ∧
    (State.cutEvents l n s).1.events.waitCounter = s.events.waitCounter ∧
    (State.cutEvents l n s).1.pool = s.pool ∧ (State.cutEvents l n s).1.injection = s.injection ∧
    (State.cutEvents l n s).1.views = s.views ∧ (State.cutEvents l n s).1.capture = s.capture ∧
    (State.cutEvents l n s).1.ring = s.ring ∧ (State.cutEvents l n s).1.banks = s.banks ∧
    (State.cutEvents l n s).1.management = s.management ∧ (State.cutEvents l n s).1.handed = s.handed := by
  induction l generalizing n s with
  | nil => simp [State.cutEvents]
  | cons a l ih =>
    unfold State.cutEvents
    split <;> simp [ih]

@[simp] theorem State.cutReleases_frame (l : List ReleaseIx) (n : Nat)(s : State) :
    (State.cutReleases l n s).1.now = s.now ∧ (State.cutReleases l n s).1.pending = s.pending ∧
    (State.cutReleases l n s).1.channels = s.channels ∧ (State.cutReleases l n s).1.events = s.events ∧
    (State.cutReleases l n s).1.pool.budget = s.pool.budget ∧
    (State.cutReleases l n s).1.pool.free = s.pool.free ∧
    (State.cutReleases l n s).1.pool.drawn = s.pool.drawn ∧
    (State.cutReleases l n s).1.pool.grantQueue = s.pool.grantQueue ∧
    (State.cutReleases l n s).1.pool.creationCounter = s.pool.creationCounter ∧
    (State.cutReleases l n s).1.pool.storeState = s.pool.storeState ∧
    (State.cutReleases l n s).1.pool.inEffect = s.pool.inEffect ∧
    (State.cutReleases l n s).1.pool.storeSilence = s.pool.storeSilence ∧
    (State.cutReleases l n s).1.pool.storeBaseline = s.pool.storeBaseline ∧
    (State.cutReleases l n s).1.pool.charger = s.pool.charger ∧
    (State.cutReleases l n s).1.pool.chargerFault = s.pool.chargerFault ∧
    (State.cutReleases l n s).1.pool.staleStore = s.pool.staleStore ∧
    (State.cutReleases l n s).1.pool.passDue = s.pool.passDue ∧
    (State.cutReleases l n s).1.injection = s.injection ∧ (State.cutReleases l n s).1.views = s.views ∧
    (State.cutReleases l n s).1.capture = s.capture ∧ (State.cutReleases l n s).1.ring = s.ring ∧
    (State.cutReleases l n s).1.banks = s.banks ∧ (State.cutReleases l n s).1.management = s.management ∧
    (State.cutReleases l n s).1.handed = s.handed := by
  induction l generalizing n s with
  | nil => simp [State.cutReleases]
  | cons a l ih =>
    unfold State.cutReleases
    split <;> simp [ih]

@[simp] theorem State.setFree_frame (s : State)(timestamp : U32) (voltage : Nat) :
    (State.setFree s timestamp voltage).1.now = s.now ∧
    (State.setFree s timestamp voltage).1.pending = s.pending ∧
    (State.setFree s timestamp voltage).1.channels = s.channels ∧
    (State.setFree s timestamp voltage).1.events.openCounter = s.events.openCounter ∧
    (State.setFree s timestamp voltage).1.events.closeCounter = s.events.closeCounter ∧
    (State.setFree s timestamp voltage).1.events.waitCounter = s.events.waitCounter ∧
    (State.setFree s timestamp voltage).1.pool.budget = s.pool.budget ∧
    (State.setFree s timestamp voltage).1.pool.drawn = s.pool.drawn ∧
    (State.setFree s timestamp voltage).1.pool.grantQueue = s.pool.grantQueue ∧
    (State.setFree s timestamp voltage).1.pool.creationCounter = s.pool.creationCounter ∧
    (State.setFree s timestamp voltage).1.pool.storeState = s.pool.storeState ∧
    (State.setFree s timestamp voltage).1.pool.inEffect = s.pool.inEffect ∧
    (State.setFree s timestamp voltage).1.pool.storeSilence = s.pool.storeSilence ∧
    (State.setFree s timestamp voltage).1.pool.storeBaseline = s.pool.storeBaseline ∧
    (State.setFree s timestamp voltage).1.pool.charger = s.pool.charger ∧
    (State.setFree s timestamp voltage).1.pool.chargerFault = s.pool.chargerFault ∧
    (State.setFree s timestamp voltage).1.pool.staleStore = s.pool.staleStore ∧
    (State.setFree s timestamp voltage).1.pool.passDue = s.pool.passDue ∧
    (State.setFree s timestamp voltage).1.capture.memory = s.capture.memory ∧
    (State.setFree s timestamp voltage).1.ring.counters = s.ring.counters ∧
    (State.setFree s timestamp voltage).1.banks = s.banks ∧
    (State.setFree s timestamp voltage).1.management.requests = s.management.requests ∧
    (State.setFree s timestamp voltage).1.management.snapshot = s.management.snapshot ∧
    (State.setFree s timestamp voltage).1.handed = s.handed := by
  generalize h : State.setFree s timestamp voltage = t
  unfold State.setFree at h
  dsimp only at h
  split at h <;> subst h <;> simp

@[simp] theorem State.cutOutcome_frame (s : State)(i : EventIx) :
    (State.cutOutcome s i).now = s.now ∧ (State.cutOutcome s i).pending = s.pending ∧
    (State.cutOutcome s i).events.openCounter = s.events.openCounter ∧
    (State.cutOutcome s i).events.closeCounter = s.events.closeCounter ∧
    (State.cutOutcome s i).pool.budget = s.pool.budget ∧
    (State.cutOutcome s i).pool.storeState = s.pool.storeState ∧
    (State.cutOutcome s i).pool.inEffect = s.pool.inEffect ∧
    (State.cutOutcome s i).pool.storeSilence = s.pool.storeSilence ∧
    (State.cutOutcome s i).pool.storeBaseline = s.pool.storeBaseline ∧
    (State.cutOutcome s i).pool.charger = s.pool.charger ∧
    (State.cutOutcome s i).pool.chargerFault = s.pool.chargerFault ∧
    (State.cutOutcome s i).pool.staleStore = s.pool.staleStore ∧
    (State.cutOutcome s i).capture.memory = s.capture.memory ∧
    (State.cutOutcome s i).ring.counters = s.ring.counters ∧ (State.cutOutcome s i).banks = s.banks ∧
    (State.cutOutcome s i).management.requests = s.management.requests ∧
    (State.cutOutcome s i).management.snapshot = s.management.snapshot ∧
    (State.cutOutcome s i).management.reportsDropped = s.management.reportsDropped ∧
    (State.cutOutcome s i).handed = s.handed := by
  generalize h : State.cutOutcome s i = t
  unfold State.cutOutcome at h
  try dsimp only at h
  (repeat' split at h) <;> subst h <;> simp

@[simp] theorem foldl_cutOutcome_frame  (l : List EventIx) (s : State) :
    (List.foldl State.cutOutcome s l).now = s.now ∧ (List.foldl State.cutOutcome s l).pending = s.pending ∧
    (List.foldl State.cutOutcome s l).events.openCounter = s.events.openCounter ∧
    (List.foldl State.cutOutcome s l).events.closeCounter = s.events.closeCounter ∧
    (List.foldl State.cutOutcome s l).pool.budget = s.pool.budget ∧
    (List.foldl State.cutOutcome s l).pool.storeState = s.pool.storeState ∧
    (List.foldl State.cutOutcome s l).pool.inEffect = s.pool.inEffect ∧
    (List.foldl State.cutOutcome s l).pool.storeSilence = s.pool.storeSilence ∧
    (List.foldl State.cutOutcome s l).pool.storeBaseline = s.pool.storeBaseline ∧
    (List.foldl State.cutOutcome s l).pool.charger = s.pool.charger ∧
    (List.foldl State.cutOutcome s l).pool.chargerFault = s.pool.chargerFault ∧
    (List.foldl State.cutOutcome s l).pool.staleStore = s.pool.staleStore ∧
    (List.foldl State.cutOutcome s l).capture.memory = s.capture.memory ∧
    (List.foldl State.cutOutcome s l).ring.counters = s.ring.counters ∧
    (List.foldl State.cutOutcome s l).banks = s.banks ∧
    (List.foldl State.cutOutcome s l).management.requests = s.management.requests ∧
    (List.foldl State.cutOutcome s l).management.snapshot = s.management.snapshot ∧
    (List.foldl State.cutOutcome s l).management.reportsDropped = s.management.reportsDropped ∧
    (List.foldl State.cutOutcome s l).handed = s.handed := by
  induction l generalizing s with
  | nil => simp
  | cons a l ih => simp [ih]

@[simp] theorem foldl_endSpentWait_frame  (l : List EventIx) (s : State) :
    (List.foldl State.endSpentWait s l).now = s.now ∧ (List.foldl State.endSpentWait s l).pending = s.pending ∧
    (List.foldl State.endSpentWait s l).channels = s.channels ∧
    (List.foldl State.endSpentWait s l).events.openCounter = s.events.openCounter ∧
    (List.foldl State.endSpentWait s l).events.closeCounter = s.events.closeCounter ∧
    (List.foldl State.endSpentWait s l).events.waitCounter = s.events.waitCounter ∧
    (List.foldl State.endSpentWait s l).pool.budget = s.pool.budget ∧
    (List.foldl State.endSpentWait s l).pool.drawn = s.pool.drawn ∧
    (List.foldl State.endSpentWait s l).pool.creationCounter = s.pool.creationCounter ∧
    (List.foldl State.endSpentWait s l).pool.storeState = s.pool.storeState ∧
    (List.foldl State.endSpentWait s l).pool.inEffect = s.pool.inEffect ∧
    (List.foldl State.endSpentWait s l).pool.storeSilence = s.pool.storeSilence ∧
    (List.foldl State.endSpentWait s l).pool.storeBaseline = s.pool.storeBaseline ∧
    (List.foldl State.endSpentWait s l).pool.charger = s.pool.charger ∧
    (List.foldl State.endSpentWait s l).pool.chargerFault = s.pool.chargerFault ∧
    (List.foldl State.endSpentWait s l).pool.staleStore = s.pool.staleStore ∧
    (List.foldl State.endSpentWait s l).capture.memory = s.capture.memory ∧
    (List.foldl State.endSpentWait s l).ring.counters = s.ring.counters ∧
    (List.foldl State.endSpentWait s l).banks = s.banks ∧
    (List.foldl State.endSpentWait s l).management.requests = s.management.requests ∧
    (List.foldl State.endSpentWait s l).management.snapshot = s.management.snapshot ∧
    (List.foldl State.endSpentWait s l).management.reportsDropped = s.management.reportsDropped ∧
    (List.foldl State.endSpentWait s l).handed = s.handed := by
  induction l generalizing s with
  | nil => simp
  | cons a l ih => simp [ih]

@[simp] theorem State.cutConsequences_frame (s : State)(cut : List EventIx) :
    (State.cutConsequences s cut).now = s.now ∧ (State.cutConsequences s cut).pending = s.pending ∧
    (State.cutConsequences s cut).events.openCounter = s.events.openCounter ∧
    (State.cutConsequences s cut).events.closeCounter = s.events.closeCounter ∧
    (State.cutConsequences s cut).pool.budget = s.pool.budget ∧
    (State.cutConsequences s cut).pool.storeState = s.pool.storeState ∧
    (State.cutConsequences s cut).pool.inEffect = s.pool.inEffect ∧
    (State.cutConsequences s cut).pool.storeSilence = s.pool.storeSilence ∧
    (State.cutConsequences s cut).pool.storeBaseline = s.pool.storeBaseline ∧
    (State.cutConsequences s cut).pool.charger = s.pool.charger ∧
    (State.cutConsequences s cut).pool.chargerFault = s.pool.chargerFault ∧
    (State.cutConsequences s cut).pool.staleStore = s.pool.staleStore ∧
    (State.cutConsequences s cut).capture.memory = s.capture.memory ∧
    (State.cutConsequences s cut).ring.counters = s.ring.counters ∧
    (State.cutConsequences s cut).banks = s.banks ∧
    (State.cutConsequences s cut).management.requests = s.management.requests ∧
    (State.cutConsequences s cut).management.snapshot = s.management.snapshot ∧
    (State.cutConsequences s cut).management.reportsDropped = s.management.reportsDropped ∧
    (State.cutConsequences s cut).handed = s.handed := by
  generalize h : State.cutConsequences s cut = t
  unfold State.cutConsequences at h
  try dsimp only at h
  subst h; simp

@[simp] theorem State.holdForStore_frame (s : State) :
    (State.holdForStore s).now = s.now ∧ (State.holdForStore s).pending = s.pending ∧
    (State.holdForStore s).channels = s.channels ∧
    (State.holdForStore s).events.openCounter = s.events.openCounter ∧
    (State.holdForStore s).events.closeCounter = s.events.closeCounter ∧
    (State.holdForStore s).events.waitCounter = s.events.waitCounter ∧ (State.holdForStore s).pool = s.pool ∧
    (State.holdForStore s).injection = s.injection ∧ (State.holdForStore s).views = s.views ∧
    (State.holdForStore s).capture = s.capture ∧ (State.holdForStore s).ring = s.ring ∧
    (State.holdForStore s).banks = s.banks ∧ (State.holdForStore s).management = s.management ∧
    (State.holdForStore s).handed = s.handed := by
  generalize h : State.holdForStore s = t
  unfold State.holdForStore at h
  try dsimp only at h
  subst h; simp

@[simp] theorem State.freeOfStore_frame (cut : List EventIx)(s : State)(i : EventIx) :
    (State.freeOfStore cut s i).now = s.now ∧ (State.freeOfStore cut s i).pending = s.pending ∧
    (State.freeOfStore cut s i).channels = s.channels ∧
    (State.freeOfStore cut s i).events.openCounter = s.events.openCounter ∧
    (State.freeOfStore cut s i).events.closeCounter = s.events.closeCounter ∧
    (State.freeOfStore cut s i).events.waitCounter = s.events.waitCounter ∧
    (State.freeOfStore cut s i).pool.budget = s.pool.budget ∧
    (State.freeOfStore cut s i).pool.drawn = s.pool.drawn ∧
    (State.freeOfStore cut s i).pool.creationCounter = s.pool.creationCounter ∧
    (State.freeOfStore cut s i).pool.storeState = s.pool.storeState ∧
    (State.freeOfStore cut s i).pool.inEffect = s.pool.inEffect ∧
    (State.freeOfStore cut s i).pool.storeSilence = s.pool.storeSilence ∧
    (State.freeOfStore cut s i).pool.storeBaseline = s.pool.storeBaseline ∧
    (State.freeOfStore cut s i).pool.charger = s.pool.charger ∧
    (State.freeOfStore cut s i).pool.chargerFault = s.pool.chargerFault ∧
    (State.freeOfStore cut s i).pool.staleStore = s.pool.staleStore ∧
    (State.freeOfStore cut s i).capture.memory = s.capture.memory ∧
    (State.freeOfStore cut s i).ring.counters = s.ring.counters ∧ (State.freeOfStore cut s i).banks = s.banks ∧
    (State.freeOfStore cut s i).management.requests = s.management.requests ∧
    (State.freeOfStore cut s i).management.snapshot = s.management.snapshot ∧
    (State.freeOfStore cut s i).management.reportsDropped = s.management.reportsDropped ∧
    (State.freeOfStore cut s i).handed = s.handed := by
  generalize h : State.freeOfStore cut s i = t
  unfold State.freeOfStore at h
  try dsimp only at h
  (repeat' split at h) <;> subst h <;> simp

@[simp] theorem foldl_freeOfStore_frame (cut : List EventIx) (l : List EventIx) (s : State) :
    (List.foldl (State.freeOfStore cut) s l).now = s.now ∧
    (List.foldl (State.freeOfStore cut) s l).pending = s.pending ∧
    (List.foldl (State.freeOfStore cut) s l).channels = s.channels ∧
    (List.foldl (State.freeOfStore cut) s l).events.openCounter = s.events.openCounter ∧
    (List.foldl (State.freeOfStore cut) s l).events.closeCounter = s.events.closeCounter ∧
    (List.foldl (State.freeOfStore cut) s l).events.waitCounter = s.events.waitCounter ∧
    (List.foldl (State.freeOfStore cut) s l).pool.budget = s.pool.budget ∧
    (List.foldl (State.freeOfStore cut) s l).pool.drawn = s.pool.drawn ∧
    (List.foldl (State.freeOfStore cut) s l).pool.creationCounter = s.pool.creationCounter ∧
    (List.foldl (State.freeOfStore cut) s l).pool.storeState = s.pool.storeState ∧
    (List.foldl (State.freeOfStore cut) s l).pool.inEffect = s.pool.inEffect ∧
    (List.foldl (State.freeOfStore cut) s l).pool.storeSilence = s.pool.storeSilence ∧
    (List.foldl (State.freeOfStore cut) s l).pool.storeBaseline = s.pool.storeBaseline ∧
    (List.foldl (State.freeOfStore cut) s l).pool.charger = s.pool.charger ∧
    (List.foldl (State.freeOfStore cut) s l).pool.chargerFault = s.pool.chargerFault ∧
    (List.foldl (State.freeOfStore cut) s l).pool.staleStore = s.pool.staleStore ∧
    (List.foldl (State.freeOfStore cut) s l).capture.memory = s.capture.memory ∧
    (List.foldl (State.freeOfStore cut) s l).ring.counters = s.ring.counters ∧
    (List.foldl (State.freeOfStore cut) s l).banks = s.banks ∧
    (List.foldl (State.freeOfStore cut) s l).management.requests = s.management.requests ∧
    (List.foldl (State.freeOfStore cut) s l).management.snapshot = s.management.snapshot ∧
    (List.foldl (State.freeOfStore cut) s l).management.reportsDropped = s.management.reportsDropped ∧
    (List.foldl (State.freeOfStore cut) s l).handed = s.handed := by
  induction l generalizing s with
  | nil => simp
  | cons a l ih => simp [ih]

@[simp] theorem State.enterLive_frame (s : State)(p : StoreParameters) (cut : List EventIx) (timestamp : U32) (voltage : Nat) :
    (State.enterLive s p cut timestamp voltage).now = s.now ∧
    (State.enterLive s p cut timestamp voltage).pending = s.pending ∧
    (State.enterLive s p cut timestamp voltage).channels = s.channels ∧
    (State.enterLive s p cut timestamp voltage).events.openCounter = s.events.openCounter ∧
    (State.enterLive s p cut timestamp voltage).events.closeCounter = s.events.closeCounter ∧
    (State.enterLive s p cut timestamp voltage).events.waitCounter = s.events.waitCounter ∧
    (State.enterLive s p cut timestamp voltage).pool.budget = s.pool.budget ∧
    (State.enterLive s p cut timestamp voltage).pool.drawn = s.pool.drawn ∧
    (State.enterLive s p cut timestamp voltage).pool.creationCounter = s.pool.creationCounter ∧
    (State.enterLive s p cut timestamp voltage).pool.inEffect = s.pool.inEffect ∧
    (State.enterLive s p cut timestamp voltage).pool.storeBaseline = s.pool.storeBaseline ∧
    (State.enterLive s p cut timestamp voltage).pool.charger = s.pool.charger ∧
    (State.enterLive s p cut timestamp voltage).pool.chargerFault = s.pool.chargerFault ∧
    (State.enterLive s p cut timestamp voltage).pool.staleStore = s.pool.staleStore ∧
    (State.enterLive s p cut timestamp voltage).capture.memory = s.capture.memory ∧
    (State.enterLive s p cut timestamp voltage).ring.counters = s.ring.counters ∧
    (State.enterLive s p cut timestamp voltage).banks = s.banks ∧
    (State.enterLive s p cut timestamp voltage).management.requests = s.management.requests ∧
    (State.enterLive s p cut timestamp voltage).management.snapshot = s.management.snapshot ∧
    (State.enterLive s p cut timestamp voltage).handed = s.handed := by
  generalize h : State.enterLive s p cut timestamp voltage = t
  unfold State.enterLive at h
  try dsimp only at h
  (repeat' split at h) <;> subst h <;> simp

@[simp] theorem foldl_settleBorrowers_frame (l : List Release) (s : State) :
    (List.foldl (fun s x => List.foldl (fun s c => State.settleBorrower s (ReleaseClaim.event c)) s (Release.claims x)) s l).now = s.now ∧
    (List.foldl (fun s x => List.foldl (fun s c => State.settleBorrower s (ReleaseClaim.event c)) s (Release.claims x)) s l).pending = s.pending ∧
    (List.foldl (fun s x => List.foldl (fun s c => State.settleBorrower s (ReleaseClaim.event c)) s (Release.claims x)) s l).channels = s.channels ∧
    (List.foldl (fun s x => List.foldl (fun s c => State.settleBorrower s (ReleaseClaim.event c)) s (Release.claims x)) s l).events.openCounter = s.events.openCounter ∧
    (List.foldl (fun s x => List.foldl (fun s c => State.settleBorrower s (ReleaseClaim.event c)) s (Release.claims x)) s l).events.closeCounter = s.events.closeCounter ∧
    (List.foldl (fun s x => List.foldl (fun s c => State.settleBorrower s (ReleaseClaim.event c)) s (Release.claims x)) s l).events.waitCounter = s.events.waitCounter ∧
    (List.foldl (fun s x => List.foldl (fun s c => State.settleBorrower s (ReleaseClaim.event c)) s (Release.claims x)) s l).pool.budget = s.pool.budget ∧
    (List.foldl (fun s x => List.foldl (fun s c => State.settleBorrower s (ReleaseClaim.event c)) s (Release.claims x)) s l).pool.drawn = s.pool.drawn ∧
    (List.foldl (fun s x => List.foldl (fun s c => State.settleBorrower s (ReleaseClaim.event c)) s (Release.claims x)) s l).pool.creationCounter = s.pool.creationCounter ∧
    (List.foldl (fun s x => List.foldl (fun s c => State.settleBorrower s (ReleaseClaim.event c)) s (Release.claims x)) s l).pool.storeState = s.pool.storeState ∧
    (List.foldl (fun s x => List.foldl (fun s c => State.settleBorrower s (ReleaseClaim.event c)) s (Release.claims x)) s l).pool.inEffect = s.pool.inEffect ∧
    (List.foldl (fun s x => List.foldl (fun s c => State.settleBorrower s (ReleaseClaim.event c)) s (Release.claims x)) s l).pool.storeSilence = s.pool.storeSilence ∧
    (List.foldl (fun s x => List.foldl (fun s c => State.settleBorrower s (ReleaseClaim.event c)) s (Release.claims x)) s l).pool.storeBaseline = s.pool.storeBaseline ∧
    (List.foldl (fun s x => List.foldl (fun s c => State.settleBorrower s (ReleaseClaim.event c)) s (Release.claims x)) s l).pool.charger = s.pool.charger ∧
    (List.foldl (fun s x => List.foldl (fun s c => State.settleBorrower s (ReleaseClaim.event c)) s (Release.claims x)) s l).pool.chargerFault = s.pool.chargerFault ∧
    (List.foldl (fun s x => List.foldl (fun s c => State.settleBorrower s (ReleaseClaim.event c)) s (Release.claims x)) s l).pool.staleStore = s.pool.staleStore ∧
    (List.foldl (fun s x => List.foldl (fun s c => State.settleBorrower s (ReleaseClaim.event c)) s (Release.claims x)) s l).capture.memory = s.capture.memory ∧
    (List.foldl (fun s x => List.foldl (fun s c => State.settleBorrower s (ReleaseClaim.event c)) s (Release.claims x)) s l).ring.counters = s.ring.counters ∧
    (List.foldl (fun s x => List.foldl (fun s c => State.settleBorrower s (ReleaseClaim.event c)) s (Release.claims x)) s l).banks = s.banks ∧
    (List.foldl (fun s x => List.foldl (fun s c => State.settleBorrower s (ReleaseClaim.event c)) s (Release.claims x)) s l).management.requests = s.management.requests ∧
    (List.foldl (fun s x => List.foldl (fun s c => State.settleBorrower s (ReleaseClaim.event c)) s (Release.claims x)) s l).management.snapshot = s.management.snapshot ∧
    (List.foldl (fun s x => List.foldl (fun s c => State.settleBorrower s (ReleaseClaim.event c)) s (Release.claims x)) s l).management.reportsDropped = s.management.reportsDropped ∧
    (List.foldl (fun s x => List.foldl (fun s c => State.settleBorrower s (ReleaseClaim.event c)) s (Release.claims x)) s l).handed = s.handed := by
  induction l generalizing s with
  | nil => simp
  | cons a l ih => simp [ih]

@[simp] theorem foldl_availabilityCheck_frame  (l : List Release) (s : State) :
    (List.foldl (fun s x => State.availabilityCheck s (Release.stack x)) s l).now = s.now ∧
    (List.foldl (fun s x => State.availabilityCheck s (Release.stack x)) s l).pending = s.pending ∧
    (List.foldl (fun s x => State.availabilityCheck s (Release.stack x)) s l).channels = s.channels ∧
    (List.foldl (fun s x => State.availabilityCheck s (Release.stack x)) s l).events.openCounter = s.events.openCounter ∧
    (List.foldl (fun s x => State.availabilityCheck s (Release.stack x)) s l).events.closeCounter = s.events.closeCounter ∧
    (List.foldl (fun s x => State.availabilityCheck s (Release.stack x)) s l).events.waitCounter = s.events.waitCounter ∧
    (List.foldl (fun s x => State.availabilityCheck s (Release.stack x)) s l).pool.budget = s.pool.budget ∧
    (List.foldl (fun s x => State.availabilityCheck s (Release.stack x)) s l).pool.drawn = s.pool.drawn ∧
    (List.foldl (fun s x => State.availabilityCheck s (Release.stack x)) s l).pool.creationCounter = s.pool.creationCounter ∧
    (List.foldl (fun s x => State.availabilityCheck s (Release.stack x)) s l).pool.storeState = s.pool.storeState ∧
    (List.foldl (fun s x => State.availabilityCheck s (Release.stack x)) s l).pool.inEffect = s.pool.inEffect ∧
    (List.foldl (fun s x => State.availabilityCheck s (Release.stack x)) s l).pool.storeSilence = s.pool.storeSilence ∧
    (List.foldl (fun s x => State.availabilityCheck s (Release.stack x)) s l).pool.storeBaseline = s.pool.storeBaseline ∧
    (List.foldl (fun s x => State.availabilityCheck s (Release.stack x)) s l).pool.charger = s.pool.charger ∧
    (List.foldl (fun s x => State.availabilityCheck s (Release.stack x)) s l).pool.chargerFault = s.pool.chargerFault ∧
    (List.foldl (fun s x => State.availabilityCheck s (Release.stack x)) s l).pool.staleStore = s.pool.staleStore ∧
    (List.foldl (fun s x => State.availabilityCheck s (Release.stack x)) s l).capture.memory = s.capture.memory ∧
    (List.foldl (fun s x => State.availabilityCheck s (Release.stack x)) s l).ring.counters = s.ring.counters ∧
    (List.foldl (fun s x => State.availabilityCheck s (Release.stack x)) s l).banks = s.banks ∧
    (List.foldl (fun s x => State.availabilityCheck s (Release.stack x)) s l).management.requests = s.management.requests ∧
    (List.foldl (fun s x => State.availabilityCheck s (Release.stack x)) s l).management.snapshot = s.management.snapshot ∧
    (List.foldl (fun s x => State.availabilityCheck s (Release.stack x)) s l).management.reportsDropped = s.management.reportsDropped ∧
    (List.foldl (fun s x => State.availabilityCheck s (Release.stack x)) s l).handed = s.handed := by
  induction l generalizing s with
  | nil => simp
  | cons a l ih => simp [ih]

@[simp] theorem State.dissolutionConsequences_frame (s : State)(gone : List Release) :
    (State.dissolutionConsequences s gone).now = s.now ∧
    (State.dissolutionConsequences s gone).pending = s.pending ∧
    (State.dissolutionConsequences s gone).channels = s.channels ∧
    (State.dissolutionConsequences s gone).events.openCounter = s.events.openCounter ∧
    (State.dissolutionConsequences s gone).events.closeCounter = s.events.closeCounter ∧
    (State.dissolutionConsequences s gone).events.waitCounter = s.events.waitCounter ∧
    (State.dissolutionConsequences s gone).pool.budget = s.pool.budget ∧
    (State.dissolutionConsequences s gone).pool.storeState = s.pool.storeState ∧
    (State.dissolutionConsequences s gone).pool.inEffect = s.pool.inEffect ∧
    (State.dissolutionConsequences s gone).pool.storeSilence = s.pool.storeSilence ∧
    (State.dissolutionConsequences s gone).pool.storeBaseline = s.pool.storeBaseline ∧
    (State.dissolutionConsequences s gone).pool.charger = s.pool.charger ∧
    (State.dissolutionConsequences s gone).pool.chargerFault = s.pool.chargerFault ∧
    (State.dissolutionConsequences s gone).pool.staleStore = s.pool.staleStore ∧
    (State.dissolutionConsequences s gone).capture.memory = s.capture.memory ∧
    (State.dissolutionConsequences s gone).ring.counters = s.ring.counters ∧
    (State.dissolutionConsequences s gone).banks = s.banks ∧
    (State.dissolutionConsequences s gone).management.requests = s.management.requests ∧
    (State.dissolutionConsequences s gone).management.snapshot = s.management.snapshot ∧
    (State.dissolutionConsequences s gone).management.reportsDropped = s.management.reportsDropped ∧
    (State.dissolutionConsequences s gone).handed = s.handed := by
  generalize h : State.dissolutionConsequences s gone = t
  unfold State.dissolutionConsequences at h
  try dsimp only at h
  (repeat' split at h) <;> subst h <;> simp

@[simp] theorem State.confirmStore_frame (s : State)(p : StoreParameters) (timestamp : U32) (voltage : Nat) :
    (State.confirmStore s p timestamp voltage).now = s.now ∧
    (State.confirmStore s p timestamp voltage).pending = s.pending ∧
    (State.confirmStore s p timestamp voltage).events.openCounter = s.events.openCounter ∧
    (State.confirmStore s p timestamp voltage).events.closeCounter = s.events.closeCounter ∧
    (State.confirmStore s p timestamp voltage).pool.storeBaseline = s.pool.storeBaseline ∧
    (State.confirmStore s p timestamp voltage).pool.charger = s.pool.charger ∧
    (State.confirmStore s p timestamp voltage).pool.chargerFault = s.pool.chargerFault ∧
    (State.confirmStore s p timestamp voltage).pool.staleStore = s.pool.staleStore ∧
    (State.confirmStore s p timestamp voltage).capture.memory = s.capture.memory ∧
    (State.confirmStore s p timestamp voltage).ring.counters = s.ring.counters ∧
    (State.confirmStore s p timestamp voltage).banks = s.banks ∧
    (State.confirmStore s p timestamp voltage).management.requests = s.management.requests ∧
    (State.confirmStore s p timestamp voltage).management.snapshot = s.management.snapshot ∧
    (State.confirmStore s p timestamp voltage).handed = s.handed := by
  generalize h : State.confirmStore s p timestamp voltage = t
  unfold State.confirmStore at h
  try dsimp only at h
  subst h; simp

@[simp] theorem State.takeStore_frame (s : State)(x : HandedStore) :
    (State.takeStore s x).now = s.now ∧ (State.takeStore s x).pending = s.pending ∧
    (State.takeStore s x).events.openCounter = s.events.openCounter ∧
    (State.takeStore s x).events.closeCounter = s.events.closeCounter ∧
    (State.takeStore s x).capture.memory = s.capture.memory ∧ (State.takeStore s x).banks = s.banks ∧
    (State.takeStore s x).management.requests = s.management.requests ∧
    (State.takeStore s x).management.snapshot = s.management.snapshot ∧
    (State.takeStore s x).handed = s.handed := by
  generalize h : State.takeStore s x = t
  unfold State.takeStore at h
  try dsimp only at h
  (repeat' split at h) <;> subst h <;> simp

@[simp] theorem State.storeExpires_frame (s : State) :
    (State.storeExpires s).now = s.now ∧ (State.storeExpires s).pending = s.pending ∧
    (State.storeExpires s).channels = s.channels ∧
    (State.storeExpires s).events.openCounter = s.events.openCounter ∧
    (State.storeExpires s).events.closeCounter = s.events.closeCounter ∧
    (State.storeExpires s).events.waitCounter = s.events.waitCounter ∧
    (State.storeExpires s).pool.budget = s.pool.budget ∧ (State.storeExpires s).pool.free = s.pool.free ∧
    (State.storeExpires s).pool.drawn = s.pool.drawn ∧
    (State.storeExpires s).pool.grantQueue = s.pool.grantQueue ∧
    (State.storeExpires s).pool.creationCounter = s.pool.creationCounter ∧
    (State.storeExpires s).pool.inEffect = s.pool.inEffect ∧
    (State.storeExpires s).pool.charger = s.pool.charger ∧
    (State.storeExpires s).pool.chargerFault = s.pool.chargerFault ∧
    (State.storeExpires s).pool.staleStore = s.pool.staleStore ∧
    (State.storeExpires s).pool.passDue = s.pool.passDue ∧
    (State.storeExpires s).capture.memory = s.capture.memory ∧
    (State.storeExpires s).ring.counters = s.ring.counters ∧ (State.storeExpires s).banks = s.banks ∧
    (State.storeExpires s).management.requests = s.management.requests ∧
    (State.storeExpires s).management.snapshot = s.management.snapshot ∧
    (State.storeExpires s).handed = s.handed := by
  generalize h : State.storeExpires s = t
  unfold State.storeExpires at h
  try dsimp only at h
  (repeat' split at h) <;> subst h <;> simp

@[simp] theorem State.storeCommitted_frame (s : State) :
    (State.storeCommitted s).now = s.now ∧ (State.storeCommitted s).pending = s.pending ∧
    (State.storeCommitted s).channels = s.channels ∧
    (State.storeCommitted s).events.openCounter = s.events.openCounter ∧
    (State.storeCommitted s).events.closeCounter = s.events.closeCounter ∧
    (State.storeCommitted s).events.waitCounter = s.events.waitCounter ∧
    (State.storeCommitted s).pool.budget = s.pool.budget ∧ (State.storeCommitted s).pool.free = s.pool.free ∧
    (State.storeCommitted s).pool.drawn = s.pool.drawn ∧
    (State.storeCommitted s).pool.grantQueue = s.pool.grantQueue ∧
    (State.storeCommitted s).pool.creationCounter = s.pool.creationCounter ∧
    (State.storeCommitted s).pool.inEffect = s.pool.inEffect ∧
    (State.storeCommitted s).pool.storeSilence = s.pool.storeSilence ∧
    (State.storeCommitted s).pool.storeBaseline = s.pool.storeBaseline ∧
    (State.storeCommitted s).pool.charger = s.pool.charger ∧
    (State.storeCommitted s).pool.chargerFault = s.pool.chargerFault ∧
    (State.storeCommitted s).pool.staleStore = s.pool.staleStore ∧
    (State.storeCommitted s).pool.passDue = s.pool.passDue ∧
    (State.storeCommitted s).capture.memory = s.capture.memory ∧
    (State.storeCommitted s).ring.counters = s.ring.counters ∧ (State.storeCommitted s).banks = s.banks ∧
    (State.storeCommitted s).management.requests = s.management.requests ∧
    (State.storeCommitted s).management.snapshot = s.management.snapshot ∧
    (State.storeCommitted s).handed = s.handed := by
  generalize h : State.storeCommitted s = t
  unfold State.storeCommitted at h
  try dsimp only at h
  (repeat' split at h) <;> subst h <;> simp

/-! ## Stacks -/

@[simp] theorem State.faultEvent_frame (k : Station)(s : State)(i : EventIx) :
    (State.faultEvent k s i).now = s.now ∧ (State.faultEvent k s i).pending = s.pending ∧
    (State.faultEvent k s i).events.openCounter = s.events.openCounter ∧
    (State.faultEvent k s i).events.closeCounter = s.events.closeCounter ∧
    (State.faultEvent k s i).pool.budget = s.pool.budget ∧
    (State.faultEvent k s i).pool.storeState = s.pool.storeState ∧
    (State.faultEvent k s i).pool.inEffect = s.pool.inEffect ∧
    (State.faultEvent k s i).pool.storeSilence = s.pool.storeSilence ∧
    (State.faultEvent k s i).pool.storeBaseline = s.pool.storeBaseline ∧
    (State.faultEvent k s i).pool.charger = s.pool.charger ∧
    (State.faultEvent k s i).pool.chargerFault = s.pool.chargerFault ∧
    (State.faultEvent k s i).pool.staleStore = s.pool.staleStore ∧
    (State.faultEvent k s i).capture.memory = s.capture.memory ∧
    (State.faultEvent k s i).ring.counters = s.ring.counters ∧ (State.faultEvent k s i).banks = s.banks ∧
    (State.faultEvent k s i).management.requests = s.management.requests ∧
    (State.faultEvent k s i).management.snapshot = s.management.snapshot ∧
    (State.faultEvent k s i).management.reportsDropped = s.management.reportsDropped ∧
    (State.faultEvent k s i).handed = s.handed := by
  generalize h : State.faultEvent k s i = t
  unfold State.faultEvent at h
  try dsimp only at h
  (repeat' split at h) <;> subst h <;> simp

@[simp] theorem foldl_faultEvent_frame (k : Station) (l : List EventIx) (s : State) :
    (List.foldl (State.faultEvent k) s l).now = s.now ∧
    (List.foldl (State.faultEvent k) s l).pending = s.pending ∧
    (List.foldl (State.faultEvent k) s l).events.openCounter = s.events.openCounter ∧
    (List.foldl (State.faultEvent k) s l).events.closeCounter = s.events.closeCounter ∧
    (List.foldl (State.faultEvent k) s l).pool.budget = s.pool.budget ∧
    (List.foldl (State.faultEvent k) s l).pool.storeState = s.pool.storeState ∧
    (List.foldl (State.faultEvent k) s l).pool.inEffect = s.pool.inEffect ∧
    (List.foldl (State.faultEvent k) s l).pool.storeSilence = s.pool.storeSilence ∧
    (List.foldl (State.faultEvent k) s l).pool.storeBaseline = s.pool.storeBaseline ∧
    (List.foldl (State.faultEvent k) s l).pool.charger = s.pool.charger ∧
    (List.foldl (State.faultEvent k) s l).pool.chargerFault = s.pool.chargerFault ∧
    (List.foldl (State.faultEvent k) s l).pool.staleStore = s.pool.staleStore ∧
    (List.foldl (State.faultEvent k) s l).capture.memory = s.capture.memory ∧
    (List.foldl (State.faultEvent k) s l).ring.counters = s.ring.counters ∧
    (List.foldl (State.faultEvent k) s l).banks = s.banks ∧
    (List.foldl (State.faultEvent k) s l).management.requests = s.management.requests ∧
    (List.foldl (State.faultEvent k) s l).management.snapshot = s.management.snapshot ∧
    (List.foldl (State.faultEvent k) s l).management.reportsDropped = s.management.reportsDropped ∧
    (List.foldl (State.faultEvent k) s l).handed = s.handed := by
  induction l generalizing s with
  | nil => simp
  | cons a l ih => simp [ih]

@[simp] theorem State.faultEffects_frame (s : State)(k : Station) :
    (State.faultEffects s k).now = s.now ∧ (State.faultEffects s k).pending = s.pending ∧
    (State.faultEffects s k).events.openCounter = s.events.openCounter ∧
    (State.faultEffects s k).events.closeCounter = s.events.closeCounter ∧
    (State.faultEffects s k).pool.budget = s.pool.budget ∧
    (State.faultEffects s k).pool.storeState = s.pool.storeState ∧
    (State.faultEffects s k).pool.inEffect = s.pool.inEffect ∧
    (State.faultEffects s k).pool.storeSilence = s.pool.storeSilence ∧
    (State.faultEffects s k).pool.storeBaseline = s.pool.storeBaseline ∧
    (State.faultEffects s k).pool.charger = s.pool.charger ∧
    (State.faultEffects s k).pool.chargerFault = s.pool.chargerFault ∧
    (State.faultEffects s k).pool.staleStore = s.pool.staleStore ∧
    (State.faultEffects s k).capture.memory = s.capture.memory ∧
    (State.faultEffects s k).ring.counters = s.ring.counters ∧ (State.faultEffects s k).banks = s.banks ∧
    (State.faultEffects s k).management.requests = s.management.requests ∧
    (State.faultEffects s k).management.snapshot = s.management.snapshot ∧
    (State.faultEffects s k).management.reportsDropped = s.management.reportsDropped ∧
    (State.faultEffects s k).handed = s.handed := by
  generalize h : State.faultEffects s k = t
  unfold State.faultEffects at h
  try dsimp only at h
  (repeat' split at h) <;> subst h <;> simp

@[simp] theorem State.reportFault_frame (s : State)(k : Station)(c : Option Command) (n : Nat) (i : Option EventIx) (r : Option ReleaseIx) :
    (State.reportFault s k c n i r).now = s.now ∧ (State.reportFault s k c n i r).pending = s.pending ∧
    (State.reportFault s k c n i r).events.openCounter = s.events.openCounter ∧
    (State.reportFault s k c n i r).events.closeCounter = s.events.closeCounter ∧
    (State.reportFault s k c n i r).events.waitCounter = s.events.waitCounter ∧
    (State.reportFault s k c n i r).pool.budget = s.pool.budget ∧
    (State.reportFault s k c n i r).pool.free = s.pool.free ∧
    (State.reportFault s k c n i r).pool.drawn = s.pool.drawn ∧
    (State.reportFault s k c n i r).pool.grantQueue = s.pool.grantQueue ∧
    (State.reportFault s k c n i r).pool.creationCounter = s.pool.creationCounter ∧
    (State.reportFault s k c n i r).pool.storeState = s.pool.storeState ∧
    (State.reportFault s k c n i r).pool.inEffect = s.pool.inEffect ∧
    (State.reportFault s k c n i r).pool.storeSilence = s.pool.storeSilence ∧
    (State.reportFault s k c n i r).pool.storeBaseline = s.pool.storeBaseline ∧
    (State.reportFault s k c n i r).pool.charger = s.pool.charger ∧
    (State.reportFault s k c n i r).pool.chargerFault = s.pool.chargerFault ∧
    (State.reportFault s k c n i r).pool.staleStore = s.pool.staleStore ∧
    (State.reportFault s k c n i r).pool.passDue = s.pool.passDue ∧
    (State.reportFault s k c n i r).capture.memory = s.capture.memory ∧
    (State.reportFault s k c n i r).ring.counters = s.ring.counters ∧
    (State.reportFault s k c n i r).banks = s.banks ∧
    (State.reportFault s k c n i r).management.requests = s.management.requests ∧
    (State.reportFault s k c n i r).management.snapshot = s.management.snapshot ∧
    (State.reportFault s k c n i r).handed = s.handed := by
  generalize h : State.reportFault s k c n i r = t
  unfold State.reportFault at h
  try dsimp only at h
  (repeat' split at h) <;> subst h <;> simp

@[simp] theorem State.trip_frame (s : State)(k : Station) :
    (State.trip s k).now = s.now ∧ (State.trip s k).pending = s.pending ∧
    (State.trip s k).events.openCounter = s.events.openCounter ∧
    (State.trip s k).events.closeCounter = s.events.closeCounter ∧
    (State.trip s k).pool.budget = s.pool.budget ∧ (State.trip s k).pool.storeState = s.pool.storeState ∧
    (State.trip s k).pool.inEffect = s.pool.inEffect ∧
    (State.trip s k).pool.storeSilence = s.pool.storeSilence ∧
    (State.trip s k).pool.storeBaseline = s.pool.storeBaseline ∧
    (State.trip s k).pool.charger = s.pool.charger ∧ (State.trip s k).pool.chargerFault = s.pool.chargerFault ∧
    (State.trip s k).pool.staleStore = s.pool.staleStore ∧ (State.trip s k).capture.memory = s.capture.memory ∧
    (State.trip s k).ring.counters = s.ring.counters ∧ (State.trip s k).banks = s.banks ∧
    (State.trip s k).management.requests = s.management.requests ∧
    (State.trip s k).management.snapshot = s.management.snapshot ∧ (State.trip s k).handed = s.handed := by
  generalize h : State.trip s k = t
  unfold State.trip at h
  try dsimp only at h
  (repeat' split at h) <;> subst h <;> simp

@[simp] theorem State.settleAcknowledged_frame (s : State)(k : Station)(q : Seq) :
    (State.settleAcknowledged s k q).now = s.now ∧ (State.settleAcknowledged s k q).pending = s.pending ∧
    (State.settleAcknowledged s k q).channels = s.channels ∧
    (State.settleAcknowledged s k q).events.openCounter = s.events.openCounter ∧
    (State.settleAcknowledged s k q).events.closeCounter = s.events.closeCounter ∧
    (State.settleAcknowledged s k q).events.waitCounter = s.events.waitCounter ∧
    (State.settleAcknowledged s k q).pool.budget = s.pool.budget ∧
    (State.settleAcknowledged s k q).pool.free = s.pool.free ∧
    (State.settleAcknowledged s k q).pool.drawn = s.pool.drawn ∧
    (State.settleAcknowledged s k q).pool.grantQueue = s.pool.grantQueue ∧
    (State.settleAcknowledged s k q).pool.creationCounter = s.pool.creationCounter ∧
    (State.settleAcknowledged s k q).pool.storeState = s.pool.storeState ∧
    (State.settleAcknowledged s k q).pool.inEffect = s.pool.inEffect ∧
    (State.settleAcknowledged s k q).pool.storeSilence = s.pool.storeSilence ∧
    (State.settleAcknowledged s k q).pool.storeBaseline = s.pool.storeBaseline ∧
    (State.settleAcknowledged s k q).pool.charger = s.pool.charger ∧
    (State.settleAcknowledged s k q).pool.chargerFault = s.pool.chargerFault ∧
    (State.settleAcknowledged s k q).pool.staleStore = s.pool.staleStore ∧
    (State.settleAcknowledged s k q).pool.passDue = s.pool.passDue ∧
    (State.settleAcknowledged s k q).capture.memory = s.capture.memory ∧
    (State.settleAcknowledged s k q).ring.counters = s.ring.counters ∧
    (State.settleAcknowledged s k q).banks = s.banks ∧
    (State.settleAcknowledged s k q).management.requests = s.management.requests ∧
    (State.settleAcknowledged s k q).management.snapshot = s.management.snapshot ∧
    (State.settleAcknowledged s k q).management.reportsDropped = s.management.reportsDropped ∧
    (State.settleAcknowledged s k q).handed = s.handed := by
  generalize h : State.settleAcknowledged s k q = t
  unfold State.settleAcknowledged at h
  try dsimp only at h
  (repeat' split at h) <;> subst h <;> simp

@[simp] theorem State.settleFaults_frame (s : State)(k : Station)(x : StackState) :
    (State.settleFaults s k x).now = s.now ∧ (State.settleFaults s k x).pending = s.pending ∧
    (State.settleFaults s k x).events.openCounter = s.events.openCounter ∧
    (State.settleFaults s k x).events.closeCounter = s.events.closeCounter ∧
    (State.settleFaults s k x).pool.budget = s.pool.budget ∧
    (State.settleFaults s k x).pool.storeState = s.pool.storeState ∧
    (State.settleFaults s k x).pool.inEffect = s.pool.inEffect ∧
    (State.settleFaults s k x).pool.storeSilence = s.pool.storeSilence ∧
    (State.settleFaults s k x).pool.storeBaseline = s.pool.storeBaseline ∧
    (State.settleFaults s k x).pool.charger = s.pool.charger ∧
    (State.settleFaults s k x).pool.chargerFault = s.pool.chargerFault ∧
    (State.settleFaults s k x).pool.staleStore = s.pool.staleStore ∧
    (State.settleFaults s k x).capture.memory = s.capture.memory ∧
    (State.settleFaults s k x).ring.counters = s.ring.counters ∧ (State.settleFaults s k x).banks = s.banks ∧
    (State.settleFaults s k x).management.requests = s.management.requests ∧
    (State.settleFaults s k x).management.snapshot = s.management.snapshot ∧
    (State.settleFaults s k x).handed = s.handed := by
  generalize h : State.settleFaults s k x = t
  unfold State.settleFaults at h
  try dsimp only at h
  (repeat' split at h) <;> subst h <;> simp

@[simp] theorem State.tidyStack_frame (s : State)(k : Station)(x : StackState) :
    (State.tidyStack s k x).now = s.now ∧ (State.tidyStack s k x).pending = s.pending ∧
    (State.tidyStack s k x).channels = s.channels ∧
    (State.tidyStack s k x).events.openCounter = s.events.openCounter ∧
    (State.tidyStack s k x).events.closeCounter = s.events.closeCounter ∧
    (State.tidyStack s k x).events.waitCounter = s.events.waitCounter ∧
    (State.tidyStack s k x).pool.budget = s.pool.budget ∧ (State.tidyStack s k x).pool.free = s.pool.free ∧
    (State.tidyStack s k x).pool.drawn = s.pool.drawn ∧
    (State.tidyStack s k x).pool.grantQueue = s.pool.grantQueue ∧
    (State.tidyStack s k x).pool.creationCounter = s.pool.creationCounter ∧
    (State.tidyStack s k x).pool.storeState = s.pool.storeState ∧
    (State.tidyStack s k x).pool.inEffect = s.pool.inEffect ∧
    (State.tidyStack s k x).pool.storeSilence = s.pool.storeSilence ∧
    (State.tidyStack s k x).pool.storeBaseline = s.pool.storeBaseline ∧
    (State.tidyStack s k x).pool.charger = s.pool.charger ∧
    (State.tidyStack s k x).pool.chargerFault = s.pool.chargerFault ∧
    (State.tidyStack s k x).pool.staleStore = s.pool.staleStore ∧
    (State.tidyStack s k x).pool.passDue = s.pool.passDue ∧
    (State.tidyStack s k x).capture.memory = s.capture.memory ∧
    (State.tidyStack s k x).ring.counters = s.ring.counters ∧ (State.tidyStack s k x).banks = s.banks ∧
    (State.tidyStack s k x).management.requests = s.management.requests ∧
    (State.tidyStack s k x).management.snapshot = s.management.snapshot ∧
    (State.tidyStack s k x).management.reportsDropped = s.management.reportsDropped ∧
    (State.tidyStack s k x).handed = s.handed := by
  generalize h : State.tidyStack s k x = t
  unfold State.tidyStack at h
  try dsimp only at h
  (repeat' split at h) <;> subst h <;> simp

@[simp] theorem State.takeNotice_frame (s : State)(n : Notice) :
    (State.takeNotice s n).now = s.now ∧ (State.takeNotice s n).pending = s.pending ∧
    (State.takeNotice s n).channels = s.channels ∧
    (State.takeNotice s n).events.openCounter = s.events.openCounter ∧
    (State.takeNotice s n).events.closeCounter = s.events.closeCounter ∧
    (State.takeNotice s n).events.waitCounter = s.events.waitCounter ∧
    (State.takeNotice s n).pool.budget = s.pool.budget ∧
    (State.takeNotice s n).pool.storeState = s.pool.storeState ∧
    (State.takeNotice s n).pool.inEffect = s.pool.inEffect ∧
    (State.takeNotice s n).pool.storeSilence = s.pool.storeSilence ∧
    (State.takeNotice s n).pool.storeBaseline = s.pool.storeBaseline ∧
    (State.takeNotice s n).pool.charger = s.pool.charger ∧
    (State.takeNotice s n).pool.chargerFault = s.pool.chargerFault ∧
    (State.takeNotice s n).pool.staleStore = s.pool.staleStore ∧
    (State.takeNotice s n).capture.memory = s.capture.memory ∧
    (State.takeNotice s n).ring.counters = s.ring.counters ∧ (State.takeNotice s n).banks = s.banks ∧
    (State.takeNotice s n).management.requests = s.management.requests ∧
    (State.takeNotice s n).management.snapshot = s.management.snapshot ∧
    (State.takeNotice s n).management.reportsDropped = s.management.reportsDropped ∧
    (State.takeNotice s n).handed = s.handed := by
  generalize h : State.takeNotice s n = t
  unfold State.takeNotice at h
  try dsimp only at h
  (repeat' split at h) <;> subst h <;> simp

@[simp] theorem State.notify_frame (s : State)(n : Notice) (turn : NoticeTurn) :
    (State.notify s n turn).now = s.now ∧ (State.notify s n turn).pending = s.pending ∧
    (State.notify s n turn).channels = s.channels ∧
    (State.notify s n turn).events.openCounter = s.events.openCounter ∧
    (State.notify s n turn).events.closeCounter = s.events.closeCounter ∧
    (State.notify s n turn).events.waitCounter = s.events.waitCounter ∧
    (State.notify s n turn).pool.budget = s.pool.budget ∧
    (State.notify s n turn).pool.storeState = s.pool.storeState ∧
    (State.notify s n turn).pool.inEffect = s.pool.inEffect ∧
    (State.notify s n turn).pool.storeSilence = s.pool.storeSilence ∧
    (State.notify s n turn).pool.storeBaseline = s.pool.storeBaseline ∧
    (State.notify s n turn).pool.charger = s.pool.charger ∧
    (State.notify s n turn).pool.chargerFault = s.pool.chargerFault ∧
    (State.notify s n turn).pool.staleStore = s.pool.staleStore ∧
    (State.notify s n turn).capture.memory = s.capture.memory ∧
    (State.notify s n turn).ring.counters = s.ring.counters ∧ (State.notify s n turn).banks = s.banks ∧
    (State.notify s n turn).management.requests = s.management.requests ∧
    (State.notify s n turn).management.snapshot = s.management.snapshot ∧
    (State.notify s n turn).management.reportsDropped = s.management.reportsDropped ∧
    (State.notify s n turn).handed.sense = s.handed.sense ∧
    (State.notify s n turn).handed.injection = s.handed.injection ∧
    (State.notify s n turn).handed.envelope = s.handed.envelope ∧
    (State.notify s n turn).handed.capture = s.handed.capture ∧
    (State.notify s n turn).handed.store = s.handed.store ∧
    (State.notify s n turn).handed.status = s.handed.status ∧
    (State.notify s n turn).handed.topups = s.handed.topups := by
  generalize h : State.notify s n turn = t
  unfold State.notify at h
  try dsimp only at h
  (repeat' split at h) <;> subst h <;> simp

@[simp] theorem State.statusSteps_frame (s : State)(k : Station)(x : HandedStatus) (turn : NoticeTurn) :
    (State.statusSteps s k x turn).now = s.now ∧ (State.statusSteps s k x turn).pending = s.pending ∧
    (State.statusSteps s k x turn).events.openCounter = s.events.openCounter ∧
    (State.statusSteps s k x turn).events.closeCounter = s.events.closeCounter ∧
    (State.statusSteps s k x turn).pool.budget = s.pool.budget ∧
    (State.statusSteps s k x turn).pool.storeState = s.pool.storeState ∧
    (State.statusSteps s k x turn).pool.inEffect = s.pool.inEffect ∧
    (State.statusSteps s k x turn).pool.storeSilence = s.pool.storeSilence ∧
    (State.statusSteps s k x turn).pool.storeBaseline = s.pool.storeBaseline ∧
    (State.statusSteps s k x turn).pool.charger = s.pool.charger ∧
    (State.statusSteps s k x turn).pool.chargerFault = s.pool.chargerFault ∧
    (State.statusSteps s k x turn).pool.staleStore = s.pool.staleStore ∧
    (State.statusSteps s k x turn).capture.memory = s.capture.memory ∧
    (State.statusSteps s k x turn).ring.counters = s.ring.counters ∧
    (State.statusSteps s k x turn).banks = s.banks ∧
    (State.statusSteps s k x turn).management.requests = s.management.requests ∧
    (State.statusSteps s k x turn).management.snapshot = s.management.snapshot ∧
    (State.statusSteps s k x turn).handed.sense = s.handed.sense ∧
    (State.statusSteps s k x turn).handed.injection = s.handed.injection ∧
    (State.statusSteps s k x turn).handed.envelope = s.handed.envelope ∧
    (State.statusSteps s k x turn).handed.capture = s.handed.capture ∧
    (State.statusSteps s k x turn).handed.store = s.handed.store ∧
    (State.statusSteps s k x turn).handed.status = s.handed.status ∧
    (State.statusSteps s k x turn).handed.topups = s.handed.topups := by
  generalize h : State.statusSteps s k x turn = t
  unfold State.statusSteps at h
  try dsimp only at h
  subst h; simp

@[simp] theorem State.takeStatus_frame (s : State)(x : HandedStatus) (turn : NoticeTurn) :
    (State.takeStatus s x turn).now = s.now ∧ (State.takeStatus s x turn).pending = s.pending ∧
    (State.takeStatus s x turn).events.openCounter = s.events.openCounter ∧
    (State.takeStatus s x turn).events.closeCounter = s.events.closeCounter ∧
    (State.takeStatus s x turn).pool.budget = s.pool.budget ∧
    (State.takeStatus s x turn).pool.storeState = s.pool.storeState ∧
    (State.takeStatus s x turn).pool.inEffect = s.pool.inEffect ∧
    (State.takeStatus s x turn).pool.storeSilence = s.pool.storeSilence ∧
    (State.takeStatus s x turn).pool.storeBaseline = s.pool.storeBaseline ∧
    (State.takeStatus s x turn).pool.charger = s.pool.charger ∧
    (State.takeStatus s x turn).pool.chargerFault = s.pool.chargerFault ∧
    (State.takeStatus s x turn).pool.staleStore = s.pool.staleStore ∧
    (State.takeStatus s x turn).capture.memory = s.capture.memory ∧
    (State.takeStatus s x turn).banks = s.banks ∧
    (State.takeStatus s x turn).management.requests = s.management.requests ∧
    (State.takeStatus s x turn).management.snapshot = s.management.snapshot ∧
    (State.takeStatus s x turn).handed.sense = s.handed.sense ∧
    (State.takeStatus s x turn).handed.injection = s.handed.injection ∧
    (State.takeStatus s x turn).handed.envelope = s.handed.envelope ∧
    (State.takeStatus s x turn).handed.capture = s.handed.capture ∧
    (State.takeStatus s x turn).handed.store = s.handed.store ∧
    (State.takeStatus s x turn).handed.status = s.handed.status ∧
    (State.takeStatus s x turn).handed.topups = s.handed.topups := by
  generalize h : State.takeStatus s x turn = t
  unfold State.takeStatus at h
  try dsimp only at h
  (repeat' split at h) <;> subst h <;> simp

@[simp] theorem State.flush_frame (s : State)(k : Station) :
    (State.flush s k).now = s.now ∧ (State.flush s k).pending = s.pending ∧
    (State.flush s k).channels = s.channels ∧ (State.flush s k).events.openCounter = s.events.openCounter ∧
    (State.flush s k).events.closeCounter = s.events.closeCounter ∧
    (State.flush s k).events.waitCounter = s.events.waitCounter ∧
    (State.flush s k).pool.budget = s.pool.budget ∧ (State.flush s k).pool.free = s.pool.free ∧
    (State.flush s k).pool.drawn = s.pool.drawn ∧ (State.flush s k).pool.grantQueue = s.pool.grantQueue ∧
    (State.flush s k).pool.creationCounter = s.pool.creationCounter ∧
    (State.flush s k).pool.storeState = s.pool.storeState ∧ (State.flush s k).pool.inEffect = s.pool.inEffect ∧
    (State.flush s k).pool.storeSilence = s.pool.storeSilence ∧
    (State.flush s k).pool.storeBaseline = s.pool.storeBaseline ∧
    (State.flush s k).pool.charger = s.pool.charger ∧
    (State.flush s k).pool.chargerFault = s.pool.chargerFault ∧
    (State.flush s k).pool.staleStore = s.pool.staleStore ∧ (State.flush s k).pool.passDue = s.pool.passDue ∧
    (State.flush s k).capture.memory = s.capture.memory ∧ (State.flush s k).ring.counters = s.ring.counters ∧
    (State.flush s k).banks = s.banks ∧ (State.flush s k).management.requests = s.management.requests ∧
    (State.flush s k).management.snapshot = s.management.snapshot ∧
    (State.flush s k).management.reportsDropped = s.management.reportsDropped ∧
    (State.flush s k).handed = s.handed := by
  generalize h : State.flush s k = t
  unfold State.flush at h
  try dsimp only at h
  subst h; simp

@[simp] theorem State.ackExpires_frame (s : State)(k : Station) :
    (State.ackExpires s k).now = s.now ∧ (State.ackExpires s k).pending = s.pending ∧
    (State.ackExpires s k).events.openCounter = s.events.openCounter ∧
    (State.ackExpires s k).events.closeCounter = s.events.closeCounter ∧
    (State.ackExpires s k).pool.budget = s.pool.budget ∧
    (State.ackExpires s k).pool.storeState = s.pool.storeState ∧
    (State.ackExpires s k).pool.inEffect = s.pool.inEffect ∧
    (State.ackExpires s k).pool.storeSilence = s.pool.storeSilence ∧
    (State.ackExpires s k).pool.storeBaseline = s.pool.storeBaseline ∧
    (State.ackExpires s k).pool.charger = s.pool.charger ∧
    (State.ackExpires s k).pool.chargerFault = s.pool.chargerFault ∧
    (State.ackExpires s k).pool.staleStore = s.pool.staleStore ∧
    (State.ackExpires s k).capture.memory = s.capture.memory ∧
    (State.ackExpires s k).ring.counters = s.ring.counters ∧ (State.ackExpires s k).banks = s.banks ∧
    (State.ackExpires s k).management.requests = s.management.requests ∧
    (State.ackExpires s k).management.snapshot = s.management.snapshot ∧
    (State.ackExpires s k).handed = s.handed := by
  generalize h : State.ackExpires s k = t
  unfold State.ackExpires at h
  try dsimp only at h
  (repeat' split at h) <;> subst h <;> simp

/-! ## Buses -/

@[simp] theorem State.adopt_frame (s : State)(b : Bus) :
    (State.adopt s b).now = s.now ∧ (State.adopt s b).pending = s.pending ∧
    (State.adopt s b).events = s.events ∧ (State.adopt s b).pool = s.pool ∧
    (State.adopt s b).injection = s.injection ∧ (State.adopt s b).views = s.views ∧
    (State.adopt s b).capture = s.capture ∧ (State.adopt s b).ring = s.ring ∧
    (State.adopt s b).banks = s.banks ∧ (State.adopt s b).management = s.management ∧
    (State.adopt s b).handed = s.handed := by
  generalize h : State.adopt s b = t
  unfold State.adopt at h
  try dsimp only at h
  subst h; simp

@[simp] theorem State.tidyBus_frame (s : State)(b : Bus) :
    (State.tidyBus s b).now = s.now ∧ (State.tidyBus s b).pending = s.pending ∧
    (State.tidyBus s b).channels = s.channels ∧ (State.tidyBus s b).events.openCounter = s.events.openCounter ∧
    (State.tidyBus s b).events.closeCounter = s.events.closeCounter ∧
    (State.tidyBus s b).events.waitCounter = s.events.waitCounter ∧
    (State.tidyBus s b).pool.budget = s.pool.budget ∧ (State.tidyBus s b).pool.free = s.pool.free ∧
    (State.tidyBus s b).pool.drawn = s.pool.drawn ∧ (State.tidyBus s b).pool.grantQueue = s.pool.grantQueue ∧
    (State.tidyBus s b).pool.creationCounter = s.pool.creationCounter ∧
    (State.tidyBus s b).pool.storeState = s.pool.storeState ∧
    (State.tidyBus s b).pool.inEffect = s.pool.inEffect ∧
    (State.tidyBus s b).pool.storeSilence = s.pool.storeSilence ∧
    (State.tidyBus s b).pool.storeBaseline = s.pool.storeBaseline ∧
    (State.tidyBus s b).pool.charger = s.pool.charger ∧
    (State.tidyBus s b).pool.chargerFault = s.pool.chargerFault ∧
    (State.tidyBus s b).pool.staleStore = s.pool.staleStore ∧
    (State.tidyBus s b).pool.passDue = s.pool.passDue ∧ (State.tidyBus s b).capture.memory = s.capture.memory ∧
    (State.tidyBus s b).ring.counters = s.ring.counters ∧ (State.tidyBus s b).banks = s.banks ∧
    (State.tidyBus s b).management.requests = s.management.requests ∧
    (State.tidyBus s b).management.snapshot = s.management.snapshot ∧
    (State.tidyBus s b).management.reportsDropped = s.management.reportsDropped ∧
    (State.tidyBus s b).handed = s.handed := by
  generalize h : State.tidyBus s b = t
  unfold State.tidyBus at h
  try dsimp only at h
  (repeat' split at h) <;> subst h <;> simp

@[simp] theorem State.enterNormal_frame (s : State)(b : Bus) :
    (State.enterNormal s b).now = s.now ∧ (State.enterNormal s b).pending = s.pending ∧
    (State.enterNormal s b).events.openCounter = s.events.openCounter ∧
    (State.enterNormal s b).events.closeCounter = s.events.closeCounter ∧
    (State.enterNormal s b).events.waitCounter = s.events.waitCounter ∧
    (State.enterNormal s b).pool.budget = s.pool.budget ∧ (State.enterNormal s b).pool.free = s.pool.free ∧
    (State.enterNormal s b).pool.drawn = s.pool.drawn ∧
    (State.enterNormal s b).pool.grantQueue = s.pool.grantQueue ∧
    (State.enterNormal s b).pool.creationCounter = s.pool.creationCounter ∧
    (State.enterNormal s b).pool.storeState = s.pool.storeState ∧
    (State.enterNormal s b).pool.inEffect = s.pool.inEffect ∧
    (State.enterNormal s b).pool.storeSilence = s.pool.storeSilence ∧
    (State.enterNormal s b).pool.storeBaseline = s.pool.storeBaseline ∧
    (State.enterNormal s b).pool.charger = s.pool.charger ∧
    (State.enterNormal s b).pool.chargerFault = s.pool.chargerFault ∧
    (State.enterNormal s b).pool.staleStore = s.pool.staleStore ∧
    (State.enterNormal s b).pool.passDue = s.pool.passDue ∧
    (State.enterNormal s b).capture.memory = s.capture.memory ∧
    (State.enterNormal s b).ring.counters = s.ring.counters ∧ (State.enterNormal s b).banks = s.banks ∧
    (State.enterNormal s b).management.requests = s.management.requests ∧
    (State.enterNormal s b).management.snapshot = s.management.snapshot ∧
    (State.enterNormal s b).management.reportsDropped = s.management.reportsDropped ∧
    (State.enterNormal s b).handed = s.handed := by
  generalize h : State.enterNormal s b = t
  unfold State.enterNormal at h
  try dsimp only at h
  subst h; simp

@[simp] theorem State.endUntracked_frame (s : State)(b : Bus) :
    (State.endUntracked s b).now = s.now ∧ (State.endUntracked s b).pending = s.pending ∧
    (State.endUntracked s b).events = s.events ∧ (State.endUntracked s b).pool = s.pool ∧
    (State.endUntracked s b).injection = s.injection ∧ (State.endUntracked s b).views = s.views ∧
    (State.endUntracked s b).capture = s.capture ∧ (State.endUntracked s b).ring = s.ring ∧
    (State.endUntracked s b).banks = s.banks ∧ (State.endUntracked s b).management = s.management ∧
    (State.endUntracked s b).handed = s.handed := by
  generalize h : State.endUntracked s b = t
  unfold State.endUntracked at h
  try dsimp only at h
  (repeat' split at h) <;> subst h <;> simp

@[simp] theorem State.endSag_frame (s : State)(b : Bus)(cause : EndCause) :
    (State.endSag s b cause).now = s.now ∧ (State.endSag s b cause).pending = s.pending ∧
    (State.endSag s b cause).events.openCounter = s.events.openCounter ∧
    (State.endSag s b cause).pool.budget = s.pool.budget ∧
    (State.endSag s b cause).pool.storeState = s.pool.storeState ∧
    (State.endSag s b cause).pool.inEffect = s.pool.inEffect ∧
    (State.endSag s b cause).pool.storeSilence = s.pool.storeSilence ∧
    (State.endSag s b cause).pool.storeBaseline = s.pool.storeBaseline ∧
    (State.endSag s b cause).pool.charger = s.pool.charger ∧
    (State.endSag s b cause).pool.chargerFault = s.pool.chargerFault ∧
    (State.endSag s b cause).pool.staleStore = s.pool.staleStore ∧
    (State.endSag s b cause).capture.memory = s.capture.memory ∧
    (State.endSag s b cause).ring.counters = s.ring.counters ∧ (State.endSag s b cause).banks = s.banks ∧
    (State.endSag s b cause).management.requests = s.management.requests ∧
    (State.endSag s b cause).management.snapshot = s.management.snapshot ∧
    (State.endSag s b cause).management.reportsDropped = s.management.reportsDropped ∧
    (State.endSag s b cause).handed = s.handed := by
  generalize h : State.endSag s b cause = t
  unfold State.endSag at h
  try dsimp only at h
  (repeat' split at h) <;> subst h <;> simp

@[simp] theorem State.confirmSag_frame (s : State)(b : Bus)(r : BusRow)(f : AcceptedFrame) :
    (State.confirmSag s b r f).now = s.now ∧ (State.confirmSag s b r f).pending = s.pending ∧
    (State.confirmSag s b r f).events.closeCounter = s.events.closeCounter ∧
    (State.confirmSag s b r f).events.waitCounter = s.events.waitCounter ∧
    (State.confirmSag s b r f).pool.budget = s.pool.budget ∧
    (State.confirmSag s b r f).pool.free = s.pool.free ∧ (State.confirmSag s b r f).pool.drawn = s.pool.drawn ∧
    (State.confirmSag s b r f).pool.creationCounter = s.pool.creationCounter ∧
    (State.confirmSag s b r f).pool.storeState = s.pool.storeState ∧
    (State.confirmSag s b r f).pool.inEffect = s.pool.inEffect ∧
    (State.confirmSag s b r f).pool.storeSilence = s.pool.storeSilence ∧
    (State.confirmSag s b r f).pool.storeBaseline = s.pool.storeBaseline ∧
    (State.confirmSag s b r f).pool.charger = s.pool.charger ∧
    (State.confirmSag s b r f).pool.chargerFault = s.pool.chargerFault ∧
    (State.confirmSag s b r f).pool.staleStore = s.pool.staleStore ∧
    (State.confirmSag s b r f).ring.counters = s.ring.counters ∧ (State.confirmSag s b r f).banks = s.banks ∧
    (State.confirmSag s b r f).management.requests = s.management.requests ∧
    (State.confirmSag s b r f).management.snapshot = s.management.snapshot ∧
    (State.confirmSag s b r f).handed.sense = s.handed.sense ∧
    (State.confirmSag s b r f).handed.injection = s.handed.injection ∧
    (State.confirmSag s b r f).handed.envelope = s.handed.envelope ∧
    (State.confirmSag s b r f).handed.store = s.handed.store ∧
    (State.confirmSag s b r f).handed.status = s.handed.status ∧
    (State.confirmSag s b r f).handed.topups = s.handed.topups ∧
    (State.confirmSag s b r f).handed.notices = s.handed.notices := by
  generalize h : State.confirmSag s b r f = t
  unfold State.confirmSag at h
  dsimp only at h
  split at h
  · rename_i heq
    have hf := State.openEvent_frame _ _ _ _ _ _ heq
    dsimp only at hf
    subst h; simp [hf]
  · subst h; simp

@[simp] theorem State.evaluateSwell_frame (s : State)(b : Bus)(r : BusRow)(f : AcceptedFrame) :
    (State.evaluateSwell s b r f).now = s.now ∧ (State.evaluateSwell s b r f).pending = s.pending ∧
    (State.evaluateSwell s b r f).events = s.events ∧ (State.evaluateSwell s b r f).pool = s.pool ∧
    (State.evaluateSwell s b r f).injection = s.injection ∧ (State.evaluateSwell s b r f).views = s.views ∧
    (State.evaluateSwell s b r f).capture = s.capture ∧ (State.evaluateSwell s b r f).ring = s.ring ∧
    (State.evaluateSwell s b r f).banks = s.banks ∧ (State.evaluateSwell s b r f).management = s.management ∧
    (State.evaluateSwell s b r f).handed = s.handed := by
  generalize h : State.evaluateSwell s b r f = t
  unfold State.evaluateSwell at h
  try dsimp only at h
  (repeat' split at h) <;> subst h <;> simp

@[simp] theorem State.evaluateNormal_frame (s : State)(b : Bus)(r : BusRow)(f : AcceptedFrame) :
    (State.evaluateNormal s b r f).now = s.now ∧ (State.evaluateNormal s b r f).pending = s.pending ∧
    (State.evaluateNormal s b r f).events.closeCounter = s.events.closeCounter ∧
    (State.evaluateNormal s b r f).events.waitCounter = s.events.waitCounter ∧
    (State.evaluateNormal s b r f).pool.budget = s.pool.budget ∧
    (State.evaluateNormal s b r f).pool.free = s.pool.free ∧
    (State.evaluateNormal s b r f).pool.drawn = s.pool.drawn ∧
    (State.evaluateNormal s b r f).pool.creationCounter = s.pool.creationCounter ∧
    (State.evaluateNormal s b r f).pool.storeState = s.pool.storeState ∧
    (State.evaluateNormal s b r f).pool.inEffect = s.pool.inEffect ∧
    (State.evaluateNormal s b r f).pool.storeSilence = s.pool.storeSilence ∧
    (State.evaluateNormal s b r f).pool.storeBaseline = s.pool.storeBaseline ∧
    (State.evaluateNormal s b r f).pool.charger = s.pool.charger ∧
    (State.evaluateNormal s b r f).pool.chargerFault = s.pool.chargerFault ∧
    (State.evaluateNormal s b r f).pool.staleStore = s.pool.staleStore ∧
    (State.evaluateNormal s b r f).ring.counters = s.ring.counters ∧
    (State.evaluateNormal s b r f).banks = s.banks ∧
    (State.evaluateNormal s b r f).management.requests = s.management.requests ∧
    (State.evaluateNormal s b r f).management.snapshot = s.management.snapshot ∧
    (State.evaluateNormal s b r f).handed.sense = s.handed.sense ∧
    (State.evaluateNormal s b r f).handed.injection = s.handed.injection ∧
    (State.evaluateNormal s b r f).handed.envelope = s.handed.envelope ∧
    (State.evaluateNormal s b r f).handed.store = s.handed.store ∧
    (State.evaluateNormal s b r f).handed.status = s.handed.status ∧
    (State.evaluateNormal s b r f).handed.topups = s.handed.topups ∧
    (State.evaluateNormal s b r f).handed.notices = s.handed.notices := by
  generalize h : State.evaluateNormal s b r f = t
  unfold State.evaluateNormal at h
  try dsimp only at h
  (repeat' split at h) <;> subst h <;> simp

@[simp] theorem State.evaluateSuspect_frame (s : State)(b : Bus)(r : BusRow)(f : AcceptedFrame) :
    (State.evaluateSuspect s b r f).now = s.now ∧ (State.evaluateSuspect s b r f).pending = s.pending ∧
    (State.evaluateSuspect s b r f).events.closeCounter = s.events.closeCounter ∧
    (State.evaluateSuspect s b r f).events.waitCounter = s.events.waitCounter ∧
    (State.evaluateSuspect s b r f).pool.budget = s.pool.budget ∧
    (State.evaluateSuspect s b r f).pool.free = s.pool.free ∧
    (State.evaluateSuspect s b r f).pool.drawn = s.pool.drawn ∧
    (State.evaluateSuspect s b r f).pool.creationCounter = s.pool.creationCounter ∧
    (State.evaluateSuspect s b r f).pool.storeState = s.pool.storeState ∧
    (State.evaluateSuspect s b r f).pool.inEffect = s.pool.inEffect ∧
    (State.evaluateSuspect s b r f).pool.storeSilence = s.pool.storeSilence ∧
    (State.evaluateSuspect s b r f).pool.storeBaseline = s.pool.storeBaseline ∧
    (State.evaluateSuspect s b r f).pool.charger = s.pool.charger ∧
    (State.evaluateSuspect s b r f).pool.chargerFault = s.pool.chargerFault ∧
    (State.evaluateSuspect s b r f).pool.staleStore = s.pool.staleStore ∧
    (State.evaluateSuspect s b r f).ring.counters = s.ring.counters ∧
    (State.evaluateSuspect s b r f).banks = s.banks ∧
    (State.evaluateSuspect s b r f).management.requests = s.management.requests ∧
    (State.evaluateSuspect s b r f).management.snapshot = s.management.snapshot ∧
    (State.evaluateSuspect s b r f).handed.sense = s.handed.sense ∧
    (State.evaluateSuspect s b r f).handed.injection = s.handed.injection ∧
    (State.evaluateSuspect s b r f).handed.envelope = s.handed.envelope ∧
    (State.evaluateSuspect s b r f).handed.store = s.handed.store ∧
    (State.evaluateSuspect s b r f).handed.status = s.handed.status ∧
    (State.evaluateSuspect s b r f).handed.topups = s.handed.topups ∧
    (State.evaluateSuspect s b r f).handed.notices = s.handed.notices := by
  generalize h : State.evaluateSuspect s b r f = t
  unfold State.evaluateSuspect at h
  try dsimp only at h
  (repeat' split at h) <;> subst h <;> simp

@[simp] theorem State.completeRecovery_frame (s : State)(b : Bus) :
    (State.completeRecovery s b).now = s.now ∧ (State.completeRecovery s b).pending = s.pending ∧
    (State.completeRecovery s b).events.openCounter = s.events.openCounter ∧
    (State.completeRecovery s b).pool.budget = s.pool.budget ∧
    (State.completeRecovery s b).pool.storeState = s.pool.storeState ∧
    (State.completeRecovery s b).pool.inEffect = s.pool.inEffect ∧
    (State.completeRecovery s b).pool.storeSilence = s.pool.storeSilence ∧
    (State.completeRecovery s b).pool.storeBaseline = s.pool.storeBaseline ∧
    (State.completeRecovery s b).pool.charger = s.pool.charger ∧
    (State.completeRecovery s b).pool.chargerFault = s.pool.chargerFault ∧
    (State.completeRecovery s b).pool.staleStore = s.pool.staleStore ∧
    (State.completeRecovery s b).capture.memory = s.capture.memory ∧
    (State.completeRecovery s b).ring.counters = s.ring.counters ∧
    (State.completeRecovery s b).banks = s.banks ∧
    (State.completeRecovery s b).management.requests = s.management.requests ∧
    (State.completeRecovery s b).management.snapshot = s.management.snapshot ∧
    (State.completeRecovery s b).management.reportsDropped = s.management.reportsDropped ∧
    (State.completeRecovery s b).handed = s.handed := by
  generalize h : State.completeRecovery s b = t
  unfold State.completeRecovery at h
  try dsimp only at h
  subst h; simp

@[simp] theorem State.lowerStrike_frame (s : State)(b : Bus)(f : AcceptedFrame) :
    (State.lowerStrike s b f).now = s.now ∧ (State.lowerStrike s b f).pending = s.pending ∧
    (State.lowerStrike s b f).channels = s.channels ∧
    (State.lowerStrike s b f).events.openCounter = s.events.openCounter ∧
    (State.lowerStrike s b f).events.closeCounter = s.events.closeCounter ∧
    (State.lowerStrike s b f).events.waitCounter = s.events.waitCounter ∧
    (State.lowerStrike s b f).pool = s.pool ∧ (State.lowerStrike s b f).injection = s.injection ∧
    (State.lowerStrike s b f).views = s.views ∧ (State.lowerStrike s b f).capture = s.capture ∧
    (State.lowerStrike s b f).ring = s.ring ∧ (State.lowerStrike s b f).banks = s.banks ∧
    (State.lowerStrike s b f).management = s.management ∧ (State.lowerStrike s b f).handed = s.handed := by
  generalize h : State.lowerStrike s b f = t
  unfold State.lowerStrike at h
  try dsimp only at h
  (repeat' split at h) <;> subst h <;> simp

@[simp] theorem State.evaluateSag_frame (s : State)(b : Bus)(r : BusRow)(f : AcceptedFrame) :
    (State.evaluateSag s b r f).now = s.now ∧ (State.evaluateSag s b r f).pending = s.pending ∧
    (State.evaluateSag s b r f).events.openCounter = s.events.openCounter ∧
    (State.evaluateSag s b r f).pool.budget = s.pool.budget ∧
    (State.evaluateSag s b r f).pool.storeState = s.pool.storeState ∧
    (State.evaluateSag s b r f).pool.inEffect = s.pool.inEffect ∧
    (State.evaluateSag s b r f).pool.storeSilence = s.pool.storeSilence ∧
    (State.evaluateSag s b r f).pool.storeBaseline = s.pool.storeBaseline ∧
    (State.evaluateSag s b r f).pool.charger = s.pool.charger ∧
    (State.evaluateSag s b r f).pool.chargerFault = s.pool.chargerFault ∧
    (State.evaluateSag s b r f).pool.staleStore = s.pool.staleStore ∧
    (State.evaluateSag s b r f).capture.memory = s.capture.memory ∧
    (State.evaluateSag s b r f).ring.counters = s.ring.counters ∧ (State.evaluateSag s b r f).banks = s.banks ∧
    (State.evaluateSag s b r f).management.requests = s.management.requests ∧
    (State.evaluateSag s b r f).management.snapshot = s.management.snapshot ∧
    (State.evaluateSag s b r f).management.reportsDropped = s.management.reportsDropped ∧
    (State.evaluateSag s b r f).handed = s.handed := by
  generalize h : State.evaluateSag s b r f = t
  unfold State.evaluateSag at h
  try dsimp only at h
  (repeat' split at h) <;> subst h <;> simp

@[simp] theorem State.renewStrike_frame (s : State)(b : Bus)(f : AcceptedFrame) :
    (State.renewStrike s b f).now = s.now ∧ (State.renewStrike s b f).pending = s.pending ∧
    (State.renewStrike s b f).channels = s.channels ∧
    (State.renewStrike s b f).events.openCounter = s.events.openCounter ∧
    (State.renewStrike s b f).events.closeCounter = s.events.closeCounter ∧
    (State.renewStrike s b f).events.waitCounter = s.events.waitCounter ∧
    (State.renewStrike s b f).pool = s.pool ∧ (State.renewStrike s b f).injection = s.injection ∧
    (State.renewStrike s b f).views = s.views ∧ (State.renewStrike s b f).capture = s.capture ∧
    (State.renewStrike s b f).ring = s.ring ∧ (State.renewStrike s b f).banks = s.banks ∧
    (State.renewStrike s b f).management = s.management ∧ (State.renewStrike s b f).handed = s.handed := by
  generalize h : State.renewStrike s b f = t
  unfold State.renewStrike at h
  try dsimp only at h
  (repeat' split at h) <;> subst h <;> simp

@[simp] theorem State.evaluateRecovering_frame (s : State)(b : Bus)(r : BusRow)(f : AcceptedFrame) :
    (State.evaluateRecovering s b r f).now = s.now ∧ (State.evaluateRecovering s b r f).pending = s.pending ∧
    (State.evaluateRecovering s b r f).events.openCounter = s.events.openCounter ∧
    (State.evaluateRecovering s b r f).pool.budget = s.pool.budget ∧
    (State.evaluateRecovering s b r f).pool.storeState = s.pool.storeState ∧
    (State.evaluateRecovering s b r f).pool.inEffect = s.pool.inEffect ∧
    (State.evaluateRecovering s b r f).pool.storeSilence = s.pool.storeSilence ∧
    (State.evaluateRecovering s b r f).pool.storeBaseline = s.pool.storeBaseline ∧
    (State.evaluateRecovering s b r f).pool.charger = s.pool.charger ∧
    (State.evaluateRecovering s b r f).pool.chargerFault = s.pool.chargerFault ∧
    (State.evaluateRecovering s b r f).pool.staleStore = s.pool.staleStore ∧
    (State.evaluateRecovering s b r f).capture.memory = s.capture.memory ∧
    (State.evaluateRecovering s b r f).ring.counters = s.ring.counters ∧
    (State.evaluateRecovering s b r f).banks = s.banks ∧
    (State.evaluateRecovering s b r f).management.requests = s.management.requests ∧
    (State.evaluateRecovering s b r f).management.snapshot = s.management.snapshot ∧
    (State.evaluateRecovering s b r f).management.reportsDropped = s.management.reportsDropped ∧
    (State.evaluateRecovering s b r f).handed = s.handed := by
  generalize h : State.evaluateRecovering s b r f = t
  unfold State.evaluateRecovering at h
  try dsimp only at h
  (repeat' split at h) <;> subst h <;> simp

@[simp] theorem State.reportByFrame_frame (s : State)(b : Bus)(left entered : Detection)(f : AcceptedFrame) :
    (State.reportByFrame s b left entered f).now = s.now ∧
    (State.reportByFrame s b left entered f).pending = s.pending ∧
    (State.reportByFrame s b left entered f).channels = s.channels ∧
    (State.reportByFrame s b left entered f).events.openCounter = s.events.openCounter ∧
    (State.reportByFrame s b left entered f).events.closeCounter = s.events.closeCounter ∧
    (State.reportByFrame s b left entered f).events.waitCounter = s.events.waitCounter ∧
    (State.reportByFrame s b left entered f).pool.budget = s.pool.budget ∧
    (State.reportByFrame s b left entered f).pool.free = s.pool.free ∧
    (State.reportByFrame s b left entered f).pool.drawn = s.pool.drawn ∧
    (State.reportByFrame s b left entered f).pool.grantQueue = s.pool.grantQueue ∧
    (State.reportByFrame s b left entered f).pool.creationCounter = s.pool.creationCounter ∧
    (State.reportByFrame s b left entered f).pool.storeState = s.pool.storeState ∧
    (State.reportByFrame s b left entered f).pool.inEffect = s.pool.inEffect ∧
    (State.reportByFrame s b left entered f).pool.storeSilence = s.pool.storeSilence ∧
    (State.reportByFrame s b left entered f).pool.storeBaseline = s.pool.storeBaseline ∧
    (State.reportByFrame s b left entered f).pool.charger = s.pool.charger ∧
    (State.reportByFrame s b left entered f).pool.chargerFault = s.pool.chargerFault ∧
    (State.reportByFrame s b left entered f).pool.staleStore = s.pool.staleStore ∧
    (State.reportByFrame s b left entered f).pool.passDue = s.pool.passDue ∧
    (State.reportByFrame s b left entered f).capture.memory = s.capture.memory ∧
    (State.reportByFrame s b left entered f).ring.counters = s.ring.counters ∧
    (State.reportByFrame s b left entered f).banks = s.banks ∧
    (State.reportByFrame s b left entered f).management.requests = s.management.requests ∧
    (State.reportByFrame s b left entered f).management.snapshot = s.management.snapshot ∧
    (State.reportByFrame s b left entered f).handed = s.handed := by
  generalize h : State.reportByFrame s b left entered f = t
  unfold State.reportByFrame at h
  try dsimp only at h
  subst h; simp

@[simp] theorem State.enterFaulted_frame (s : State)(b : Bus)(f : AcceptedFrame) :
    (State.enterFaulted s b f).now = s.now ∧ (State.enterFaulted s b f).pending = s.pending ∧
    (State.enterFaulted s b f).events.openCounter = s.events.openCounter ∧
    (State.enterFaulted s b f).pool.budget = s.pool.budget ∧
    (State.enterFaulted s b f).pool.storeState = s.pool.storeState ∧
    (State.enterFaulted s b f).pool.inEffect = s.pool.inEffect ∧
    (State.enterFaulted s b f).pool.storeSilence = s.pool.storeSilence ∧
    (State.enterFaulted s b f).pool.storeBaseline = s.pool.storeBaseline ∧
    (State.enterFaulted s b f).pool.charger = s.pool.charger ∧
    (State.enterFaulted s b f).pool.chargerFault = s.pool.chargerFault ∧
    (State.enterFaulted s b f).pool.staleStore = s.pool.staleStore ∧
    (State.enterFaulted s b f).capture.memory = s.capture.memory ∧
    (State.enterFaulted s b f).ring.counters = s.ring.counters ∧ (State.enterFaulted s b f).banks = s.banks ∧
    (State.enterFaulted s b f).management.requests = s.management.requests ∧
    (State.enterFaulted s b f).management.snapshot = s.management.snapshot ∧
    (State.enterFaulted s b f).handed = s.handed := by
  generalize h : State.enterFaulted s b f = t
  unfold State.enterFaulted at h
  try dsimp only at h
  subst h; simp

@[simp] theorem State.evaluateFaulted_frame (s : State)(b : Bus)(r : BusRow)(f : AcceptedFrame) :
    (State.evaluateFaulted s b r f).now = s.now ∧ (State.evaluateFaulted s b r f).pending = s.pending ∧
    (State.evaluateFaulted s b r f).events.openCounter = s.events.openCounter ∧
    (State.evaluateFaulted s b r f).events.closeCounter = s.events.closeCounter ∧
    (State.evaluateFaulted s b r f).events.waitCounter = s.events.waitCounter ∧
    (State.evaluateFaulted s b r f).pool.budget = s.pool.budget ∧
    (State.evaluateFaulted s b r f).pool.free = s.pool.free ∧
    (State.evaluateFaulted s b r f).pool.drawn = s.pool.drawn ∧
    (State.evaluateFaulted s b r f).pool.grantQueue = s.pool.grantQueue ∧
    (State.evaluateFaulted s b r f).pool.creationCounter = s.pool.creationCounter ∧
    (State.evaluateFaulted s b r f).pool.storeState = s.pool.storeState ∧
    (State.evaluateFaulted s b r f).pool.inEffect = s.pool.inEffect ∧
    (State.evaluateFaulted s b r f).pool.storeSilence = s.pool.storeSilence ∧
    (State.evaluateFaulted s b r f).pool.storeBaseline = s.pool.storeBaseline ∧
    (State.evaluateFaulted s b r f).pool.charger = s.pool.charger ∧
    (State.evaluateFaulted s b r f).pool.chargerFault = s.pool.chargerFault ∧
    (State.evaluateFaulted s b r f).pool.staleStore = s.pool.staleStore ∧
    (State.evaluateFaulted s b r f).pool.passDue = s.pool.passDue ∧
    (State.evaluateFaulted s b r f).capture.memory = s.capture.memory ∧
    (State.evaluateFaulted s b r f).ring.counters = s.ring.counters ∧
    (State.evaluateFaulted s b r f).banks = s.banks ∧
    (State.evaluateFaulted s b r f).management.requests = s.management.requests ∧
    (State.evaluateFaulted s b r f).management.snapshot = s.management.snapshot ∧
    (State.evaluateFaulted s b r f).handed = s.handed := by
  generalize h : State.evaluateFaulted s b r f = t
  unfold State.evaluateFaulted at h
  try dsimp only at h
  (repeat' split at h) <;> subst h <;> simp

@[simp] theorem State.evaluate_frame (s : State)(b : Bus)(r : BusRow)(f : AcceptedFrame) :
    (State.evaluate s b r f).now = s.now ∧ (State.evaluate s b r f).pending = s.pending ∧
    (State.evaluate s b r f).pool.budget = s.pool.budget ∧
    (State.evaluate s b r f).pool.storeState = s.pool.storeState ∧
    (State.evaluate s b r f).pool.inEffect = s.pool.inEffect ∧
    (State.evaluate s b r f).pool.storeSilence = s.pool.storeSilence ∧
    (State.evaluate s b r f).pool.storeBaseline = s.pool.storeBaseline ∧
    (State.evaluate s b r f).pool.charger = s.pool.charger ∧
    (State.evaluate s b r f).pool.chargerFault = s.pool.chargerFault ∧
    (State.evaluate s b r f).pool.staleStore = s.pool.staleStore ∧
    (State.evaluate s b r f).ring.counters = s.ring.counters ∧ (State.evaluate s b r f).banks = s.banks ∧
    (State.evaluate s b r f).management.requests = s.management.requests ∧
    (State.evaluate s b r f).management.snapshot = s.management.snapshot ∧
    (State.evaluate s b r f).handed.sense = s.handed.sense ∧
    (State.evaluate s b r f).handed.injection = s.handed.injection ∧
    (State.evaluate s b r f).handed.envelope = s.handed.envelope ∧
    (State.evaluate s b r f).handed.store = s.handed.store ∧
    (State.evaluate s b r f).handed.status = s.handed.status ∧
    (State.evaluate s b r f).handed.topups = s.handed.topups ∧
    (State.evaluate s b r f).handed.notices = s.handed.notices := by
  generalize h : State.evaluate s b r f = t
  unfold State.evaluate at h
  try dsimp only at h
  (repeat' split at h) <;> subst h <;> simp

@[simp] theorem State.passOn_frame (s : State)(f : AcceptedFrame)(taken : TakenAhead) :
    (State.passOn s f taken).now = s.now ∧ (State.passOn s f taken).pending = s.pending ∧
    (State.passOn s f taken).channels = s.channels ∧ (State.passOn s f taken).events = s.events ∧
    (State.passOn s f taken).pool = s.pool ∧ (State.passOn s f taken).injection = s.injection ∧
    (State.passOn s f taken).views = s.views ∧ (State.passOn s f taken).capture = s.capture ∧
    (State.passOn s f taken).ring = s.ring ∧ (State.passOn s f taken).banks = s.banks ∧
    (State.passOn s f taken).management = s.management ∧
    (State.passOn s f taken).handed.sense = s.handed.sense ∧
    (State.passOn s f taken).handed.store = s.handed.store ∧
    (State.passOn s f taken).handed.status = s.handed.status ∧
    (State.passOn s f taken).handed.topups = s.handed.topups ∧
    (State.passOn s f taken).handed.notices = s.handed.notices := by
  generalize h : State.passOn s f taken = t
  unfold State.passOn at h
  try dsimp only at h
  (repeat' split at h) <;> subst h <;> simp

@[simp] theorem State.takeSense_frame (s : State)(x : HandedSense) :
    (State.takeSense s x).now = s.now ∧ (State.takeSense s x).pending = s.pending ∧
    (State.takeSense s x).pool.budget = s.pool.budget ∧
    (State.takeSense s x).pool.storeState = s.pool.storeState ∧
    (State.takeSense s x).pool.inEffect = s.pool.inEffect ∧
    (State.takeSense s x).pool.storeSilence = s.pool.storeSilence ∧
    (State.takeSense s x).pool.storeBaseline = s.pool.storeBaseline ∧
    (State.takeSense s x).pool.charger = s.pool.charger ∧
    (State.takeSense s x).pool.chargerFault = s.pool.chargerFault ∧
    (State.takeSense s x).pool.staleStore = s.pool.staleStore ∧ (State.takeSense s x).banks = s.banks ∧
    (State.takeSense s x).management.requests = s.management.requests ∧
    (State.takeSense s x).management.snapshot = s.management.snapshot ∧
    (State.takeSense s x).handed.sense = s.handed.sense ∧ (State.takeSense s x).handed.store = s.handed.store ∧
    (State.takeSense s x).handed.status = s.handed.status ∧
    (State.takeSense s x).handed.topups = s.handed.topups ∧
    (State.takeSense s x).handed.notices = s.handed.notices := by
  generalize h : State.takeSense s x = t
  unfold State.takeSense at h
  try dsimp only at h
  (repeat' split at h) <;> subst h <;> simp

@[simp] theorem State.takeNextSense_frame (s : State) :
    (State.takeNextSense s).now = s.now ∧ (State.takeNextSense s).pending = s.pending ∧
    (State.takeNextSense s).pool.budget = s.pool.budget ∧
    (State.takeNextSense s).pool.storeState = s.pool.storeState ∧
    (State.takeNextSense s).pool.inEffect = s.pool.inEffect ∧
    (State.takeNextSense s).pool.storeSilence = s.pool.storeSilence ∧
    (State.takeNextSense s).pool.storeBaseline = s.pool.storeBaseline ∧
    (State.takeNextSense s).pool.charger = s.pool.charger ∧
    (State.takeNextSense s).pool.chargerFault = s.pool.chargerFault ∧
    (State.takeNextSense s).pool.staleStore = s.pool.staleStore ∧ (State.takeNextSense s).banks = s.banks ∧
    (State.takeNextSense s).management.requests = s.management.requests ∧
    (State.takeNextSense s).management.snapshot = s.management.snapshot ∧
    (State.takeNextSense s).handed.store = s.handed.store ∧
    (State.takeNextSense s).handed.status = s.handed.status ∧
    (State.takeNextSense s).handed.topups = s.handed.topups ∧
    (State.takeNextSense s).handed.notices = s.handed.notices := by
  generalize h : State.takeNextSense s = t
  unfold State.takeNextSense at h
  try dsimp only at h
  (repeat' split at h) <;> subst h <;> simp

@[simp] theorem State.markAhead_frame (s : State)(m : TakenAhead → TakenAhead) :
    (State.markAhead s m).now = s.now ∧ (State.markAhead s m).pending = s.pending ∧
    (State.markAhead s m).channels = s.channels ∧ (State.markAhead s m).events = s.events ∧
    (State.markAhead s m).pool = s.pool ∧ (State.markAhead s m).injection = s.injection ∧
    (State.markAhead s m).views = s.views ∧ (State.markAhead s m).capture = s.capture ∧
    (State.markAhead s m).ring = s.ring ∧ (State.markAhead s m).banks = s.banks ∧
    (State.markAhead s m).management = s.management ∧
    (State.markAhead s m).handed.injection = s.handed.injection ∧
    (State.markAhead s m).handed.envelope = s.handed.envelope ∧
    (State.markAhead s m).handed.capture = s.handed.capture ∧
    (State.markAhead s m).handed.store = s.handed.store ∧
    (State.markAhead s m).handed.status = s.handed.status ∧
    (State.markAhead s m).handed.topups = s.handed.topups ∧
    (State.markAhead s m).handed.notices = s.handed.notices := by
  generalize h : State.markAhead s m = t
  unfold State.markAhead at h
  try dsimp only at h
  (repeat' split at h) <;> subst h <;> simp

@[simp] theorem State.settleAhead_frame (s : State) :
    (State.settleAhead s).now = s.now ∧ (State.settleAhead s).pending = s.pending ∧
    (State.settleAhead s).pool.budget = s.pool.budget ∧
    (State.settleAhead s).pool.storeState = s.pool.storeState ∧
    (State.settleAhead s).pool.inEffect = s.pool.inEffect ∧
    (State.settleAhead s).pool.storeSilence = s.pool.storeSilence ∧
    (State.settleAhead s).pool.storeBaseline = s.pool.storeBaseline ∧
    (State.settleAhead s).pool.charger = s.pool.charger ∧
    (State.settleAhead s).pool.chargerFault = s.pool.chargerFault ∧
    (State.settleAhead s).pool.staleStore = s.pool.staleStore ∧ (State.settleAhead s).banks = s.banks ∧
    (State.settleAhead s).management.requests = s.management.requests ∧
    (State.settleAhead s).management.snapshot = s.management.snapshot ∧
    (State.settleAhead s).handed.store = s.handed.store ∧
    (State.settleAhead s).handed.status = s.handed.status ∧
    (State.settleAhead s).handed.topups = s.handed.topups ∧
    (State.settleAhead s).handed.notices = s.handed.notices := by
  generalize h : State.settleAhead s = t
  unfold State.settleAhead at h
  try dsimp only at h
  (repeat' split at h) <;> subst h <;> simp

@[simp] theorem State.silenceExpires_frame (s : State)(b : Bus) :
    (State.silenceExpires s b).now = s.now ∧ (State.silenceExpires s b).pending = s.pending ∧
    (State.silenceExpires s b).events.openCounter = s.events.openCounter ∧
    (State.silenceExpires s b).pool.budget = s.pool.budget ∧
    (State.silenceExpires s b).pool.storeState = s.pool.storeState ∧
    (State.silenceExpires s b).pool.inEffect = s.pool.inEffect ∧
    (State.silenceExpires s b).pool.storeSilence = s.pool.storeSilence ∧
    (State.silenceExpires s b).pool.storeBaseline = s.pool.storeBaseline ∧
    (State.silenceExpires s b).pool.charger = s.pool.charger ∧
    (State.silenceExpires s b).pool.chargerFault = s.pool.chargerFault ∧
    (State.silenceExpires s b).pool.staleStore = s.pool.staleStore ∧
    (State.silenceExpires s b).capture.memory = s.capture.memory ∧
    (State.silenceExpires s b).ring.counters = s.ring.counters ∧ (State.silenceExpires s b).banks = s.banks ∧
    (State.silenceExpires s b).management.requests = s.management.requests ∧
    (State.silenceExpires s b).management.snapshot = s.management.snapshot ∧
    (State.silenceExpires s b).handed = s.handed := by
  generalize h : State.silenceExpires s b = t
  unfold State.silenceExpires at h
  try dsimp only at h
  (repeat' split at h) <;> subst h <;> simp

@[simp] theorem State.serviceOff_frame (s : State)(b : Bus) :
    (State.serviceOff s b).now = s.now ∧ (State.serviceOff s b).pending = s.pending ∧
    (State.serviceOff s b).events.openCounter = s.events.openCounter ∧
    (State.serviceOff s b).pool.budget = s.pool.budget ∧
    (State.serviceOff s b).pool.storeState = s.pool.storeState ∧
    (State.serviceOff s b).pool.inEffect = s.pool.inEffect ∧
    (State.serviceOff s b).pool.storeSilence = s.pool.storeSilence ∧
    (State.serviceOff s b).pool.storeBaseline = s.pool.storeBaseline ∧
    (State.serviceOff s b).pool.charger = s.pool.charger ∧
    (State.serviceOff s b).pool.chargerFault = s.pool.chargerFault ∧
    (State.serviceOff s b).pool.staleStore = s.pool.staleStore ∧
    (State.serviceOff s b).capture.memory = s.capture.memory ∧
    (State.serviceOff s b).ring.counters = s.ring.counters ∧ (State.serviceOff s b).banks = s.banks ∧
    (State.serviceOff s b).management.requests = s.management.requests ∧
    (State.serviceOff s b).management.snapshot = s.management.snapshot ∧
    (State.serviceOff s b).handed = s.handed := by
  generalize h : State.serviceOff s b = t
  unfold State.serviceOff at h
  try dsimp only at h
  (repeat' split at h) <;> subst h <;> simp

@[simp] theorem State.startSilence_frame (s : State)(b : Bus) :
    (State.startSilence s b).now = s.now ∧ (State.startSilence s b).pending = s.pending ∧
    (State.startSilence s b).events = s.events ∧ (State.startSilence s b).pool = s.pool ∧
    (State.startSilence s b).injection = s.injection ∧ (State.startSilence s b).views = s.views ∧
    (State.startSilence s b).capture = s.capture ∧ (State.startSilence s b).ring = s.ring ∧
    (State.startSilence s b).banks = s.banks ∧ (State.startSilence s b).management = s.management ∧
    (State.startSilence s b).handed = s.handed := by
  generalize h : State.startSilence s b = t
  unfold State.startSilence at h
  try dsimp only at h
  (repeat' split at h) <;> subst h <;> simp

/-! ## Envelope and injection -/

@[simp] theorem State.breach_frame (s : State)(i : EventIx)(e : Event) :
    (State.breach s i e).now = s.now ∧ (State.breach s i e).pending = s.pending ∧
    (State.breach s i e).events.openCounter = s.events.openCounter ∧
    (State.breach s i e).events.closeCounter = s.events.closeCounter ∧
    (State.breach s i e).pool.budget = s.pool.budget ∧
    (State.breach s i e).pool.storeState = s.pool.storeState ∧
    (State.breach s i e).pool.inEffect = s.pool.inEffect ∧
    (State.breach s i e).pool.storeSilence = s.pool.storeSilence ∧
    (State.breach s i e).pool.storeBaseline = s.pool.storeBaseline ∧
    (State.breach s i e).pool.charger = s.pool.charger ∧
    (State.breach s i e).pool.chargerFault = s.pool.chargerFault ∧
    (State.breach s i e).pool.staleStore = s.pool.staleStore ∧
    (State.breach s i e).capture.memory = s.capture.memory ∧
    (State.breach s i e).ring.counters = s.ring.counters ∧ (State.breach s i e).banks = s.banks ∧
    (State.breach s i e).management.requests = s.management.requests ∧
    (State.breach s i e).management.snapshot = s.management.snapshot ∧
    (State.breach s i e).management.reportsDropped = s.management.reportsDropped ∧
    (State.breach s i e).handed = s.handed := by
  generalize h : State.breach s i e = t
  unfold State.breach at h
  try dsimp only at h
  (repeat' split at h) <;> subst h <;> simp

@[simp] theorem State.judge_frame (s : State)(i : EventIx)(e : Event) (f : SenseFrame) :
    (State.judge s i e f).now = s.now ∧ (State.judge s i e f).pending = s.pending ∧
    (State.judge s i e f).events.openCounter = s.events.openCounter ∧
    (State.judge s i e f).events.closeCounter = s.events.closeCounter ∧
    (State.judge s i e f).pool.budget = s.pool.budget ∧
    (State.judge s i e f).pool.storeState = s.pool.storeState ∧
    (State.judge s i e f).pool.inEffect = s.pool.inEffect ∧
    (State.judge s i e f).pool.storeSilence = s.pool.storeSilence ∧
    (State.judge s i e f).pool.storeBaseline = s.pool.storeBaseline ∧
    (State.judge s i e f).pool.charger = s.pool.charger ∧
    (State.judge s i e f).pool.chargerFault = s.pool.chargerFault ∧
    (State.judge s i e f).pool.staleStore = s.pool.staleStore ∧
    (State.judge s i e f).capture.memory = s.capture.memory ∧
    (State.judge s i e f).ring.counters = s.ring.counters ∧ (State.judge s i e f).banks = s.banks ∧
    (State.judge s i e f).management.requests = s.management.requests ∧
    (State.judge s i e f).management.snapshot = s.management.snapshot ∧
    (State.judge s i e f).management.reportsDropped = s.management.reportsDropped ∧
    (State.judge s i e f).handed = s.handed := by
  generalize h : State.judge s i e f = t
  unfold State.judge at h
  try dsimp only at h
  (repeat' split at h) <;> subst h <;> simp

@[simp] theorem State.envelopeTakes_frame (s : State)(f : AcceptedFrame) :
    (State.envelopeTakes s f).now = s.now ∧ (State.envelopeTakes s f).pending = s.pending ∧
    (State.envelopeTakes s f).events.openCounter = s.events.openCounter ∧
    (State.envelopeTakes s f).events.closeCounter = s.events.closeCounter ∧
    (State.envelopeTakes s f).pool.budget = s.pool.budget ∧
    (State.envelopeTakes s f).pool.storeState = s.pool.storeState ∧
    (State.envelopeTakes s f).pool.inEffect = s.pool.inEffect ∧
    (State.envelopeTakes s f).pool.storeSilence = s.pool.storeSilence ∧
    (State.envelopeTakes s f).pool.storeBaseline = s.pool.storeBaseline ∧
    (State.envelopeTakes s f).pool.charger = s.pool.charger ∧
    (State.envelopeTakes s f).pool.chargerFault = s.pool.chargerFault ∧
    (State.envelopeTakes s f).pool.staleStore = s.pool.staleStore ∧
    (State.envelopeTakes s f).capture.memory = s.capture.memory ∧
    (State.envelopeTakes s f).ring.counters = s.ring.counters ∧ (State.envelopeTakes s f).banks = s.banks ∧
    (State.envelopeTakes s f).management.requests = s.management.requests ∧
    (State.envelopeTakes s f).management.snapshot = s.management.snapshot ∧
    (State.envelopeTakes s f).management.reportsDropped = s.management.reportsDropped ∧
    (State.envelopeTakes s f).handed = s.handed := by
  generalize h : State.envelopeTakes s f = t
  unfold State.envelopeTakes at h
  try dsimp only at h
  (repeat' split at h) <;> subst h <;> simp

@[simp] theorem State.meterRelease_frame (s : State)(r : ReleaseIx)(x : Release) (n : Nat) :
    (State.meterRelease s r x n).now = s.now ∧ (State.meterRelease s r x n).pending = s.pending ∧
    (State.meterRelease s r x n).channels = s.channels ∧ (State.meterRelease s r x n).events = s.events ∧
    (State.meterRelease s r x n).pool.budget = s.pool.budget ∧
    (State.meterRelease s r x n).pool.free = s.pool.free ∧
    (State.meterRelease s r x n).pool.grantQueue = s.pool.grantQueue ∧
    (State.meterRelease s r x n).pool.creationCounter = s.pool.creationCounter ∧
    (State.meterRelease s r x n).pool.storeState = s.pool.storeState ∧
    (State.meterRelease s r x n).pool.inEffect = s.pool.inEffect ∧
    (State.meterRelease s r x n).pool.storeSilence = s.pool.storeSilence ∧
    (State.meterRelease s r x n).pool.storeBaseline = s.pool.storeBaseline ∧
    (State.meterRelease s r x n).pool.charger = s.pool.charger ∧
    (State.meterRelease s r x n).pool.chargerFault = s.pool.chargerFault ∧
    (State.meterRelease s r x n).pool.staleStore = s.pool.staleStore ∧
    (State.meterRelease s r x n).pool.passDue = s.pool.passDue ∧
    (State.meterRelease s r x n).injection = s.injection ∧ (State.meterRelease s r x n).views = s.views ∧
    (State.meterRelease s r x n).capture = s.capture ∧ (State.meterRelease s r x n).ring = s.ring ∧
    (State.meterRelease s r x n).banks = s.banks ∧ (State.meterRelease s r x n).management = s.management ∧
    (State.meterRelease s r x n).handed = s.handed := by
  generalize h : State.meterRelease s r x n = t
  unfold State.meterRelease at h
  try dsimp only at h
  subst h; simp

@[simp] theorem State.meterEvent_frame (s : State)(i : EventIx)(e : Event) (n micros : Nat) (t : U32) :
    (State.meterEvent s i e n micros t).now = s.now ∧ (State.meterEvent s i e n micros t).pending = s.pending ∧
    (State.meterEvent s i e n micros t).channels = s.channels ∧
    (State.meterEvent s i e n micros t).events.openCounter = s.events.openCounter ∧
    (State.meterEvent s i e n micros t).events.closeCounter = s.events.closeCounter ∧
    (State.meterEvent s i e n micros t).events.waitCounter = s.events.waitCounter ∧
    (State.meterEvent s i e n micros t).pool.budget = s.pool.budget ∧
    (State.meterEvent s i e n micros t).pool.creationCounter = s.pool.creationCounter ∧
    (State.meterEvent s i e n micros t).pool.storeState = s.pool.storeState ∧
    (State.meterEvent s i e n micros t).pool.inEffect = s.pool.inEffect ∧
    (State.meterEvent s i e n micros t).pool.storeSilence = s.pool.storeSilence ∧
    (State.meterEvent s i e n micros t).pool.storeBaseline = s.pool.storeBaseline ∧
    (State.meterEvent s i e n micros t).pool.charger = s.pool.charger ∧
    (State.meterEvent s i e n micros t).pool.chargerFault = s.pool.chargerFault ∧
    (State.meterEvent s i e n micros t).pool.staleStore = s.pool.staleStore ∧
    (State.meterEvent s i e n micros t).capture.memory = s.capture.memory ∧
    (State.meterEvent s i e n micros t).ring.counters = s.ring.counters ∧
    (State.meterEvent s i e n micros t).banks = s.banks ∧
    (State.meterEvent s i e n micros t).management.requests = s.management.requests ∧
    (State.meterEvent s i e n micros t).management.snapshot = s.management.snapshot ∧
    (State.meterEvent s i e n micros t).management.reportsDropped = s.management.reportsDropped ∧
    (State.meterEvent s i e n micros t).handed = s.handed := by
  generalize h : State.meterEvent s i e n micros t = u
  unfold State.meterEvent at h
  dsimp only at h
  split at h <;> subst h <;> simp

@[simp] theorem State.meterInto_frame (s : State)(k : Station)(n micros : Nat) (t : U32) :
    (State.meterInto s k n micros t).now = s.now ∧ (State.meterInto s k n micros t).pending = s.pending ∧
    (State.meterInto s k n micros t).channels = s.channels ∧
    (State.meterInto s k n micros t).events.openCounter = s.events.openCounter ∧
    (State.meterInto s k n micros t).events.closeCounter = s.events.closeCounter ∧
    (State.meterInto s k n micros t).events.waitCounter = s.events.waitCounter ∧
    (State.meterInto s k n micros t).pool.budget = s.pool.budget ∧
    (State.meterInto s k n micros t).pool.creationCounter = s.pool.creationCounter ∧
    (State.meterInto s k n micros t).pool.storeState = s.pool.storeState ∧
    (State.meterInto s k n micros t).pool.inEffect = s.pool.inEffect ∧
    (State.meterInto s k n micros t).pool.storeSilence = s.pool.storeSilence ∧
    (State.meterInto s k n micros t).pool.storeBaseline = s.pool.storeBaseline ∧
    (State.meterInto s k n micros t).pool.charger = s.pool.charger ∧
    (State.meterInto s k n micros t).pool.chargerFault = s.pool.chargerFault ∧
    (State.meterInto s k n micros t).pool.staleStore = s.pool.staleStore ∧
    (State.meterInto s k n micros t).capture.memory = s.capture.memory ∧
    (State.meterInto s k n micros t).ring.counters = s.ring.counters ∧
    (State.meterInto s k n micros t).banks = s.banks ∧
    (State.meterInto s k n micros t).management.requests = s.management.requests ∧
    (State.meterInto s k n micros t).management.snapshot = s.management.snapshot ∧
    (State.meterInto s k n micros t).management.reportsDropped = s.management.reportsDropped ∧
    (State.meterInto s k n micros t).handed = s.handed := by
  generalize h : State.meterInto s k n micros t = u
  unfold State.meterInto at h
  (repeat' split at h) <;> subst h <;> simp

@[simp] theorem State.meterStack_frame (f : AcceptedFrame)(micros : Nat)(s : State)(k : Station) :
    (State.meterStack f micros s k).now = s.now ∧ (State.meterStack f micros s k).pending = s.pending ∧
    (State.meterStack f micros s k).channels = s.channels ∧
    (State.meterStack f micros s k).events.openCounter = s.events.openCounter ∧
    (State.meterStack f micros s k).events.closeCounter = s.events.closeCounter ∧
    (State.meterStack f micros s k).events.waitCounter = s.events.waitCounter ∧
    (State.meterStack f micros s k).pool.budget = s.pool.budget ∧
    (State.meterStack f micros s k).pool.creationCounter = s.pool.creationCounter ∧
    (State.meterStack f micros s k).pool.storeState = s.pool.storeState ∧
    (State.meterStack f micros s k).pool.inEffect = s.pool.inEffect ∧
    (State.meterStack f micros s k).pool.storeSilence = s.pool.storeSilence ∧
    (State.meterStack f micros s k).pool.storeBaseline = s.pool.storeBaseline ∧
    (State.meterStack f micros s k).pool.charger = s.pool.charger ∧
    (State.meterStack f micros s k).pool.chargerFault = s.pool.chargerFault ∧
    (State.meterStack f micros s k).pool.staleStore = s.pool.staleStore ∧
    (State.meterStack f micros s k).capture.memory = s.capture.memory ∧
    (State.meterStack f micros s k).ring.counters = s.ring.counters ∧
    (State.meterStack f micros s k).banks = s.banks ∧
    (State.meterStack f micros s k).management.requests = s.management.requests ∧
    (State.meterStack f micros s k).management.snapshot = s.management.snapshot ∧
    (State.meterStack f micros s k).management.reportsDropped = s.management.reportsDropped ∧
    (State.meterStack f micros s k).handed = s.handed := by
  generalize h : State.meterStack f micros s k = t
  unfold State.meterStack at h
  try dsimp only at h
  (repeat' split at h) <;> subst h <;> simp

@[simp] theorem foldl_meterStack_frame (f : AcceptedFrame)(micros : Nat) (l : List Station) (s : State) :
    (List.foldl (State.meterStack f micros) s l).now = s.now ∧
    (List.foldl (State.meterStack f micros) s l).pending = s.pending ∧
    (List.foldl (State.meterStack f micros) s l).channels = s.channels ∧
    (List.foldl (State.meterStack f micros) s l).events.openCounter = s.events.openCounter ∧
    (List.foldl (State.meterStack f micros) s l).events.closeCounter = s.events.closeCounter ∧
    (List.foldl (State.meterStack f micros) s l).events.waitCounter = s.events.waitCounter ∧
    (List.foldl (State.meterStack f micros) s l).pool.budget = s.pool.budget ∧
    (List.foldl (State.meterStack f micros) s l).pool.creationCounter = s.pool.creationCounter ∧
    (List.foldl (State.meterStack f micros) s l).pool.storeState = s.pool.storeState ∧
    (List.foldl (State.meterStack f micros) s l).pool.inEffect = s.pool.inEffect ∧
    (List.foldl (State.meterStack f micros) s l).pool.storeSilence = s.pool.storeSilence ∧
    (List.foldl (State.meterStack f micros) s l).pool.storeBaseline = s.pool.storeBaseline ∧
    (List.foldl (State.meterStack f micros) s l).pool.charger = s.pool.charger ∧
    (List.foldl (State.meterStack f micros) s l).pool.chargerFault = s.pool.chargerFault ∧
    (List.foldl (State.meterStack f micros) s l).pool.staleStore = s.pool.staleStore ∧
    (List.foldl (State.meterStack f micros) s l).capture.memory = s.capture.memory ∧
    (List.foldl (State.meterStack f micros) s l).ring.counters = s.ring.counters ∧
    (List.foldl (State.meterStack f micros) s l).banks = s.banks ∧
    (List.foldl (State.meterStack f micros) s l).management.requests = s.management.requests ∧
    (List.foldl (State.meterStack f micros) s l).management.snapshot = s.management.snapshot ∧
    (List.foldl (State.meterStack f micros) s l).management.reportsDropped = s.management.reportsDropped ∧
    (List.foldl (State.meterStack f micros) s l).handed = s.handed := by
  induction l generalizing s with
  | nil => simp
  | cons a l ih => simp [ih]

@[simp] theorem State.meter_frame (s : State)(f : AcceptedFrame) :
    (State.meter s f).now = s.now ∧ (State.meter s f).pending = s.pending ∧
    (State.meter s f).channels = s.channels ∧ (State.meter s f).events.openCounter = s.events.openCounter ∧
    (State.meter s f).events.closeCounter = s.events.closeCounter ∧
    (State.meter s f).events.waitCounter = s.events.waitCounter ∧
    (State.meter s f).pool.budget = s.pool.budget ∧
    (State.meter s f).pool.creationCounter = s.pool.creationCounter ∧
    (State.meter s f).pool.storeState = s.pool.storeState ∧ (State.meter s f).pool.inEffect = s.pool.inEffect ∧
    (State.meter s f).pool.storeSilence = s.pool.storeSilence ∧
    (State.meter s f).pool.storeBaseline = s.pool.storeBaseline ∧
    (State.meter s f).pool.charger = s.pool.charger ∧
    (State.meter s f).pool.chargerFault = s.pool.chargerFault ∧
    (State.meter s f).pool.staleStore = s.pool.staleStore ∧
    (State.meter s f).capture.memory = s.capture.memory ∧ (State.meter s f).ring.counters = s.ring.counters ∧
    (State.meter s f).banks = s.banks ∧ (State.meter s f).management.requests = s.management.requests ∧
    (State.meter s f).management.snapshot = s.management.snapshot ∧
    (State.meter s f).management.reportsDropped = s.management.reportsDropped ∧
    (State.meter s f).handed = s.handed := by
  generalize h : State.meter s f = t
  unfold State.meter at h
  try dsimp only at h
  subst h; simp

@[simp] theorem State.bringTopup_frame (s : State)(i : EventIx)(e : Event) :
    (State.bringTopup s i e).now = s.now ∧ (State.bringTopup s i e).pending = s.pending ∧
    (State.bringTopup s i e).channels = s.channels ∧ (State.bringTopup s i e).events = s.events ∧
    (State.bringTopup s i e).pool = s.pool ∧ (State.bringTopup s i e).injection = s.injection ∧
    (State.bringTopup s i e).views = s.views ∧ (State.bringTopup s i e).capture = s.capture ∧
    (State.bringTopup s i e).ring = s.ring ∧ (State.bringTopup s i e).banks = s.banks ∧
    (State.bringTopup s i e).management = s.management ∧
    (State.bringTopup s i e).handed.sense = s.handed.sense ∧
    (State.bringTopup s i e).handed.injection = s.handed.injection ∧
    (State.bringTopup s i e).handed.envelope = s.handed.envelope ∧
    (State.bringTopup s i e).handed.capture = s.handed.capture ∧
    (State.bringTopup s i e).handed.store = s.handed.store ∧
    (State.bringTopup s i e).handed.status = s.handed.status ∧
    (State.bringTopup s i e).handed.notices = s.handed.notices := by
  generalize h : State.bringTopup s i e = t
  unfold State.bringTopup at h
  try dsimp only at h
  (repeat' split at h) <;> subst h <;> simp

@[simp] theorem State.emitReference_frame (s : State)(i : EventIx)(e : Event) (f : SenseFrame) (t : Nat) :
    (State.emitReference s i e f t).now = s.now ∧ (State.emitReference s i e f t).pending = s.pending ∧
    (State.emitReference s i e f t).channels = s.channels ∧
    (State.emitReference s i e f t).events.openCounter = s.events.openCounter ∧
    (State.emitReference s i e f t).events.closeCounter = s.events.closeCounter ∧
    (State.emitReference s i e f t).events.waitCounter = s.events.waitCounter ∧
    (State.emitReference s i e f t).pool.budget = s.pool.budget ∧
    (State.emitReference s i e f t).pool.free = s.pool.free ∧
    (State.emitReference s i e f t).pool.drawn = s.pool.drawn ∧
    (State.emitReference s i e f t).pool.grantQueue = s.pool.grantQueue ∧
    (State.emitReference s i e f t).pool.creationCounter = s.pool.creationCounter ∧
    (State.emitReference s i e f t).pool.storeState = s.pool.storeState ∧
    (State.emitReference s i e f t).pool.inEffect = s.pool.inEffect ∧
    (State.emitReference s i e f t).pool.storeSilence = s.pool.storeSilence ∧
    (State.emitReference s i e f t).pool.storeBaseline = s.pool.storeBaseline ∧
    (State.emitReference s i e f t).pool.charger = s.pool.charger ∧
    (State.emitReference s i e f t).pool.chargerFault = s.pool.chargerFault ∧
    (State.emitReference s i e f t).pool.staleStore = s.pool.staleStore ∧
    (State.emitReference s i e f t).pool.passDue = s.pool.passDue ∧
    (State.emitReference s i e f t).capture.memory = s.capture.memory ∧
    (State.emitReference s i e f t).ring.counters = s.ring.counters ∧
    (State.emitReference s i e f t).banks = s.banks ∧
    (State.emitReference s i e f t).management.requests = s.management.requests ∧
    (State.emitReference s i e f t).management.snapshot = s.management.snapshot ∧
    (State.emitReference s i e f t).management.reportsDropped = s.management.reportsDropped ∧
    (State.emitReference s i e f t).handed = s.handed := by
  simp [State.emitReference]

@[simp] theorem State.stepAndEmit_frame (s : State)(i : EventIx)(e : Event) (f : SenseFrame) :
    (State.stepAndEmit s i e f).now = s.now ∧ (State.stepAndEmit s i e f).pending = s.pending ∧
    (State.stepAndEmit s i e f).events.openCounter = s.events.openCounter ∧
    (State.stepAndEmit s i e f).events.closeCounter = s.events.closeCounter ∧
    (State.stepAndEmit s i e f).pool.budget = s.pool.budget ∧
    (State.stepAndEmit s i e f).pool.storeState = s.pool.storeState ∧
    (State.stepAndEmit s i e f).pool.inEffect = s.pool.inEffect ∧
    (State.stepAndEmit s i e f).pool.storeSilence = s.pool.storeSilence ∧
    (State.stepAndEmit s i e f).pool.storeBaseline = s.pool.storeBaseline ∧
    (State.stepAndEmit s i e f).pool.charger = s.pool.charger ∧
    (State.stepAndEmit s i e f).pool.chargerFault = s.pool.chargerFault ∧
    (State.stepAndEmit s i e f).pool.staleStore = s.pool.staleStore ∧
    (State.stepAndEmit s i e f).capture.memory = s.capture.memory ∧
    (State.stepAndEmit s i e f).ring.counters = s.ring.counters ∧ (State.stepAndEmit s i e f).banks = s.banks ∧
    (State.stepAndEmit s i e f).management.requests = s.management.requests ∧
    (State.stepAndEmit s i e f).management.snapshot = s.management.snapshot ∧
    (State.stepAndEmit s i e f).management.reportsDropped = s.management.reportsDropped ∧
    (State.stepAndEmit s i e f).handed = s.handed := by
  generalize h : State.stepAndEmit s i e f = t
  unfold State.stepAndEmit at h
  try dsimp only at h
  (repeat' split at h) <;> subst h <;> simp

@[simp] theorem State.drive_frame (s : State)(i : EventIx)(e : Event) (f : SenseFrame) :
    (State.drive s i e f).now = s.now ∧ (State.drive s i e f).pending = s.pending ∧
    (State.drive s i e f).events.openCounter = s.events.openCounter ∧
    (State.drive s i e f).events.closeCounter = s.events.closeCounter ∧
    (State.drive s i e f).pool.budget = s.pool.budget ∧
    (State.drive s i e f).pool.storeState = s.pool.storeState ∧
    (State.drive s i e f).pool.inEffect = s.pool.inEffect ∧
    (State.drive s i e f).pool.storeSilence = s.pool.storeSilence ∧
    (State.drive s i e f).pool.storeBaseline = s.pool.storeBaseline ∧
    (State.drive s i e f).pool.charger = s.pool.charger ∧
    (State.drive s i e f).pool.chargerFault = s.pool.chargerFault ∧
    (State.drive s i e f).pool.staleStore = s.pool.staleStore ∧
    (State.drive s i e f).capture.memory = s.capture.memory ∧
    (State.drive s i e f).ring.counters = s.ring.counters ∧ (State.drive s i e f).banks = s.banks ∧
    (State.drive s i e f).management.requests = s.management.requests ∧
    (State.drive s i e f).management.snapshot = s.management.snapshot ∧
    (State.drive s i e f).management.reportsDropped = s.management.reportsDropped ∧
    (State.drive s i e f).handed.sense = s.handed.sense ∧
    (State.drive s i e f).handed.injection = s.handed.injection ∧
    (State.drive s i e f).handed.envelope = s.handed.envelope ∧
    (State.drive s i e f).handed.capture = s.handed.capture ∧
    (State.drive s i e f).handed.store = s.handed.store ∧
    (State.drive s i e f).handed.status = s.handed.status ∧
    (State.drive s i e f).handed.notices = s.handed.notices := by
  generalize h : State.drive s i e f = t
  unfold State.drive at h
  try dsimp only at h
  (repeat' split at h) <;> subst h <;> simp

@[simp] theorem State.injectionTakes_frame (s : State)(f : AcceptedFrame) :
    (State.injectionTakes s f).now = s.now ∧ (State.injectionTakes s f).pending = s.pending ∧
    (State.injectionTakes s f).events.openCounter = s.events.openCounter ∧
    (State.injectionTakes s f).events.closeCounter = s.events.closeCounter ∧
    (State.injectionTakes s f).pool.budget = s.pool.budget ∧
    (State.injectionTakes s f).pool.storeState = s.pool.storeState ∧
    (State.injectionTakes s f).pool.inEffect = s.pool.inEffect ∧
    (State.injectionTakes s f).pool.storeSilence = s.pool.storeSilence ∧
    (State.injectionTakes s f).pool.storeBaseline = s.pool.storeBaseline ∧
    (State.injectionTakes s f).pool.charger = s.pool.charger ∧
    (State.injectionTakes s f).pool.chargerFault = s.pool.chargerFault ∧
    (State.injectionTakes s f).pool.staleStore = s.pool.staleStore ∧
    (State.injectionTakes s f).capture.memory = s.capture.memory ∧
    (State.injectionTakes s f).ring.counters = s.ring.counters ∧ (State.injectionTakes s f).banks = s.banks ∧
    (State.injectionTakes s f).management.requests = s.management.requests ∧
    (State.injectionTakes s f).management.snapshot = s.management.snapshot ∧
    (State.injectionTakes s f).management.reportsDropped = s.management.reportsDropped ∧
    (State.injectionTakes s f).handed.sense = s.handed.sense ∧
    (State.injectionTakes s f).handed.injection = s.handed.injection ∧
    (State.injectionTakes s f).handed.envelope = s.handed.envelope ∧
    (State.injectionTakes s f).handed.capture = s.handed.capture ∧
    (State.injectionTakes s f).handed.store = s.handed.store ∧
    (State.injectionTakes s f).handed.status = s.handed.status ∧
    (State.injectionTakes s f).handed.notices = s.handed.notices := by
  generalize h : State.injectionTakes s f = t
  unfold State.injectionTakes at h
  try dsimp only at h
  (repeat' split at h) <;> subst h <;> simp

/-! ## The passing of time -/

@[simp] theorem State.expire_frame (s : State)(x : Timer) :
    (State.expire s x).now = s.now ∧ (State.expire s x).pending = s.pending ∧
    (State.expire s x).events.openCounter = s.events.openCounter ∧
    (State.expire s x).pool.budget = s.pool.budget ∧ (State.expire s x).pool.inEffect = s.pool.inEffect ∧
    (State.expire s x).pool.charger = s.pool.charger ∧
    (State.expire s x).pool.chargerFault = s.pool.chargerFault ∧
    (State.expire s x).pool.staleStore = s.pool.staleStore ∧
    (State.expire s x).capture.memory = s.capture.memory ∧ (State.expire s x).ring.counters = s.ring.counters ∧
    (State.expire s x).banks = s.banks ∧ (State.expire s x).management.requests = s.management.requests ∧
    (State.expire s x).management.snapshot = s.management.snapshot ∧ (State.expire s x).handed = s.handed := by
  generalize h : State.expire s x = t
  unfold State.expire at h
  try dsimp only at h
  (repeat' split at h) <;> subst h <;> simp

@[simp] theorem State.expireInTime_frame (s : State)(x : Running) :
    (State.expireInTime s x).pending = s.pending ∧
    (State.expireInTime s x).events.openCounter = s.events.openCounter ∧
    (State.expireInTime s x).pool.budget = s.pool.budget ∧
    (State.expireInTime s x).pool.inEffect = s.pool.inEffect ∧
    (State.expireInTime s x).pool.charger = s.pool.charger ∧
    (State.expireInTime s x).pool.chargerFault = s.pool.chargerFault ∧
    (State.expireInTime s x).pool.staleStore = s.pool.staleStore ∧
    (State.expireInTime s x).capture.memory = s.capture.memory ∧
    (State.expireInTime s x).ring.counters = s.ring.counters ∧ (State.expireInTime s x).banks = s.banks ∧
    (State.expireInTime s x).management.requests = s.management.requests ∧
    (State.expireInTime s x).management.snapshot = s.management.snapshot ∧
    (State.expireInTime s x).handed = s.handed := by
  generalize h : State.expireInTime s x = t
  unfold State.expireInTime at h
  try dsimp only at h
  subst h; simp

@[simp] theorem foldl_expireInTime_frame  (l : List Running) (s : State) :
    (List.foldl State.expireInTime s l).pending = s.pending ∧
    (List.foldl State.expireInTime s l).events.openCounter = s.events.openCounter ∧
    (List.foldl State.expireInTime s l).pool.budget = s.pool.budget ∧
    (List.foldl State.expireInTime s l).pool.inEffect = s.pool.inEffect ∧
    (List.foldl State.expireInTime s l).pool.charger = s.pool.charger ∧
    (List.foldl State.expireInTime s l).pool.chargerFault = s.pool.chargerFault ∧
    (List.foldl State.expireInTime s l).pool.staleStore = s.pool.staleStore ∧
    (List.foldl State.expireInTime s l).capture.memory = s.capture.memory ∧
    (List.foldl State.expireInTime s l).ring.counters = s.ring.counters ∧
    (List.foldl State.expireInTime s l).banks = s.banks ∧
    (List.foldl State.expireInTime s l).management.requests = s.management.requests ∧
    (List.foldl State.expireInTime s l).management.snapshot = s.management.snapshot ∧
    (List.foldl State.expireInTime s l).handed = s.handed := by
  induction l generalizing s with
  | nil => simp
  | cons a l ih => simp [ih]

@[simp] theorem State.at_frame (s : State)(time : Nat) :
    (State.at s time).pending = s.pending ∧ (State.at s time).events.openCounter = s.events.openCounter ∧
    (State.at s time).pool.budget = s.pool.budget ∧ (State.at s time).pool.inEffect = s.pool.inEffect ∧
    (State.at s time).pool.charger = s.pool.charger ∧
    (State.at s time).pool.chargerFault = s.pool.chargerFault ∧
    (State.at s time).pool.staleStore = s.pool.staleStore ∧
    (State.at s time).capture.memory = s.capture.memory ∧ (State.at s time).ring.counters = s.ring.counters ∧
    (State.at s time).banks = s.banks ∧ (State.at s time).management.requests = s.management.requests ∧
    (State.at s time).management.snapshot = s.management.snapshot ∧ (State.at s time).handed = s.handed := by
  generalize h : State.at s time = t
  unfold State.at at h
  try dsimp only at h
  subst h; simp

/-! ## Ports -/

@[simp] theorem State.malformed_frame (s : State) :
    (State.malformed s).now = s.now ∧ (State.malformed s).pending = s.pending ∧
    (State.malformed s).channels = s.channels ∧ (State.malformed s).events = s.events ∧
    (State.malformed s).pool = s.pool ∧ (State.malformed s).injection = s.injection ∧
    (State.malformed s).views = s.views ∧ (State.malformed s).capture = s.capture ∧
    (State.malformed s).ring.port = s.ring.port ∧ (State.malformed s).ring.drive = s.ring.drive ∧
    (State.malformed s).ring.responses = s.ring.responses ∧ (State.malformed s).ring.transit = s.ring.transit ∧
    (State.malformed s).ring.reports = s.ring.reports ∧
    (State.malformed s).ring.egressSequence = s.ring.egressSequence ∧ (State.malformed s).banks = s.banks ∧
    (State.malformed s).management = s.management ∧ (State.malformed s).handed = s.handed := by
  generalize h : State.malformed s = t
  unfold State.malformed at h
  try dsimp only at h
  subst h; simp

@[simp] theorem State.arriveSense_frame (s : State)(source : Nat) (sequence : Byte) (body : List Byte) :
    (State.arriveSense s source sequence body).now = s.now ∧
    (State.arriveSense s source sequence body).pending = s.pending ∧
    (State.arriveSense s source sequence body).channels = s.channels ∧
    (State.arriveSense s source sequence body).events = s.events ∧
    (State.arriveSense s source sequence body).pool = s.pool ∧
    (State.arriveSense s source sequence body).injection = s.injection ∧
    (State.arriveSense s source sequence body).views = s.views ∧
    (State.arriveSense s source sequence body).capture = s.capture ∧
    (State.arriveSense s source sequence body).ring.port = s.ring.port ∧
    (State.arriveSense s source sequence body).ring.drive = s.ring.drive ∧
    (State.arriveSense s source sequence body).ring.responses = s.ring.responses ∧
    (State.arriveSense s source sequence body).ring.transit = s.ring.transit ∧
    (State.arriveSense s source sequence body).ring.reports = s.ring.reports ∧
    (State.arriveSense s source sequence body).ring.egressSequence = s.ring.egressSequence ∧
    (State.arriveSense s source sequence body).banks = s.banks ∧
    (State.arriveSense s source sequence body).management = s.management ∧
    (State.arriveSense s source sequence body).handed.injection = s.handed.injection ∧
    (State.arriveSense s source sequence body).handed.envelope = s.handed.envelope ∧
    (State.arriveSense s source sequence body).handed.capture = s.handed.capture ∧
    (State.arriveSense s source sequence body).handed.store = s.handed.store ∧
    (State.arriveSense s source sequence body).handed.status = s.handed.status ∧
    (State.arriveSense s source sequence body).handed.topups = s.handed.topups ∧
    (State.arriveSense s source sequence body).handed.notices = s.handed.notices := by
  generalize h : State.arriveSense s source sequence body = t
  unfold State.arriveSense at h
  try dsimp only at h
  (repeat' split at h) <;> subst h <;> simp

@[simp] theorem State.arriveStore_frame (s : State)(source : Nat) (header : Byte) (body : List Byte) :
    (State.arriveStore s source header body).now = s.now ∧
    (State.arriveStore s source header body).pending = s.pending ∧
    (State.arriveStore s source header body).channels = s.channels ∧
    (State.arriveStore s source header body).events = s.events ∧
    (State.arriveStore s source header body).pool = s.pool ∧
    (State.arriveStore s source header body).injection = s.injection ∧
    (State.arriveStore s source header body).views = s.views ∧
    (State.arriveStore s source header body).capture = s.capture ∧
    (State.arriveStore s source header body).ring.port = s.ring.port ∧
    (State.arriveStore s source header body).ring.drive = s.ring.drive ∧
    (State.arriveStore s source header body).ring.responses = s.ring.responses ∧
    (State.arriveStore s source header body).ring.transit = s.ring.transit ∧
    (State.arriveStore s source header body).ring.reports = s.ring.reports ∧
    (State.arriveStore s source header body).ring.egressSequence = s.ring.egressSequence ∧
    (State.arriveStore s source header body).banks = s.banks ∧
    (State.arriveStore s source header body).management = s.management ∧
    (State.arriveStore s source header body).handed.sense = s.handed.sense ∧
    (State.arriveStore s source header body).handed.injection = s.handed.injection ∧
    (State.arriveStore s source header body).handed.envelope = s.handed.envelope ∧
    (State.arriveStore s source header body).handed.capture = s.handed.capture ∧
    (State.arriveStore s source header body).handed.status = s.handed.status ∧
    (State.arriveStore s source header body).handed.topups = s.handed.topups ∧
    (State.arriveStore s source header body).handed.notices = s.handed.notices := by
  generalize h : State.arriveStore s source header body = t
  unfold State.arriveStore at h
  try dsimp only at h
  (repeat' split at h) <;> subst h <;> simp

@[simp] theorem State.arriveStatus_frame (s : State)(source : Nat) (header : Byte) (body : List Byte) :
    (State.arriveStatus s source header body).now = s.now ∧
    (State.arriveStatus s source header body).pending = s.pending ∧
    (State.arriveStatus s source header body).channels = s.channels ∧
    (State.arriveStatus s source header body).events = s.events ∧
    (State.arriveStatus s source header body).pool = s.pool ∧
    (State.arriveStatus s source header body).injection = s.injection ∧
    (State.arriveStatus s source header body).views = s.views ∧
    (State.arriveStatus s source header body).capture = s.capture ∧
    (State.arriveStatus s source header body).ring.port = s.ring.port ∧
    (State.arriveStatus s source header body).ring.drive = s.ring.drive ∧
    (State.arriveStatus s source header body).ring.responses = s.ring.responses ∧
    (State.arriveStatus s source header body).ring.transit = s.ring.transit ∧
    (State.arriveStatus s source header body).ring.reports = s.ring.reports ∧
    (State.arriveStatus s source header body).ring.egressSequence = s.ring.egressSequence ∧
    (State.arriveStatus s source header body).banks = s.banks ∧
    (State.arriveStatus s source header body).management = s.management ∧
    (State.arriveStatus s source header body).handed.sense = s.handed.sense ∧
    (State.arriveStatus s source header body).handed.injection = s.handed.injection ∧
    (State.arriveStatus s source header body).handed.envelope = s.handed.envelope ∧
    (State.arriveStatus s source header body).handed.capture = s.handed.capture ∧
    (State.arriveStatus s source header body).handed.store = s.handed.store ∧
    (State.arriveStatus s source header body).handed.topups = s.handed.topups ∧
    (State.arriveStatus s source header body).handed.notices = s.handed.notices := by
  generalize h : State.arriveStatus s source header body = t
  unfold State.arriveStatus at h
  try dsimp only at h
  (repeat' split at h) <;> subst h <;> simp

@[simp] theorem State.enterRequest_frame (s : State)(r : Request) :
    (State.enterRequest s r).now = s.now ∧ (State.enterRequest s r).pending = s.pending ∧
    (State.enterRequest s r).channels = s.channels ∧ (State.enterRequest s r).events = s.events ∧
    (State.enterRequest s r).pool = s.pool ∧ (State.enterRequest s r).injection = s.injection ∧
    (State.enterRequest s r).views = s.views ∧ (State.enterRequest s r).capture = s.capture ∧
    (State.enterRequest s r).ring.port = s.ring.port ∧ (State.enterRequest s r).ring.drive = s.ring.drive ∧
    (State.enterRequest s r).ring.responses = s.ring.responses ∧
    (State.enterRequest s r).ring.transit = s.ring.transit ∧
    (State.enterRequest s r).ring.reports = s.ring.reports ∧
    (State.enterRequest s r).ring.egressSequence = s.ring.egressSequence ∧
    (State.enterRequest s r).banks = s.banks ∧
    (State.enterRequest s r).management.snapshot = s.management.snapshot ∧
    (State.enterRequest s r).management.reportCounter = s.management.reportCounter ∧
    (State.enterRequest s r).management.reportsDropped = s.management.reportsDropped ∧
    (State.enterRequest s r).handed = s.handed := by
  generalize h : State.enterRequest s r = t
  unfold State.enterRequest at h
  try dsimp only at h
  (repeat' split at h) <;> subst h <;> simp

@[simp] theorem State.arriveRequest_frame (s : State)(source : Nat) (header : Byte) (body : List Byte) :
    (State.arriveRequest s source header body).now = s.now ∧
    (State.arriveRequest s source header body).pending = s.pending ∧
    (State.arriveRequest s source header body).channels = s.channels ∧
    (State.arriveRequest s source header body).events = s.events ∧
    (State.arriveRequest s source header body).pool = s.pool ∧
    (State.arriveRequest s source header body).injection = s.injection ∧
    (State.arriveRequest s source header body).views = s.views ∧
    (State.arriveRequest s source header body).capture = s.capture ∧
    (State.arriveRequest s source header body).ring.port = s.ring.port ∧
    (State.arriveRequest s source header body).ring.drive = s.ring.drive ∧
    (State.arriveRequest s source header body).ring.responses = s.ring.responses ∧
    (State.arriveRequest s source header body).ring.transit = s.ring.transit ∧
    (State.arriveRequest s source header body).ring.reports = s.ring.reports ∧
    (State.arriveRequest s source header body).ring.egressSequence = s.ring.egressSequence ∧
    (State.arriveRequest s source header body).banks = s.banks ∧
    (State.arriveRequest s source header body).management.snapshot = s.management.snapshot ∧
    (State.arriveRequest s source header body).management.reportCounter = s.management.reportCounter ∧
    (State.arriveRequest s source header body).management.reportsDropped = s.management.reportsDropped ∧
    (State.arriveRequest s source header body).handed = s.handed := by
  generalize h : State.arriveRequest s source header body = t
  unfold State.arriveRequest at h
  try dsimp only at h
  (repeat' split at h) <;> subst h <;> simp

@[simp] theorem State.deliver_frame (s : State)(bytes : List Byte) :
    (State.deliver s bytes).now = s.now ∧ (State.deliver s bytes).pending = s.pending ∧
    (State.deliver s bytes).channels = s.channels ∧ (State.deliver s bytes).events = s.events ∧
    (State.deliver s bytes).pool = s.pool ∧ (State.deliver s bytes).injection = s.injection ∧
    (State.deliver s bytes).views = s.views ∧ (State.deliver s bytes).capture = s.capture ∧
    (State.deliver s bytes).ring.port = s.ring.port ∧ (State.deliver s bytes).ring.drive = s.ring.drive ∧
    (State.deliver s bytes).ring.responses = s.ring.responses ∧
    (State.deliver s bytes).ring.transit = s.ring.transit ∧
    (State.deliver s bytes).ring.reports = s.ring.reports ∧
    (State.deliver s bytes).ring.egressSequence = s.ring.egressSequence ∧
    (State.deliver s bytes).banks = s.banks ∧
    (State.deliver s bytes).management.snapshot = s.management.snapshot ∧
    (State.deliver s bytes).management.reportCounter = s.management.reportCounter ∧
    (State.deliver s bytes).management.reportsDropped = s.management.reportsDropped ∧
    (State.deliver s bytes).handed.injection = s.handed.injection ∧
    (State.deliver s bytes).handed.envelope = s.handed.envelope ∧
    (State.deliver s bytes).handed.capture = s.handed.capture ∧
    (State.deliver s bytes).handed.topups = s.handed.topups ∧
    (State.deliver s bytes).handed.notices = s.handed.notices := by
  generalize h : State.deliver s bytes = t
  unfold State.deliver at h
  try dsimp only at h
  (repeat' split at h) <;> subst h <;> simp

@[simp] theorem State.classify_frame (s : State)(bytes : List Byte) :
    (State.classify s bytes).now = s.now ∧ (State.classify s bytes).pending = s.pending ∧
    (State.classify s bytes).channels = s.channels ∧
    (State.classify s bytes).events.openCounter = s.events.openCounter ∧
    (State.classify s bytes).events.closeCounter = s.events.closeCounter ∧
    (State.classify s bytes).events.waitCounter = s.events.waitCounter ∧
    (State.classify s bytes).pool.budget = s.pool.budget ∧ (State.classify s bytes).pool.free = s.pool.free ∧
    (State.classify s bytes).pool.drawn = s.pool.drawn ∧
    (State.classify s bytes).pool.grantQueue = s.pool.grantQueue ∧
    (State.classify s bytes).pool.creationCounter = s.pool.creationCounter ∧
    (State.classify s bytes).pool.storeState = s.pool.storeState ∧
    (State.classify s bytes).pool.inEffect = s.pool.inEffect ∧
    (State.classify s bytes).pool.storeSilence = s.pool.storeSilence ∧
    (State.classify s bytes).pool.storeBaseline = s.pool.storeBaseline ∧
    (State.classify s bytes).pool.charger = s.pool.charger ∧
    (State.classify s bytes).pool.chargerFault = s.pool.chargerFault ∧
    (State.classify s bytes).pool.staleStore = s.pool.staleStore ∧
    (State.classify s bytes).pool.passDue = s.pool.passDue ∧
    (State.classify s bytes).capture.memory = s.capture.memory ∧ (State.classify s bytes).banks = s.banks ∧
    (State.classify s bytes).management.snapshot = s.management.snapshot ∧
    (State.classify s bytes).management.reportsDropped = s.management.reportsDropped ∧
    (State.classify s bytes).handed.injection = s.handed.injection ∧
    (State.classify s bytes).handed.envelope = s.handed.envelope ∧
    (State.classify s bytes).handed.capture = s.handed.capture ∧
    (State.classify s bytes).handed.topups = s.handed.topups ∧
    (State.classify s bytes).handed.notices = s.handed.notices := by
  generalize h : State.classify s bytes = t
  unfold State.classify at h
  try dsimp only at h
  (repeat' split at h) <;> subst h <;> simp

@[simp] theorem State.arrive_frame (s : State)(bytes : List Byte) :
    (State.arrive s bytes).now = s.now ∧ (State.arrive s bytes).pending = s.pending ∧
    (State.arrive s bytes).channels = s.channels ∧
    (State.arrive s bytes).events.openCounter = s.events.openCounter ∧
    (State.arrive s bytes).events.closeCounter = s.events.closeCounter ∧
    (State.arrive s bytes).events.waitCounter = s.events.waitCounter ∧
    (State.arrive s bytes).pool.budget = s.pool.budget ∧ (State.arrive s bytes).pool.free = s.pool.free ∧
    (State.arrive s bytes).pool.drawn = s.pool.drawn ∧
    (State.arrive s bytes).pool.grantQueue = s.pool.grantQueue ∧
    (State.arrive s bytes).pool.creationCounter = s.pool.creationCounter ∧
    (State.arrive s bytes).pool.storeState = s.pool.storeState ∧
    (State.arrive s bytes).pool.inEffect = s.pool.inEffect ∧
    (State.arrive s bytes).pool.storeSilence = s.pool.storeSilence ∧
    (State.arrive s bytes).pool.storeBaseline = s.pool.storeBaseline ∧
    (State.arrive s bytes).pool.charger = s.pool.charger ∧
    (State.arrive s bytes).pool.chargerFault = s.pool.chargerFault ∧
    (State.arrive s bytes).pool.staleStore = s.pool.staleStore ∧
    (State.arrive s bytes).pool.passDue = s.pool.passDue ∧
    (State.arrive s bytes).capture.memory = s.capture.memory ∧ (State.arrive s bytes).banks = s.banks ∧
    (State.arrive s bytes).management.snapshot = s.management.snapshot ∧
    (State.arrive s bytes).management.reportsDropped = s.management.reportsDropped ∧
    (State.arrive s bytes).handed.injection = s.handed.injection ∧
    (State.arrive s bytes).handed.envelope = s.handed.envelope ∧
    (State.arrive s bytes).handed.capture = s.handed.capture ∧
    (State.arrive s bytes).handed.topups = s.handed.topups ∧
    (State.arrive s bytes).handed.notices = s.handed.notices := by
  generalize h : State.arrive s bytes = t
  unfold State.arrive at h
  try dsimp only at h
  (repeat' split at h) <;> subst h <;> simp

@[simp] theorem State.completionNotices_frame (s : State)(f : EgressFrame) :
    (State.completionNotices s f).now = s.now ∧ (State.completionNotices s f).pending = s.pending ∧
    (State.completionNotices s f).channels = s.channels ∧ (State.completionNotices s f).events = s.events ∧
    (State.completionNotices s f).pool = s.pool ∧
    (State.completionNotices s f).injection.rates = s.injection.rates ∧
    (State.completionNotices s f).capture = s.capture ∧ (State.completionNotices s f).ring = s.ring ∧
    (State.completionNotices s f).banks = s.banks ∧ (State.completionNotices s f).management = s.management ∧
    (State.completionNotices s f).handed = s.handed := by
  generalize h : State.completionNotices s f = t
  unfold State.completionNotices at h
  try dsimp only at h
  (repeat' split at h) <;> subst h <;> simp

@[simp] theorem State.complete_frame (s : State) :
    (State.complete s).now = s.now ∧ (State.complete s).pending = s.pending ∧
    (State.complete s).channels = s.channels ∧ (State.complete s).events.openCounter = s.events.openCounter ∧
    (State.complete s).events.closeCounter = s.events.closeCounter ∧
    (State.complete s).events.waitCounter = s.events.waitCounter ∧
    (State.complete s).pool.budget = s.pool.budget ∧ (State.complete s).pool.free = s.pool.free ∧
    (State.complete s).pool.drawn = s.pool.drawn ∧ (State.complete s).pool.grantQueue = s.pool.grantQueue ∧
    (State.complete s).pool.creationCounter = s.pool.creationCounter ∧
    (State.complete s).pool.storeState = s.pool.storeState ∧
    (State.complete s).pool.inEffect = s.pool.inEffect ∧
    (State.complete s).pool.storeSilence = s.pool.storeSilence ∧
    (State.complete s).pool.storeBaseline = s.pool.storeBaseline ∧
    (State.complete s).pool.charger = s.pool.charger ∧
    (State.complete s).pool.chargerFault = s.pool.chargerFault ∧
    (State.complete s).pool.staleStore = s.pool.staleStore ∧ (State.complete s).pool.passDue = s.pool.passDue ∧
    (State.complete s).capture.memory = s.capture.memory ∧ (State.complete s).banks = s.banks ∧
    (State.complete s).management.requests = s.management.requests ∧
    (State.complete s).management.snapshot = s.management.snapshot ∧
    (State.complete s).management.reportsDropped = s.management.reportsDropped ∧
    (State.complete s).handed = s.handed := by
  generalize h : State.complete s = t
  unfold State.complete at h
  try dsimp only at h
  (repeat' split at h) <;> subst h <;> simp

/-! ## Requests -/

@[simp] theorem State.maskRecorder_frame (s : State)(k : CaptureIx) :
    (State.maskRecorder s k).now = s.now ∧ (State.maskRecorder s k).pending = s.pending ∧
    (State.maskRecorder s k).channels = s.channels ∧
    (State.maskRecorder s k).events.openCounter = s.events.openCounter ∧
    (State.maskRecorder s k).events.closeCounter = s.events.closeCounter ∧
    (State.maskRecorder s k).events.waitCounter = s.events.waitCounter ∧
    (State.maskRecorder s k).pool = s.pool ∧ (State.maskRecorder s k).injection = s.injection ∧
    (State.maskRecorder s k).views = s.views ∧ (State.maskRecorder s k).capture.memory = s.capture.memory ∧
    (State.maskRecorder s k).ring = s.ring ∧ (State.maskRecorder s k).banks = s.banks ∧
    (State.maskRecorder s k).management = s.management ∧ (State.maskRecorder s k).handed = s.handed := by
  generalize h : State.maskRecorder s k = t
  unfold State.maskRecorder at h
  try dsimp only at h
  (repeat' split at h) <;> subst h <;> simp

@[simp] theorem foldl_queueBypass_frame  (l : List Station) (s : State) :
    (List.foldl (fun s k => State.queueCommand s k CommandKind.bypass) s l).now = s.now ∧
    (List.foldl (fun s k => State.queueCommand s k CommandKind.bypass) s l).pending = s.pending ∧
    (List.foldl (fun s k => State.queueCommand s k CommandKind.bypass) s l).channels = s.channels ∧
    (List.foldl (fun s k => State.queueCommand s k CommandKind.bypass) s l).events.openCounter = s.events.openCounter ∧
    (List.foldl (fun s k => State.queueCommand s k CommandKind.bypass) s l).events.closeCounter = s.events.closeCounter ∧
    (List.foldl (fun s k => State.queueCommand s k CommandKind.bypass) s l).events.waitCounter = s.events.waitCounter ∧
    (List.foldl (fun s k => State.queueCommand s k CommandKind.bypass) s l).pool.budget = s.pool.budget ∧
    (List.foldl (fun s k => State.queueCommand s k CommandKind.bypass) s l).pool.free = s.pool.free ∧
    (List.foldl (fun s k => State.queueCommand s k CommandKind.bypass) s l).pool.drawn = s.pool.drawn ∧
    (List.foldl (fun s k => State.queueCommand s k CommandKind.bypass) s l).pool.grantQueue = s.pool.grantQueue ∧
    (List.foldl (fun s k => State.queueCommand s k CommandKind.bypass) s l).pool.creationCounter = s.pool.creationCounter ∧
    (List.foldl (fun s k => State.queueCommand s k CommandKind.bypass) s l).pool.storeState = s.pool.storeState ∧
    (List.foldl (fun s k => State.queueCommand s k CommandKind.bypass) s l).pool.inEffect = s.pool.inEffect ∧
    (List.foldl (fun s k => State.queueCommand s k CommandKind.bypass) s l).pool.storeSilence = s.pool.storeSilence ∧
    (List.foldl (fun s k => State.queueCommand s k CommandKind.bypass) s l).pool.storeBaseline = s.pool.storeBaseline ∧
    (List.foldl (fun s k => State.queueCommand s k CommandKind.bypass) s l).pool.charger = s.pool.charger ∧
    (List.foldl (fun s k => State.queueCommand s k CommandKind.bypass) s l).pool.chargerFault = s.pool.chargerFault ∧
    (List.foldl (fun s k => State.queueCommand s k CommandKind.bypass) s l).pool.staleStore = s.pool.staleStore ∧
    (List.foldl (fun s k => State.queueCommand s k CommandKind.bypass) s l).pool.passDue = s.pool.passDue ∧
    (List.foldl (fun s k => State.queueCommand s k CommandKind.bypass) s l).capture.memory = s.capture.memory ∧
    (List.foldl (fun s k => State.queueCommand s k CommandKind.bypass) s l).ring.counters = s.ring.counters ∧
    (List.foldl (fun s k => State.queueCommand s k CommandKind.bypass) s l).banks = s.banks ∧
    (List.foldl (fun s k => State.queueCommand s k CommandKind.bypass) s l).management.requests = s.management.requests ∧
    (List.foldl (fun s k => State.queueCommand s k CommandKind.bypass) s l).management.snapshot = s.management.snapshot ∧
    (List.foldl (fun s k => State.queueCommand s k CommandKind.bypass) s l).management.reportsDropped = s.management.reportsDropped ∧
    (List.foldl (fun s k => State.queueCommand s k CommandKind.bypass) s l).handed = s.handed := by
  induction l generalizing s with
  | nil => simp
  | cons a l ih => simp [ih]

@[simp] theorem State.restartBus_frame (s : State)(b : Bus) :
    (State.restartBus s b).now = s.now ∧ (State.restartBus s b).pending = s.pending ∧
    (State.restartBus s b).events.openCounter = s.events.openCounter ∧
    (State.restartBus s b).events.closeCounter = s.events.closeCounter ∧
    (State.restartBus s b).events.waitCounter = s.events.waitCounter ∧
    (State.restartBus s b).pool.budget = s.pool.budget ∧ (State.restartBus s b).pool.free = s.pool.free ∧
    (State.restartBus s b).pool.drawn = s.pool.drawn ∧
    (State.restartBus s b).pool.grantQueue = s.pool.grantQueue ∧
    (State.restartBus s b).pool.creationCounter = s.pool.creationCounter ∧
    (State.restartBus s b).pool.storeState = s.pool.storeState ∧
    (State.restartBus s b).pool.inEffect = s.pool.inEffect ∧
    (State.restartBus s b).pool.storeSilence = s.pool.storeSilence ∧
    (State.restartBus s b).pool.storeBaseline = s.pool.storeBaseline ∧
    (State.restartBus s b).pool.charger = s.pool.charger ∧
    (State.restartBus s b).pool.chargerFault = s.pool.chargerFault ∧
    (State.restartBus s b).pool.staleStore = s.pool.staleStore ∧
    (State.restartBus s b).pool.passDue = s.pool.passDue ∧
    (State.restartBus s b).capture.memory = s.capture.memory ∧
    (State.restartBus s b).ring.counters = s.ring.counters ∧ (State.restartBus s b).banks = s.banks ∧
    (State.restartBus s b).management.requests = s.management.requests ∧
    (State.restartBus s b).management.snapshot = s.management.snapshot ∧
    (State.restartBus s b).management.reportsDropped = s.management.reportsDropped ∧
    (State.restartBus s b).handed = s.handed := by
  generalize h : State.restartBus s b = t
  unfold State.restartBus at h
  try dsimp only at h
  (repeat' split at h) <;> subst h <;> simp

@[simp] theorem foldl_restartBus_frame  (l : List Bus) (s : State) :
    (List.foldl State.restartBus s l).now = s.now ∧ (List.foldl State.restartBus s l).pending = s.pending ∧
    (List.foldl State.restartBus s l).events.openCounter = s.events.openCounter ∧
    (List.foldl State.restartBus s l).events.closeCounter = s.events.closeCounter ∧
    (List.foldl State.restartBus s l).events.waitCounter = s.events.waitCounter ∧
    (List.foldl State.restartBus s l).pool.budget = s.pool.budget ∧
    (List.foldl State.restartBus s l).pool.free = s.pool.free ∧
    (List.foldl State.restartBus s l).pool.drawn = s.pool.drawn ∧
    (List.foldl State.restartBus s l).pool.grantQueue = s.pool.grantQueue ∧
    (List.foldl State.restartBus s l).pool.creationCounter = s.pool.creationCounter ∧
    (List.foldl State.restartBus s l).pool.storeState = s.pool.storeState ∧
    (List.foldl State.restartBus s l).pool.inEffect = s.pool.inEffect ∧
    (List.foldl State.restartBus s l).pool.storeSilence = s.pool.storeSilence ∧
    (List.foldl State.restartBus s l).pool.storeBaseline = s.pool.storeBaseline ∧
    (List.foldl State.restartBus s l).pool.charger = s.pool.charger ∧
    (List.foldl State.restartBus s l).pool.chargerFault = s.pool.chargerFault ∧
    (List.foldl State.restartBus s l).pool.staleStore = s.pool.staleStore ∧
    (List.foldl State.restartBus s l).pool.passDue = s.pool.passDue ∧
    (List.foldl State.restartBus s l).capture.memory = s.capture.memory ∧
    (List.foldl State.restartBus s l).ring.counters = s.ring.counters ∧
    (List.foldl State.restartBus s l).banks = s.banks ∧
    (List.foldl State.restartBus s l).management.requests = s.management.requests ∧
    (List.foldl State.restartBus s l).management.snapshot = s.management.snapshot ∧
    (List.foldl State.restartBus s l).management.reportsDropped = s.management.reportsDropped ∧
    (List.foldl State.restartBus s l).handed = s.handed := by
  induction l generalizing s with
  | nil => simp
  | cons a l ih => simp [ih]

end Sys2Proof.Machine
end

