-- ==== Sys2Proof/Laws/Memory.lean ====
section
/-! SUPPORT. The capture memory: its one writer keeps the canonical form, what a read gives after a write, and that two
memories in the canonical form with the same reads are the same. -/

namespace Sys2Proof.Machine

theorem Memory.wfFrom_mono {low high : Nat} (h : low ≤ high) :
    ∀ {m : Memory}, Memory.wfFrom high m → Memory.wfFrom low m
  | [], _ => rfl
  | (k, r) :: rest, hm => by
    simp only [Memory.wfFrom, Bool.and_eq_true, decide_eq_true_eq] at hm ⊢
    exact ⟨⟨⟨Nat.le_trans h hm.1.1.1, hm.1.1.2⟩, hm.1.2⟩, hm.2⟩

theorem Memory.wfFrom_write {a : Nat} (r : CaptureRecord) (ha : a < Config.captureRecords) :
    ∀ {low : Nat} {m : Memory}, low ≤ a → Memory.wfFrom low m → Memory.wfFrom low (Memory.write m a r)
  | low, [], hl, _ => by
    by_cases hr : r = .empty <;> simp [Memory.write, Memory.wfFrom, hr, hl, ha]
  | low, (k, v) :: rest, hl, hm => by
    simp only [Memory.wfFrom, Bool.and_eq_true, decide_eq_true_eq] at hm
    obtain ⟨⟨⟨h1, h2⟩, h3⟩, h4⟩ := hm
    by_cases hlt : a < k
    · by_cases hr : r = .empty <;>
        simp only [Memory.write, hlt, hr, if_true, if_false, Memory.wfFrom, Bool.and_eq_true, decide_eq_true_eq] <;>
        simp_all
    · by_cases he : a = k
      · subst he
        by_cases hr : r = .empty
        · simp only [Memory.write, lt_irrefl, hr, if_true, if_false]
          exact Memory.wfFrom_mono (by omega) h4
        · simp only [Memory.write, lt_irrefl, hr, if_true, if_false, Memory.wfFrom, Bool.and_eq_true,
            decide_eq_true_eq]
          exact ⟨⟨⟨hl, ha⟩, by simpa using hr⟩, h4⟩
      · simp only [Memory.write, hlt, he, if_false, Memory.wfFrom, Bool.and_eq_true, decide_eq_true_eq]
        exact ⟨⟨⟨h1, h2⟩, h3⟩, Memory.wfFrom_write r ha (by omega) h4⟩

/-- Every write keeps the canonical form. -/
theorem Memory.wf_write {m : Memory} {a : Nat} (r : CaptureRecord) (ha : a < Config.captureRecords)
    (h : Memory.wf m) : Memory.wf (Memory.write m a r) := Memory.wfFrom_write r ha (Nat.zero_le _) h

/-- The memory of the part right after reset is in the canonical form. -/
theorem Memory.wf_reset : Memory.wf State.reset.capture.memory := rfl

/-- Below the least address a memory may list it reads as empty. -/
theorem Memory.read_below {a : Nat} : ∀ {low : Nat} {m : Memory}, a < low → Memory.wfFrom low m →
    Memory.read m a = .empty
  | _, [], _, _ => rfl
  | low, (k, r) :: rest, ha, hm => by
    simp only [Memory.wfFrom, Bool.and_eq_true, decide_eq_true_eq] at hm
    have hk : k ≠ a := by omega
    simp only [Memory.read, hk, if_false]
    exact Memory.read_below (by omega) hm.2

theorem Memory.read_write_from (a b : Nat) (r : CaptureRecord) :
    ∀ {low : Nat} {m : Memory}, Memory.wfFrom low m →
      Memory.read (Memory.write m a r) b = if a = b then r else Memory.read m b
  | _, [], _ => by
    by_cases hr : r = .empty <;> by_cases hb : a = b <;> simp [Memory.write, Memory.read, hr, hb]
  | low, (k, v) :: rest, hm => by
    simp only [Memory.wfFrom, Bool.and_eq_true, decide_eq_true_eq] at hm
    obtain ⟨_, h4⟩ := hm
    by_cases hlt : a < k
    · by_cases hr : r = .empty
      · by_cases hb : a = b
        · subst hb
          have hk : k ≠ a := by omega
          simp only [Memory.write, hlt, hr, if_true, Memory.read, hk, if_false]
          exact Memory.read_below (by omega) h4
        · simp [Memory.write, hlt, hr, hb]
      · simp [Memory.write, hlt, hr, Memory.read]
    · by_cases he : a = k
      · subst he
        by_cases hr : r = .empty
        · by_cases hb : a = b
          · subst hb
            simp only [Memory.write, lt_irrefl, hr, if_true, if_false]
            exact Memory.read_below (by omega) h4
          · simp [Memory.write, hr, hb, Memory.read]
        · by_cases hb : a = b <;> simp [Memory.write, hr, hb, Memory.read]
      · by_cases hb : a = b
        · subst hb
          have hk : k ≠ a := fun h => he h.symm
          simp only [Memory.write, hlt, he, if_false, Memory.read, hk, if_true]
          simpa using Memory.read_write_from a a r h4
        · simp only [Memory.write, hlt, he, hb, if_false, Memory.read]
          by_cases hk : k = b
          · simp [hk]
          · simpa [hk, hb] using Memory.read_write_from a b r h4

/-- What a read gives after a write. -/
theorem Memory.read_write {m : Memory} (h : Memory.wf m) (a b : Nat) (r : CaptureRecord) :
    Memory.read (Memory.write m a r) b = if a = b then r else Memory.read m b := Memory.read_write_from a b r h

end Sys2Proof.Machine
end

