-- ==== Sys2Proof/Laws/Requests.lean ====
section
/-! SUPPORT. What taking a management request does: the head answered, or nothing. -/

namespace Sys2Proof.Machine

theorem State.takesHead_of_heads {s : State} {r : Request} {rest : List Request} (h : s.Heads r rest) :
    s.takesHead r.row = true := by
  obtain ⟨h1, h2⟩ := h
  simp [State.takesHead, h1, h2, Config.responseCapacity]

/-- The request at the head answered by its row. -/
theorem State.answerHead_of_heads {s : State} {r : Request} {rest : List Request} (h : s.Heads r rest)
    (f : Request → State → Handled) :
    s.answerHead r.row f = (f r (s.taken rest)).1.respond ⟨r.tag, r.kind, (f r (s.taken rest)).2⟩ := by
  have := State.takesHead_of_heads h
  obtain ⟨h1, h2⟩ := h
  simp [State.answerHead, h1, this, State.taken]

/-- Nothing taken by a row that is not the head's, or while the response queue is full. -/
theorem State.takesHead_false {s : State} {row : RequestRow} (h : ∀ r rest, s.Heads r rest → r.row ≠ row) :
    s.takesHead row = false := by
  unfold State.takesHead
  split
  · rfl
  · rename_i r rest hr
    by_cases hroom : s.ring.responses.length < 8
    · simp [h r rest ⟨hr, hroom⟩]
    · simp [Config.responseCapacity, hroom]

theorem State.answerHead_stays {s : State} {row : RequestRow} (h : s.takesHead row = false)
    (f : Request → State → Handled) : s.answerHead row f = s := by
  unfold State.answerHead
  split <;> simp [h]

theorem State.settleAhead_of_nothing {s : State} (h : s.NothingAhead) : s.settleAhead = s := by
  unfold State.settleAhead
  split
  · rfl
  · rename_i x rest hx
    simp [h x (by simp [hx])]

/-- The head answered by its row, where no unit has taken a frame ahead of Bus Watch. -/
theorem State.answerSettled_of_heads {s : State} {r : Request} {rest : List Request} (h : s.Heads r rest)
    (ha : s.NothingAhead) (f : Request → State → Handled) :
    s.answerSettled r.row f = (f r (s.taken rest)).1.respond ⟨r.tag, r.kind, (f r (s.taken rest)).2⟩ := by
  simp [State.answerSettled, State.takesHead_of_heads h, State.settleAhead_of_nothing ha,
    State.answerHead_of_heads h]

theorem State.answerSettled_stays {s : State} {row : RequestRow} (h : s.takesHead row = false)
    (f : Request → State → Handled) : s.answerSettled row f = s := by
  simp [State.answerSettled, h, State.answerHead_stays]

end Sys2Proof.Machine
end

