-- ==== Sys2Proof/Laws/State.lean ====
section
/-! SUPPORT. The update lemmas of State: what each reader gives after each writer, and what each writer keeps. -/

namespace Sys2Proof.Machine

/-! ## Reading what has been written -/

@[simp] theorem State.channel_setChannel (s : State) (b b' : Bus) (c : BusChannel) :
    (s.setChannel b c).channel b' = if b = b' then c else s.channel b' := by
  simp [State.channel, State.setChannel, Vector.getElem_set, Fin.ext_iff]

@[simp] theorem State.channel_modChannel (s : State) (b b' : Bus) (f : BusChannel → BusChannel) :
    (s.modChannel b f).channel b' = if b = b' then f (s.channel b) else s.channel b' := by
  simp [State.modChannel]

@[simp] theorem State.entry_setEntry (s : State) (i j : EventIx) (e : Option Event) :
    (s.setEntry i e).entry j = if i = j then e else s.entry j := by
  simp [State.entry, State.setEntry, Vector.getElem_set, Fin.ext_iff]

@[simp] theorem State.release_setRelease (s : State) (r q : ReleaseIx) (x : Option Release) :
    (s.setRelease r x).release q = if r = q then x else s.release q := by
  simp [State.release, State.setRelease, Vector.getElem_set, Fin.ext_iff]

@[simp] theorem State.view_setView (s : State) (k j : Station) (v : StackView) :
    (s.setView k v).view j = if k = j then v else s.view j := by
  simp [State.view, State.setView, Vector.getElem_set, Fin.ext_iff]

@[simp] theorem State.view_modView (s : State) (k j : Station) (f : StackView → StackView) :
    (s.modView k f).view j = if k = j then f (s.view k) else s.view j := by
  simp [State.modView]

@[simp] theorem State.record_setRecord (s : State) (k j : Station) (x : StackRecord) :
    (s.setRecord k x).record j = if k = j then x else s.record j := by
  simp [State.record, State.setRecord, Vector.getElem_set, Fin.ext_iff]

@[simp] theorem State.record_modRecord (s : State) (k j : Station) (f : StackRecord → StackRecord) :
    (s.modRecord k f).record j = if k = j then f (s.record k) else s.record j := by
  simp [State.modRecord]

@[simp] theorem State.rate_setRate (s : State) (i j : EventIx) (x : Option Nat) :
    (s.setRate i x).rate j = if i = j then x else s.rate j := by
  simp [State.rate, State.setRate, Vector.getElem_set, Fin.ext_iff]

@[simp] theorem State.recorder_setRecorder (s : State) (k j : CaptureIx) (c : CaptureChannel) :
    (s.setRecorder k c).recorder j = if k = j then c else s.recorder j := by
  simp [State.recorder, State.setRecorder, Vector.getElem_set, Fin.ext_iff]

@[simp] theorem State.recorder_modRecorder (s : State) (k j : CaptureIx) (f : CaptureChannel → CaptureChannel) :
    (s.modRecorder k f).recorder j = if k = j then f (s.recorder k) else s.recorder j := by
  simp [State.modRecorder]

/-! ## Readers across the other writers -/

@[simp] theorem State.channel_setEntry (s : State) (i : EventIx) (e : Option Event) (b : Bus) :
    (s.setEntry i e).channel b = s.channel b := rfl

@[simp] theorem State.channel_setRelease (s : State) (r : ReleaseIx) (x : Option Release) (b : Bus) :
    (s.setRelease r x).channel b = s.channel b := rfl

@[simp] theorem State.channel_setView (s : State) (k : Station) (v : StackView) (b : Bus) :
    (s.setView k v).channel b = s.channel b := rfl

@[simp] theorem State.channel_setRecord (s : State) (k : Station) (x : StackRecord) (b : Bus) :
    (s.setRecord k x).channel b = s.channel b := rfl

@[simp] theorem State.channel_setRate (s : State) (i : EventIx) (x : Option Nat) (b : Bus) :
    (s.setRate i x).channel b = s.channel b := rfl

@[simp] theorem State.channel_setRecorder (s : State) (k : CaptureIx) (c : CaptureChannel) (b : Bus) :
    (s.setRecorder k c).channel b = s.channel b := rfl

@[simp] theorem State.entry_setChannel (s : State) (b : Bus) (c : BusChannel) (i : EventIx) :
    (s.setChannel b c).entry i = s.entry i := rfl

@[simp] theorem State.entry_modChannel (s : State) (b : Bus) (f : BusChannel → BusChannel) (i : EventIx) :
    (s.modChannel b f).entry i = s.entry i := rfl

@[simp] theorem State.entry_setRelease (s : State) (r : ReleaseIx) (x : Option Release) (i : EventIx) :
    (s.setRelease r x).entry i = s.entry i := rfl

@[simp] theorem State.entry_setView (s : State) (k : Station) (v : StackView) (i : EventIx) :
    (s.setView k v).entry i = s.entry i := rfl

@[simp] theorem State.entry_setRecord (s : State) (k : Station) (x : StackRecord) (i : EventIx) :
    (s.setRecord k x).entry i = s.entry i := rfl

@[simp] theorem State.entry_setRate (s : State) (j : EventIx) (x : Option Nat) (i : EventIx) :
    (s.setRate j x).entry i = s.entry i := rfl

@[simp] theorem State.entry_setRecorder (s : State) (k : CaptureIx) (c : CaptureChannel) (i : EventIx) :
    (s.setRecorder k c).entry i = s.entry i := rfl

@[simp] theorem State.release_setChannel (s : State) (b : Bus) (c : BusChannel) (r : ReleaseIx) :
    (s.setChannel b c).release r = s.release r := rfl

@[simp] theorem State.release_setEntry (s : State) (i : EventIx) (e : Option Event) (r : ReleaseIx) :
    (s.setEntry i e).release r = s.release r := rfl

@[simp] theorem State.release_setView (s : State) (k : Station) (v : StackView) (r : ReleaseIx) :
    (s.setView k v).release r = s.release r := rfl

@[simp] theorem State.release_setRecord (s : State) (k : Station) (x : StackRecord) (r : ReleaseIx) :
    (s.setRecord k x).release r = s.release r := rfl

@[simp] theorem State.release_setRate (s : State) (i : EventIx) (x : Option Nat) (r : ReleaseIx) :
    (s.setRate i x).release r = s.release r := rfl

@[simp] theorem State.release_setRecorder (s : State) (k : CaptureIx) (c : CaptureChannel) (r : ReleaseIx) :
    (s.setRecorder k c).release r = s.release r := rfl

@[simp] theorem State.view_setChannel (s : State) (b : Bus) (c : BusChannel) (k : Station) :
    (s.setChannel b c).view k = s.view k := rfl

@[simp] theorem State.view_modChannel (s : State) (b : Bus) (f : BusChannel → BusChannel) (k : Station) :
    (s.modChannel b f).view k = s.view k := rfl

@[simp] theorem State.view_setEntry (s : State) (i : EventIx) (e : Option Event) (k : Station) :
    (s.setEntry i e).view k = s.view k := rfl

@[simp] theorem State.view_setRelease (s : State) (r : ReleaseIx) (x : Option Release) (k : Station) :
    (s.setRelease r x).view k = s.view k := rfl

@[simp] theorem State.view_setRecord (s : State) (j : Station) (x : StackRecord) (k : Station) :
    (s.setRecord j x).view k = s.view k := rfl

@[simp] theorem State.view_setRate (s : State) (i : EventIx) (x : Option Nat) (k : Station) :
    (s.setRate i x).view k = s.view k := rfl

@[simp] theorem State.record_setChannel (s : State) (b : Bus) (c : BusChannel) (k : Station) :
    (s.setChannel b c).record k = s.record k := rfl

@[simp] theorem State.record_setEntry (s : State) (i : EventIx) (e : Option Event) (k : Station) :
    (s.setEntry i e).record k = s.record k := rfl

@[simp] theorem State.record_setRelease (s : State) (r : ReleaseIx) (x : Option Release) (k : Station) :
    (s.setRelease r x).record k = s.record k := rfl

@[simp] theorem State.record_setView (s : State) (j : Station) (v : StackView) (k : Station) :
    (s.setView j v).record k = s.record k := rfl

@[simp] theorem State.recorder_setEntry (s : State) (i : EventIx) (e : Option Event) (k : CaptureIx) :
    (s.setEntry i e).recorder k = s.recorder k := rfl

@[simp] theorem State.recorder_setChannel (s : State) (b : Bus) (c : BusChannel) (k : CaptureIx) :
    (s.setChannel b c).recorder k = s.recorder k := rfl

@[simp] theorem State.rate_setEntry (s : State) (i j : EventIx) (e : Option Event) :
    (s.setEntry i e).rate j = s.rate j := rfl

@[simp] theorem State.row_setEntry (s : State) (i : EventIx) (e : Option Event) (b : Bus) :
    (s.setEntry i e).row b = s.row b := rfl

/-! ## Conditional writers -/

theorem State.entry_modEvent (s : State) (i j : EventIx) (f : Event → Event) :
    (s.modEvent i f).entry j = if i = j then (s.entry j).map f else s.entry j := by
  unfold State.modEvent
  cases h : s.entry i with
  | none =>
    by_cases hij : i = j
    · subst hij; simp [h]
    · simp [hij]
  | some e =>
    by_cases hij : i = j
    · subst hij; simp [h]
    · simp [hij]

theorem State.release_modRelease (s : State) (r q : ReleaseIx) (f : Release → Release) :
    (s.modRelease r f).release q = if r = q then (s.release q).map f else s.release q := by
  unfold State.modRelease
  cases h : s.release r with
  | none =>
    by_cases hrq : r = q
    · subst hrq; simp [h]
    · simp [hrq]
  | some x =>
    by_cases hrq : r = q
    · subst hrq; simp [h]
    · simp [hrq]

/-- A member of a table after a function is applied to every member. -/
@[simp] theorem getElem_eachMember {α : Type} {n : Nat} (f : α → α) (v : Vector α n) (i : Fin n) :
    (eachMember f v)[i] = f v[i] := by
  simp [eachMember]

end Sys2Proof.Machine
end

