-- ==== Sys2Proof/WellFormed.lean ====
section
/-! DEFINITION. Well-formed commands: an operand that numbers a bus, an event or a stack lies in the manual's
range (00_scope.md, "Addresses and numbering"), and an arriving run of bytes is not empty (an empty run is no run; a run of a
wrong length is a run all the same, R160). -/

namespace Sys2Proof

/-- Whether the operands of a command lie in the manual's ranges. -/
def Instr.wellFormed : Instr → Bool
  | .powerOn => true
  | .frameArrival _ bytes => bytes ≠ []
  | .senseFrame => true
  | .injectionFrame _ => true
  | .envelopeJudge _ => true
  | .captureFrame _ => true
  | .silenceExpiry _ bus => decide (bus < 24)
  | .storeFrame => true
  | .storeSilenceExpiry _ => true
  | .stackStatus _ => true
  | .stackNotice => true
  | .ackTimerExpiry _ stack => decide (1 ≤ stack ∧ stack ≤ 62)
  | .topupRequest => true
  | .servicePass => true
  | .firstWaitExpiry _ event => decide (event < 32)
  | .topupWaitExpiry _ event => decide (event < 32)
  | .frameCompletion _ => true
  | .readIdentity => true
  | .loadBusRow => true
  | .loadEnvelopeRow => true
  | .loadStoreParameters => true
  | .readRow => true
  | .commitBank => true
  | .setServiceOff => true
  | .setServiceOn => true
  | .captureMask => true
  | .captureUnmask => true
  | .loadCaptureChannel => true
  | .readBus => true
  | .takeAlarmsBus => true
  | .takeAlarmsPool => true
  | .readEvent => true
  | .readPool => true
  | .readRelease => true
  | .readPorts => true
  | .latchMetering => true
  | .readSnapshot => true
  | .readCaptureRecords => true
  | .readCaptureChannel => true
  | .restart => true
  | .unknownRequest => true

end Sys2Proof
end

