-- ==== Sys2Proof/Tests/Slice0.lean ====
section
/-! SUPPORT. The model's own tests: the WellFormed smoke, tests of one step each on small states, and for every statement a
state that meets its hypotheses. -/

namespace Sys2Proof.Tests

set_option Elab.async false

open Sys2Proof Sys2Proof.Machine

/-! ## WellFormed: one ill-formed term for each check -/

theorem test_empty_run_is_ill_formed : (Instr.frameArrival 5 []).wellFormed = false := by decide
theorem test_bus_24_is_ill_formed : (Instr.silenceExpiry 5 24).wellFormed = false := by decide
theorem test_stack_0_is_ill_formed : (Instr.ackTimerExpiry 5 0).wellFormed = false := by decide
theorem test_stack_63_is_ill_formed : (Instr.ackTimerExpiry 5 63).wellFormed = false := by decide
theorem test_first_event_32_is_ill_formed : (Instr.firstWaitExpiry 5 32).wellFormed = false := by decide
theorem test_topup_event_32_is_ill_formed : (Instr.topupWaitExpiry 5 32).wellFormed = false := by decide

/-! ## Small states -/

/-- The state a command leaves; the state itself where it leaves none. -/
def after (c : Instr) (s : State) : State :=
  match exec c s with
  | .next t => t
  | _ => s

/-- Bus 5 of the example of section 1.9, on head 40 and stack 10. -/
def row : BusRow where
  head := 39
  stack := 9
  nominal := 230
  cls := 1
  envelope := 0
  sagThreshold := 800
  recoveryThreshold := 900
  swellThreshold := 1100
  confirmCount := 2
  recoverCount := 3
  silenceTimeout := 2000
  faultLimit := 1200
  method := .presag
  policy := .hold
  injectionLimit := 500
  grantCap := 900000
  capture := none

def envelope : EnvelopeRow := ⟨[⟨20, 0⟩, ⟨500, 700⟩], 900, 50, 2⟩

/-- The store on head 50, with the figures of the example of R66. -/
def store : StoreParameters := ⟨49, 600, 4000, 400000, 100000, 2000⟩

def bankWith (r : BusRow) : Bank where
  busRows := Bank.reset.busRows.set 5 (some r)
  envelopes := Bank.reset.envelopes.set 0 (some envelope)
  store := some store

def channel (d : Detection) : BusChannel :=
  { BusChannel.reset with
    detection := d
    baseline := some ⟨39, 999000⟩
    silence := some 2000 }

/-- Bus 5 on a row and a channel, everything else as after reset. -/
def onBus (r : BusRow) (c : BusChannel) : State :=
  { State.reset with
    channels := State.reset.channels.set 5 c
    banks := ⟨State.reset.banks.bank.set 0 (bankWith r), 0⟩ }

def bus5 (d : Detection) : State := onBus row (channel d)

/-- The silence one-shot of bus 5 far off. -/
def quiet (s : State) : State := s.modChannel 5 fun c => { c with silence := some 200000 }

def sense (v : Int) (i : Nat) (sequence : Byte) (timestamp : U32) : SenseFrame × Byte :=
  (⟨timestamp, ⟨⟨v, 0⟩, ⟨1000, 0⟩, ⟨1000, 0⟩⟩, ⟨i, 0, 0⟩, false⟩, sequence)

/-- A SENSE frame of head 40 handed to Bus Watch. -/
def x40 (v : Int) (i : Nat) : HandedSense :=
  ⟨40, 40, (sense v i 40 1000000).1, ⟨false, false, false⟩⟩

def handing (s : State) (x : HandedSense) : State := { s with handed.sense := [x] }

def accepted (v : Int) (i : Nat) : AcceptedFrame := ⟨5, 39, 40, (sense v i 40 1000000).1, some 999000⟩

/-- An event of bus 5. -/
def event (st : EventState) (order : StackOrder) : Event :=
  { Event.opened 5 0 1000000 (row.openedUnder envelope) 640 1000000 with state := st, stackOrder := order }

def withEvent (s : State) (i : EventIx) (e : Event) : State := s.setEntry i (some e)

def live (free : Nat) (s : State) : State :=
  { s with
    pool.storeState := .live
    pool.inEffect := some store
    pool.free := free
    pool.budget := free
    pool.storeSilence := some 100000
    pool.passDue := true }

/-- A request of bytes as the gateway sends it. -/
def asked (kind : Byte) (fields : List Byte) (s : State) : State :=
  { s with management.requests := [⟨3, 7, kind, fields⟩] }

/-- The result a command gives to the request at the head: that of the response now on the link. -/
def answered (c : Instr) (s : State) : Option Result :=
  match (after c s).ring.port with
  | some ⟨.response r, _⟩ => some r.result
  | _ => none

/-! ## The check sequence and the ring ports -/

/-- The check of "123456789", the usual check value of this polynomial and start. -/
theorem test_check_sequence :
    checkSequence [0x31, 0x32, 0x33, 0x34, 0x35, 0x36, 0x37, 0x38, 0x39] = 0x29B1#16 := by decide +kernel

/-- A STORE frame from node 50, V = 8,000 dV. -/
def storeBytes : List Byte :=
  let head : List Byte := [0, 50, 2, 7, 1, 0x40, 0x42, 0x0F, 0, 0x40, 0x1F, 1]
  head ++ checkBytes head

theorem test_store_frame_arrives :
    (after (.frameArrival 5 storeBytes) State.reset).handed.store = [⟨50, 1, 1000000, 8000, .idle⟩] := by decide +kernel

theorem test_short_run_fails_its_check :
    (after (.frameArrival 5 [0, 40, 1]) State.reset).ring.counters.checkFailures = 1 := by decide +kernel

theorem test_completion_counts_a_response :
    let s := after (.frameCompletion 9) (after .readIdentity (asked 1 [] State.reset))
    s.ring.counters.responsesSent = 1 ∧ s.ring.port = none ∧ s.now = 9 := by decide +kernel

/-! ## Bus Watch: the frames of the example of section 1.9 -/

theorem test_frame_41_starts_a_suspect_sag :
    let c := (after .senseFrame (handing (bus5 .normal) (x40 712 0))).channel 5
    c.detection = .suspect ∧ c.runCount = 1 ∧ c.suspectStart = some 1000000 ∧ c.suspectLowest = some 712 ∧
      c.counters.accepted = 1 ∧ c.silence = some 2000 := by decide +kernel

def suspecting : State :=
  onBus row { channel .suspect with runCount := 1, suspectStart := some 999000, suspectLowest := some 712 }

theorem test_frame_42_opens_an_event :
    let s := after .senseFrame (handing suspecting (x40 640 100))
    (s.channel 5).detection = .sag ∧ (s.channel 5).openEvent = some 0 ∧
      (s.entry 0).map (fun e => (e.state, e.start, e.strikes)) = some (.requesting, 999000, [⟨0, 640⟩]) ∧
      s.pool.grantQueue.map (fun q => (q.event, q.kind, q.expiry)) = [(0, .first, 20000)] := by decide +kernel

theorem test_silence_expiry_takes_the_bus_to_silent :
    let s := after (.silenceExpiry 2000 5) (bus5 .normal)
    (s.channel 5).detection = .silent ∧ (s.channel 5).baseline = none ∧ (s.channel 5).silence = none ∧
      s.now = 2000 := by decide +kernel

/-- A one-shot 2 µs past its expiry is taken before a later command; 1 µs past it, it need not be (R17). -/
theorem test_overdue_silence_is_taken_first :
    ((after (.frameCompletion 2002) (bus5 .normal)).channel 5).detection = .silent ∧
      ((after (.frameCompletion 2001) (bus5 .normal)).channel 5).detection = .normal := by decide +kernel

/-! ## Envelopes and injection -/

theorem test_floor_at_a_breakpoint : envelope.floorAt 19 = 0 ∧ envelope.floorAt 20 = 700 ∧ envelope.floorAt 500 = 900 := by
  decide +kernel

def injecting : State :=
  (withEvent (onBus row { channel .sag with openEvent := some 0 }) 0
    { event .injecting .inject with grant := 5000 }).setRecord 9 ⟨some 5, some 0, none⟩

theorem test_envelope_judges_the_open_event :
    let s := after (.envelopeJudge .passedOn) { injecting with handed.envelope := [accepted 640 100] }
    (s.entry 0).map (fun e => (e.lowestResidual, e.breachRun)) = some (some 640, 0) := by decide +kernel

theorem test_injection_places_a_reference :
    let s := after (.injectionFrame .passedOn) { injecting with handed.injection := [accepted 640 100] }
    (s.entry 0).map (·.lastReference) = some (some ⟨⟨360, 0⟩, ⟨0, 0⟩, ⟨0, 0⟩⟩) ∧ s.ring.port.isSome := by decide +kernel

def metered : State :=
  ((injecting.setView 9 { injecting.view 9 with reported := .injecting }).setRecord 9
    ⟨some 5, some 0, some ⟨0, 0, ⟨⟨300, 400⟩, ⟨0, 0⟩, ⟨0, 0⟩⟩, 230⟩⟩)

/-- 500 ‰ of 230 V at 100 A for 1,000 µs is 11.5 J. -/
theorem test_metering_spends_whole_joules :
    let s := after (.injectionFrame .passedOn) { metered with handed.injection := [accepted 640 100] }
    (s.entry 0).map (fun e => (e.accumulator, e.spent)) = some (11500000000, 11) ∧ s.pool.drawn = 11 ∧
      s.rate 0 = some 11500000 := by decide +kernel

/-! ## Capture -/

def recording : State :=
  (bus5 .sag).setRecorder 2 { CaptureChannel.reset with
    state := .running
    base := 4095
    count := 1
    current := 4095
    bus := some 5
    event := some 0
    status := .opened
    passCount := 1 }

/-- The window wraps within the page of its base (R151). -/
theorem test_capture_wraps_within_its_page :
    let s := after (.captureFrame .passedOn) { recording with handed.capture := [accepted 640 100] }
    (Memory.read s.capture.memory 4095).kind = .sample ∧ (s.recorder 2).current = 0 ∧ (s.recorder 2).written = 1 ∧
      (s.recorder 2).halfNotified = true := by decide +kernel

/-- The frame that confirms the sag is written once, as START, and a frame of the bus that waited is not written (R152). -/
theorem test_capture_opens_on_the_confirming_frame :
    let s := { (onBus { row with capture := some 2 } { channel .suspect with
        runCount := 1, suspectStart := some 999000, suspectLowest := some 712 }).setRecorder 2
          { CaptureChannel.reset with state := .idle, count := 3 } with
      handed.sense := [x40 640 100]
      handed.capture := [⟨5, 39, 39, (sense 712 0 39 999000).1, none⟩] }
    let t := after (.captureFrame .passedOn) (after .senseFrame s)
    (t.recorder 2).written = 1 ∧ (Memory.read t.capture.memory 0).kind = .start ∧
      (Memory.read t.capture.memory 0).sequence = 40 ∧ t.handed.capture = [] := by decide +kernel

/-- A record sends d and q of the three phases and then the three currents (section 8.1). -/
theorem test_record_layout :
    putRecord ⟨.sample, 1, 40, 9, ⟨5, ⟨⟨1, 2⟩, ⟨3, 4⟩, ⟨5, 6⟩⟩, ⟨7, 8, 9⟩, true⟩⟩ =
      [2, 1, 40, 9, 5, 0, 0, 0, 1, 0, 2, 0, 3, 0, 4, 0, 5, 0, 6, 0, 7, 0, 8, 0, 9, 0, 1] := by decide +kernel

/-! ## The Energy Allocator -/

/-- The example of R66. -/
theorem test_budget_of_the_example : storeBudget store 8000 = 14000000 := by decide +kernel

theorem test_store_frame_confirms :
    let s := after .storeFrame { bus5 .normal with handed.store := [⟨50, 1, 1000000, 8000, .fault⟩] }
    s.pool.storeState = .live ∧ s.pool.budget = 14000000 ∧ s.pool.free = 14000000 ∧ s.pool.chargerFault = true ∧
      s.pool.storeSilence = some 100000 := by decide +kernel

theorem test_store_silence :
    let s := after (.storeSilenceExpiry 100000) (live 5000 (bus5 .normal))
    s.pool.storeState = .silent ∧ s.pool.storeSilence = none := by decide +kernel

/-- A HELD event on stack 10, index 0, and a less critical one of its stack that is CLOSING and waits, index 1. -/
def heldAndWaiting : State :=
  let waits := { event .closing .bypass with
    copy := { row.openedUnder envelope with cls := 2 }
    grant := 1000
    outcome := some .displaced
    releaseWait := some ⟨0, 0⟩ }
  live 0 (withEvent (withEvent (onBus row { channel .sag with openEvent := some 0 }) 0
    { event .held .none with grant := 1000, held := ⟨false, true, false⟩ }) 1 waits)

/-- The end of a wait at a cut does not take the outcome of an event that the same cut leaves with nothing (R104, R38). -/
theorem test_cut_outcome_comes_first :
    let s := after .storeFrame { heldAndWaiting with handed.store := [⟨50, 1, 1000000, 4001, .idle⟩] }
    (s.entry 0).map (fun e => (e.state, e.outcome, e.grant)) = some (.bypassed, some .cut, 0) ∧
      (s.entry 1).map (·.releaseWait) ≠ some (some ⟨0, 0⟩) := by decide +kernel

def first : GrantRequest := ⟨0, .first, 3000, 1, 0, 20000⟩
def topup : GrantRequest := ⟨0, .topup, 3000, 1, 0, 20000⟩

def requesting (free : Nat) : State :=
  let s := withEvent (onBus row { channel .sag with openEvent := some 0 }) 0 (event .requesting .none)
  live free { s with pool.grantQueue := [first] }

theorem test_service_pass_grants :
    let s := after .servicePass (requesting 5000)
    (s.entry 0).map (fun e => (e.state, e.grant, e.stackOrder)) = some (.injecting, 3000, .inject) ∧
      s.pool.free = 2000 ∧ (s.view 9).outstanding = [⟨⟨0, .inject 0⟩, .inTransmission⟩] := by decide +kernel

theorem test_first_wait_denies :
    let s := after (.firstWaitExpiry 20000 0) (quiet (requesting 0))
    (s.entry 0).map (fun e => (e.state, e.outcome)) = some (.bypassed, some .denied) ∧ s.pool.grantQueue = [] := by
  decide +kernel

theorem test_topup_wait_marks :
    let s := after (.topupWaitExpiry 20000 0) { quiet injecting with pool.grantQueue := [topup] }
    (s.entry 0).map (fun e => (e.state, e.marks.topupDenied)) = some (.injecting, true) ∧ s.pool.grantQueue = [] := by
  decide +kernel

theorem test_topup_request_enters :
    let s := after .topupRequest { injecting with handed.topups := [⟨0, 0⟩] }
    s.pool.grantQueue.map (fun q => (q.event, q.kind)) = [(0, .topup)] := by decide +kernel

/-! ## The Stack Command Channel -/

def commanded : State :=
  (bus5 .normal).setView 9 { StackView.reset with
    nextSequence := 1
    outstanding := [⟨⟨0, .bypass⟩, .sent (some 4000)⟩] }

theorem test_status_acknowledges :
    let s := after (.stackStatus .later) { commanded with handed.status := [⟨10, 6, .injecting, 0, 2⟩] }
    (s.view 9).outstanding = [] ∧ (s.view 9).lastAcknowledged = some 0 ∧ (s.view 9).derate = 2 ∧
      s.handed.notices = [⟨9, .injecting, 0, some 0, false⟩] := by decide +kernel

theorem test_ack_timer_expiry_faults :
    let s := after (.ackTimerExpiry 4000 10) (quiet commanded)
    (s.view 9).unresponsive = true ∧ (s.view 9).outstanding = [⟨⟨1, .bypass⟩, .inTransmission⟩] ∧
      (s.channel 5).alarms.stackFault = true := by decide +kernel

def releasing : State :=
  (live 0 (bus5 .normal)).setRelease 0 (some ⟨.pending, 9, 5, none, 0, 4000, 0, 0, 3, []⟩)

theorem test_notice_confirms_a_release :
    let s := after .stackNotice { releasing with handed.notices := [⟨9, .bypassed, 3, some 3, false⟩] }
    s.release 0 = none ∧ s.pool.free = 4000 ∧ s.pool.passDue = true := by decide +kernel

/-! ## The management requests -/

theorem test_read_identity : answered .readIdentity (asked 1 [] (bus5 .normal)) = some (.done (.identity 0 0)) := by
  decide +kernel

/-- A bus row whose recovery threshold is its sag threshold is refused naming the recovery threshold (R175). -/
theorem test_load_bus_row_checks_recovery :
    answered .loadBusRow (asked 2 ([5, 1] ++ putBusRow { row with recoveryThreshold := 800 }) State.reset) =
      some (.refused (.range 8 800)) := by decide +kernel

theorem test_load_bus_row :
    let s := after .loadBusRow (asked 2 ([5, 1] ++ putBusRow row) State.reset)
    (s.bank 1).busRows[(5 : Bus)] = some row ∧ (s.bank 0).busRows[(5 : Bus)] = none := by decide +kernel

theorem test_load_envelope_row :
    ((after .loadEnvelopeRow (asked 3 ([15] ++ putEnvelope envelope) State.reset)).bank 1).envelopes[(15 : EnvelopeIx)] =
      some envelope := by decide +kernel

theorem test_load_store_parameters :
    ((after .loadStoreParameters (asked 4 ([1] ++ putStore store) State.reset)).bank 1).store = some store := by
  decide +kernel

theorem test_read_row : answered .readRow (asked 5 [0, 0, 5] (bus5 .normal)) = some (.done (.busRow (some row))) := by
  decide +kernel

theorem test_commit_bank :
    let s := { State.reset with banks := ⟨State.reset.banks.bank.set 1 (bankWith row), 0⟩ }
    let t := after .commitBank (asked 6 [] s)
    t.banks.active = 1 ∧ (t.channel 5).bankInUse = 1 ∧ t.pool.storeState = .waiting := by decide +kernel

theorem test_commit_refused_for_a_served_bus :
    answered .commitBank (asked 6 [] (bus5 .normal)) = some (.refused (.state (some 5))) := by decide +kernel

theorem test_service_on :
    let s := after .setServiceOn (asked 7 [5, 1] (bus5 .outOfService))
    (s.channel 5).detection = .normal ∧ (s.channel 5).silence = some 2000 ∧ (s.channel 5).baseline = none := by
  decide +kernel

theorem test_service_off :
    let s := after .setServiceOff (asked 7 [5, 0] injecting)
    (s.channel 5).detection = .outOfService ∧ (s.channel 5).openEvent = none ∧
      (s.release 0).map (fun x => (x.state, x.amount)) = some (.pending, 5000) := by decide +kernel

theorem test_capture_mask :
    ((after .captureMask (asked 8 [2, 1] recording)).recorder 2).state = .masked := by decide +kernel

theorem test_capture_unmask :
    ((after .captureUnmask (asked 8 [7, 0] State.reset)).recorder 7).state = .idle := by decide +kernel

theorem test_load_capture_channel :
    let c := (after .loadCaptureChannel (asked 9 [7, 0xFF, 0xFF, 0xFF, 0x0F, 1] State.reset)).recorder 7
    c.base = 65535 ∧ c.count = 4095 ∧ c.mode = .continuous ∧ c.current = 65535 ∧ c.state = .masked := by
  decide +kernel

theorem test_read_bus : answered .readBus (asked 10 [24] State.reset) = some (.refused (.range 0 24)) := by
  decide +kernel

theorem test_take_alarms_bus :
    let s := onBus row { channel .normal with alarms := { BusAlarms.empty with gap := true } }
    (((after .takeAlarmsBus (asked 11 [5] s)).channel 5).alarms.gap = false) ∧
      answered .takeAlarmsBus (asked 11 [5] s) = some (.done (.busAlarms { BusAlarms.empty with gap := true })) := by
  decide +kernel

theorem test_take_alarms_pool :
    let s := { State.reset with pool.chargerFault := true }
    (after .takeAlarmsPool (asked 11 [255] s)).pool.chargerFault = false ∧
      answered .takeAlarmsPool (asked 11 [255] s) = some (.done (.poolAlarms true)) := by decide +kernel

theorem test_read_event : answered .readEvent (asked 12 [31] State.reset) = some (.done (.event none)) := by
  decide +kernel

theorem test_read_pool :
    (match answered .readPool (asked 13 [] (live 9 State.reset)) with
      | some (.done (.pool x)) => decide (x.free = 9 ∧ x.storeState = .live)
      | _ => false) = true := by decide +kernel

theorem test_read_release : answered .readRelease (asked 14 [16] State.reset) = some (.refused (.range 0 16)) := by
  decide +kernel

theorem test_read_ports :
    (match answered .readPorts (asked 15 [] State.reset) with
      | some (.done (.ports x)) => decide (x.requests = 0 ∧ x.sending = false)
      | _ => false) = true := by decide +kernel

theorem test_latch_makes_a_snapshot :
    answered .latchMetering (asked 16 [] State.reset) = some (.done (.latched false)) ∧
      (after .latchMetering (asked 16 [] State.reset)).management.snapshot.isSome := by decide +kernel

theorem test_read_snapshot_without_one :
    answered .readSnapshot (asked 17 [0, 1] State.reset) = some (.refused (.state none)) := by decide +kernel

theorem test_read_capture_records :
    answered .readCaptureRecords (asked 18 [1, 0xFF, 0xFF, 1] State.reset) = some (.done (.records [.empty])) ∧
      answered .readCaptureRecords (asked 18 [1, 0xFF, 0xFF, 2] State.reset) = some (.refused (.range 2 2)) := by
  decide +kernel

theorem test_read_capture_channel :
    answered .readCaptureChannel (asked 18 [0, 7] State.reset) = some (.done (.captureChannel .reset)) := by
  decide +kernel

theorem test_restart_refused : answered .restart (asked 19 [0] injecting) = some (.refused (.state none)) := by
  decide +kernel

theorem test_restart_forced :
    let s := after .restart (asked 19 [1] injecting)
    s.entry 0 = none ∧ (s.channel 5).detection = .normal := by decide +kernel

theorem test_unknown_request : answered .unknownRequest (asked 20 [1] State.reset) = some (.refused .unknown) := by
  decide +kernel

/-! ## Every statement's hypotheses are met: lemmas on the small states -/

theorem no_entry {s : State} (h : s.events = EventMap.reset) (i : EventIx) : s.entry i = none := by
  simp [State.entry, h, EventMap.reset]

theorem no_release {s : State} (h : s.pool.releases = Vector.replicate 16 none) (r : ReleaseIx) :
    s.release r = none := by
  simp [State.release, h]

/-- A state with one event, at index 0. -/
theorem one_entry {s : State} {e : Event} (h : s.events.entries = EventMap.reset.entries.set 0 (some e)) {i : EventIx}
    {x : Event} (hx : s.entry i = some x) : i = 0 ∧ x = e := by
  have : s.entry i = if (0 : EventIx) = i then some e else none := by
    simp [State.entry, h, EventMap.reset, Vector.getElem_set, Fin.ext_iff]
  rw [this] at hx
  by_cases hi : (0 : EventIx) = i
  · simp [hi] at hx
    exact ⟨hi.symm, hx.symm⟩
  · simp [hi] at hx

/-- What holds of every entry that is held, found entry by entry. -/
theorem each_entry {s : State} {P : EventIx → Event → Prop} [∀ i e, Decidable (P i e)]
    (h : ∀ i, (s.entry i).all (fun e => decide (P i e)) = true) (i : EventIx) (e : Event) (he : s.entry i = some e) :
    P i e := by
  simpa [he] using h i

/-- What holds of every release that is held, found entry by entry. -/
theorem each_release {s : State} {P : ReleaseIx → Release → Prop} [∀ r y, Decidable (P r y)]
    (h : ∀ r, (s.release r).all (fun y => decide (P r y)) = true) (r : ReleaseIx) (y : Release)
    (hy : s.release r = some y) : P r y := by
  simpa [hy] using h r

/-- The row of bus 5 is the one row of the example's bank. -/
theorem one_row {c : BusChannel} (hc : c.bankInUse = 0) {b : Bus} {r : BusRow} (h : (onBus row c).row b = some r) :
    b = 5 ∧ r = row := by
  have key : ∀ b : Bus, (bankWith row).busRows[b] = if (5 : Bus) = b then some row else none := by
    intro b
    simp [bankWith, Bank.reset, Vector.getElem_set, Fin.ext_iff]
  have hb : ((onBus row c).channel b).bankInUse = 0 := by
    have : (onBus row c).channel b = if (5 : Bus) = b then c else BusChannel.reset := by
      simp [State.channel, onBus, State.reset, Vector.getElem_set, Fin.ext_iff]
    rw [this]
    split
    · exact hc
    · rfl
  have : (onBus row c).row b = (bankWith row).busRows[b] := by
    simp only [State.row, hb]
    simp [State.bank, onBus]
  rw [this, key] at h
  by_cases h5 : (5 : Bus) = b
  · simp [h5] at h
    exact ⟨h5.symm, h.symm⟩
  · simp [h5] at h

theorem accepts_of {s : State} {x : HandedSense} {b : Bus} {r : BusRow} (h : (handing s x).verdict x = .accepted b r) :
    (handing s x).Accepts x [] b r := ⟨rfl, h⟩

theorem nothing_ahead {s : State} (h : s.handed.sense = []) : s.NothingAhead := by
  intro x hx
  simp [h] at hx

theorem heads (kind : Byte) (fields : List Byte) (s : State) (h : s.ring.responses = []) :
    (asked kind fields s).Heads ⟨3, 7, kind, fields⟩ [] := ⟨rfl, by simp [asked, h]⟩

/-! ## The witnesses -/

theorem witness_StepTakesTheFront : (bus5 .normal).pending = [] ∧ (bus5 .normal).InTime ((bus5 .normal).now + 1) := by
  unfold State.InTime
  decide +kernel

theorem witness_EveryCommandCompletes :
    let x : Running := ⟨.silence 5, 2000⟩
    let s := bus5 .normal
    commandTime (.frameCompletion 2002) = some 2002 ∧ x ∈ s.timers ∧ x.expiry + 1 < max s.now 2002 ∧
    (∀ y ∈ s.timers, y ≠ x → max s.now 2002 ≤ y.expiry + 1) ∧ ∃ u, exec (x.timer.command x.expiry) s = .next u :=
  ⟨rfl, by decide +kernel, by decide, by decide +kernel, _, rfl⟩

/-- What is asked of every held entry, where none is held. -/
theorem none_held {s : State} (he : s.events = EventMap.reset) {P : EventIx → Event → Prop} (i : EventIx) (e : Event)
    (h : s.entry i = some e) : P i e := by
  rw [no_entry he] at h
  cases h

/-- Bus 5 in NORMAL, with a command waiting. -/
def waiting : State := { bus5 .normal with pending := [.servicePass] }

theorem waiting_energy : EnergySound waiting where
  bounded := none_held rfl
  accounted := none_held rfl
  settled := none_held rfl
  balance := by decide +kernel

theorem waiting_grants : GrantQueueSound waiting where
  once := List.nodup_nil
  sorted := List.Pairwise.nil
  owned := fun _ hq => nomatch hq
  waiting := none_held rfl

theorem waiting_events : EventsSound waiting where
  strikes := none_held rfl
  claims := none_held rfl
  step := none_held rfl
  onPath := none_held rfl
  deepest := fun i e n h => none_held (P := fun _ e => e.deepestStep = some n → n ≤ 3) rfl i e h
  breachRun := none_held rfl
  outcome := none_held rfl

theorem waiting_capture : CaptureSound waiting := by constructor <;> decide +kernel

theorem waiting_watch : WatchSound waiting where
  sag := by
    unfold BusChannel.inSag
    decide +kernel
  apart := by decide +kernel
  suspectStart := by decide +kernel
  suspectLowest := by decide +kernel
  run := by decide +kernel
  silence := by decide +kernel
  served := by decide +kernel
  openEvent := by
    have none_open : ∀ b, (waiting.channel b).openEvent = none := by decide +kernel
    intro b i h
    simp [none_open] at h
  linked := none_held rfl

/-- A state with a command waiting satisfies every invariant, and its step answers a next state. -/
theorem witness_invariants :
    EnergySound waiting ∧ GrantQueueSound waiting ∧ EventsSound waiting ∧ CaptureSound waiting ∧
      QueuesBounded waiting ∧ PortServed waiting ∧ waiting.InTime waiting.now ∧ ∃ t, step waiting = .next t :=
  ⟨waiting_energy, waiting_grants, waiting_events, waiting_capture, by constructor <;> decide,
    fun _ => ⟨rfl, rfl, rfl, rfl⟩, by unfold State.InTime; decide +kernel, _, rfl⟩

theorem witness_WatchKept : GrantQueueSound waiting ∧ WatchSound waiting := ⟨waiting_grants, waiting_watch⟩

theorem witness_ChannelKept : ChannelSound (bus5 .normal) := by
  refine ⟨by decide +kernel, ?_, by decide, ?_, ?_⟩
  · intro k
    simp [State.view, bus5, onBus, State.reset, StackView.liveSequences, StackView.reset, consecutive]
  · intro f hf
    simp [bus5, onBus, State.reset, Ring.reset] at hf
  · intro f hf
    simp [bus5, onBus, State.reset, Ring.reset] at hf

theorem witness_BudgetAndBanks : exec .readPool (bus5 .normal) = .next (bus5 .normal) ∧
    Instr.readPool ≠ .powerOn ∧ Instr.readPool ≠ .storeFrame ∧ Instr.readPool ≠ .restart ∧
    Instr.readPool ≠ .commitBank ∧ Instr.readPool ≠ .loadBusRow := ⟨rfl, by decide⟩

theorem witness_OutcomeSetOnce :
    let e := { event .bypassed .none with outcome := some .denied }
    let s := withEvent (bus5 .sag) 0 e
    exec .readPool s = .next s ∧ s.entry 0 = some e ∧ e.outcome = some .denied := ⟨rfl, by decide +kernel, rfl⟩

/-- A frame with its check sequence. -/
def frame (destination source kind : Byte) (body : List Byte) : List Byte :=
  let head := [destination, source, kind, BitVec.ofNat 8 body.length, 9] ++ body
  head ++ checkBytes head

theorem witness_ArrivalDiscards :
    wellChecked (frame 64 0 1 []) ∧ wellChecked (frame 0 64 1 []) ∧ wellChecked (frame 0 1 4 []) ∧
    wellChecked (frame 0 63 1 []) ∧ wellChecked (frame 0 1 2 [0, 0, 0, 0, 0, 0, 3]) ∧
    wellChecked (frame 0 1 3 [4, 0, 0]) ∧ wellChecked (frame 0 1 3 [3, 16, 0]) ∧ wellChecked (frame 0 1 3 [3, 15, 4]) ∧
    wellChecked (frame 0 62 5 [1, 1]) ∧ wellChecked (frame 0 63 5 [1]) ∧ wellChecked (frame 0 63 5 [1, 1]) ∧
    wellChecked (frame 63 0 7 []) ∧ ¬ wellChecked [0, 0, 0, 0, 0, 0, 0] ∧ (bus5 .normal).InTime 2001 ∧
    4 ≤ ({ State.reset with management.requests := List.replicate 4 ⟨0, 0, 1, []⟩ } : State).management.requests.length := by
  unfold State.InTime
  decide +kernel

theorem witness_ArrivalHandsOver :
    (bus5 .normal).InTime 2001 ∧ wellChecked (frame 0 1 1 (List.replicate 23 0)) ∧ wellChecked (frame 0 63 2 [0, 0, 0, 0, 0, 0, 2]) ∧
    wellChecked (frame 0 62 3 [3, 15, 3]) ∧ wellChecked (frame 0 63 5 [1, 1]) ∧ wellChecked (frame 1 63 9 []) ∧
    wellChecked (frame 63 1 0 [5]) ∧
    16 ≤ ({ State.reset with ring.transit := List.replicate 16 [] } : State).ring.transit.length := by
  unfold State.InTime
  decide +kernel

theorem witness_NextFrameChosen :
    let part : DriveFrame := ⟨0, none, some ⟨3, .bypass⟩⟩
    (State.placeCommand State.reset 0 ⟨3, .bypass⟩).ring.port.isSome ∧ State.reset.ring.port = none ∧
    ({ State.reset with ring.drive := [part] } : State).ring.drive = [part] ∧
    ({ State.reset with ring.transit := [[1]] } : State).ring.drive = [] ∧
    (withEvent State.reset 3 (event .reporting .none)).ring.reports.length < 32 ∧
    (withEvent State.reset 3 (event .reporting .none)).entry 3 = some (event .reporting .none) := by decide +kernel

/-- A port that sends a frame, bus 5 as it was. -/
def sending (f : EgressFrame) : State := { bus5 .normal with ring.port := some ⟨f, [1]⟩ }

theorem witness_CompletionTaken :
    let drive : DriveFrame := ⟨9, some ⟨0, 0, ⟨⟨300, 400⟩, ⟨0, 0⟩, ⟨0, 0⟩⟩, 230⟩, some ⟨3, .inject 0⟩⟩
    (sending (.drive drive)).InTime 2001 ∧ (sending (.drive drive)).ring.port = some ⟨.drive drive, [1]⟩ ∧
    (sending (.drive { drive with reference := none })).ring.port =
      some ⟨.drive { drive with reference := none }, [1]⟩ ∧
    (sending (.transit [1])).ring.port = some ⟨.transit [1], [1]⟩ ∧
    (sending (.response ⟨7, 1, .refused .unknown⟩)).ring.port = some ⟨.response ⟨7, 1, .refused .unknown⟩, [1]⟩ ∧
    (sending (.report ⟨0, .busState 5 .sag .normal .frame none⟩)).ring.port =
      some ⟨.report ⟨0, .busState 5 .sag .normal .frame none⟩, [1]⟩ := by
  refine ⟨?_, rfl, rfl, rfl, rfl, rfl⟩
  unfold State.InTime
  decide +kernel

theorem witness_SenseFramesSorted :
    (∀ b r, (handing (bus5 .normal) { x40 640 0 with source := 41 }).row b = some r → r.head.address ≠ 41) ∧
    (handing (bus5 .normal) (x40 640 0)).row 5 = some row ∧ row.head.address = (x40 640 0).source ∧
    (∀ b' r', (handing (bus5 .normal) (x40 640 0)).row b' = some r' → r'.head.address = 40 → b' = 5) ∧
    ((bus5 .outOfService).channel 5).detection = .outOfService ∧
    ((onBus row { channel .normal with baseline := none }).channel 5).baseline = none ∧
    ((bus5 .normal).channel 5).baseline = some ⟨39, 999000⟩ ∧ (x40 640 0).sequence ≠ 39 ∧
    ((999000 + 2147483648 : U32) - 999000).toNat ≤ 2147483648 ∧
    2147483648 < ((999000 + 2147483649 : U32) - 999000).toNat := by
  refine ⟨?_, ?_, rfl, ?_, by decide +kernel⟩
  · intro b r h
    obtain ⟨-, rfl⟩ := one_row (c := channel .normal) rfl h
    decide
  · decide +kernel
  · intro b r h _
    exact (one_row (c := channel .normal) rfl h).1

theorem witness_AcceptedFrameRecorded : (handing (bus5 .normal) (x40 640 0)).Accepts (x40 640 0) [] 5 row :=
  accepts_of (by decide +kernel)

theorem witness_NormalFrameEvaluated :
    (handing (bus5 .normal) (x40 799 1200)).Accepts (x40 799 1200) [] 5 row ∧
    ¬ (x40 799 1200).overCurrent row ∧ (x40 799 1200).low < 800 * 800 ∧ row.confirmCount ≠ 1 ∧
    (handing (bus5 .normal) (x40 1101 0)).Accepts (x40 1101 0) [] 5 row ∧
    1100 * 1100 < (x40 1101 0).frame.clamped.volts.maxSquare :=
  ⟨accepts_of (by decide +kernel), by unfold HandedSense.overCurrent; decide, by decide, by decide,
    accepts_of (by decide +kernel), by decide⟩

theorem witness_SuspectFrameEvaluated :
    let s := onBus { row with confirmCount := 16 } { channel .suspect with runCount := 14, suspectLowest := some 712 }
    (handing s (x40 799 0)).Accepts (x40 799 0) [] 5 { row with confirmCount := 16 } ∧
    (s.channel 5).suspectLowest = some 712 ∧ (s.channel 5).runCount + 1 ≠ 16 ∧ ¬ (x40 799 0).overCurrent row ∧
    (x40 799 0).low < 800 * 800 ∧ (handing s (x40 800 0)).Accepts (x40 800 0) [] 5 { row with confirmCount := 16 } ∧
    800 * 800 ≤ (x40 800 0).low :=
  ⟨accepts_of (by decide +kernel), by decide, by decide, by unfold HandedSense.overCurrent; decide, by decide,
    accepts_of (by decide +kernel), by decide⟩

/-- Bus 5 about to confirm, its map full. -/
def fullMap : State := { suspecting with events.entries := Vector.replicate 32 (some (event .closing .none)) }

theorem witness_SagConfirmed :
    (handing suspecting (x40 640 0)).Accepts (x40 640 0) [] 5 row ∧ (suspecting.channel 5).suspectStart = some 999000 ∧
    (suspecting.channel 5).suspectLowest = some 712 ∧ (suspecting.channel 5).runCount + 1 = row.confirmCount ∧
    ¬ (x40 640 0).overCurrent row ∧ (x40 640 0).low < 800 * 800 ∧
    (suspecting.bank (suspecting.channel 5).bankInUse).envelopes[row.envelope] = some envelope ∧
    suspecting.entry 0 = none ∧ (suspecting.view 9).tripped = false ∧ (suspecting.view 9).unresponsive = false ∧
    ((suspecting.setView 9 { suspecting.view 9 with tripped := true }).view 9).tripped = true ∧
    (handing fullMap (x40 640 0)).Accepts (x40 640 0) [] 5 row ∧ (∀ i, (fullMap.entry i).isSome) ∧
    envelope.breakpoints = ⟨20, 0⟩ :: [⟨500, 700⟩] ∧ envelope.breakpoints.getLast? = some ⟨500, 700⟩ ∧
    (let r := { row with confirmCount := 1, capture := some 2 }
     (handing (onBus r (channel .normal)) (x40 640 0)).Accepts (x40 640 0) [] 5 r ∧
      ((onBus r (channel .normal)).recorder 2).state = .masked ∧ recording.capture.channels[(2 : CaptureIx)].state = .running) :=
  ⟨accepts_of (by decide +kernel), by decide, by decide, by decide, by unfold HandedSense.overCurrent; decide,
    by decide, by decide +kernel, no_entry rfl 0, by decide +kernel, by decide +kernel, by decide +kernel,
    accepts_of (by decide +kernel), by decide +kernel, rfl, rfl, accepts_of (by decide +kernel), by decide +kernel⟩

def sagging (e : Event) : State := withEvent (onBus row { channel .sag with openEvent := some 0 }) 0 e

def recovering (n : Nat) (e : Event) : State :=
  withEvent (onBus row { channel .recovering with runCount := n, openEvent := some 0 }) 0 e

theorem witness_SagFramesEvaluated :
    let e := event .injecting .inject
    (handing (sagging e) (x40 899 0)).Accepts (x40 899 0) [] 5 row ∧ row.recoverCount ≠ 1 ∧
    ((sagging e).channel 5).openEvent = some 0 ∧ (sagging e).entry 0 = some e ∧ e.strikes = [] ++ [⟨0, 640⟩] ∧
    0 < ({ e with strikeOverflow := 1 } : Event).strikeOverflow ∧ ((bus5 .sag).channel 5).openEvent = none ∧
    (handing (recovering 1 e) (x40 900 0)).Accepts (x40 900 0) [] 5 row ∧
    ((recovering 1 e).channel 5).runCount + 1 ≠ row.recoverCount ∧ 900 * 900 ≤ (x40 900 0).low ∧
    (handing (recovering 1 e) (x40 800 0)).Accepts (x40 800 0) [] 5 row ∧ (x40 800 0).low < 900 * 900 ∧
    800 * 800 ≤ (x40 800 0).low ∧ (handing (recovering 1 e) (x40 799 0)).Accepts (x40 799 0) [] 5 row ∧
    (x40 799 0).low < 800 * 800 :=
  ⟨accepts_of (by decide +kernel), by decide, by decide +kernel, by decide +kernel, rfl, by decide, by decide,
    accepts_of (by decide +kernel), by decide +kernel, by decide, accepts_of (by decide +kernel), by decide, by decide,
    accepts_of (by decide +kernel), by decide⟩

/-- Every Release Map entry held for another stack. -/
def withNoRelease (s : State) : State :=
  { s with pool.releases := Vector.replicate 16 (some ⟨.pending, 30, 7, none, 0, 100, 0, 0, 3, []⟩) }

theorem witness_RecoveryEndsTheSag :
    let e := event .injecting .inject
    (handing (recovering 2 e) (x40 900 0)).Accepts (x40 900 0) [] 5 row ∧ ¬ (x40 900 0).overCurrent row ∧
    900 * 900 ≤ (x40 900 0).low ∧ ((recovering 2 e).channel 5).runCount + 1 = row.recoverCount ∧
    (handing (onBus { row with recoverCount := 1 } (channel .sag)) (x40 900 0)).Accepts (x40 900 0) [] 5
      { row with recoverCount := 1 } ∧ ((recovering 2 e).channel 5).openEvent = some 0 ∧
    ((recovering 2 e).channel 5).untracked = false ∧ ((recovering 2 e).endEvent 0 .recovered).entry 0 = none ∧
    (((withNoRelease (recovering 2 { e with grant := 9 })).endEvent 0 .lostSight).entry 0).map
      (fun y => (y.state, y.releaseWait.isSome)) = some (.closing, true) ∧
    (recovering 2 e).ring.reports.length < 32 ∧
    32 ≤ ({ recovering 2 e with ring.reports := List.replicate 32 ⟨0, .busState 5 .sag .sag .frame none⟩ } :
      State).ring.reports.length :=
  ⟨accepts_of (by decide +kernel), by unfold HandedSense.overCurrent; decide, by decide, by decide +kernel,
    accepts_of (by decide +kernel), by decide +kernel⟩

theorem witness_FaultCurrentTaken :
    (x40 640 1201).overCurrent row ∧ ¬ (x40 640 1200).overCurrent row ∧
    (handing (bus5 .normal) (x40 640 1201)).Accepts (x40 640 1201) [] 5 row ∧
    (handing suspecting (x40 640 1201)).Accepts (x40 640 1201) [] 5 row ∧
    (handing (sagging (event .injecting .inject)) (x40 640 1201)).Accepts (x40 640 1201) [] 5 row ∧
    (handing (bus5 .faulted) (x40 640 1201)).Accepts (x40 640 1201) [] 5 row ∧
    (handing (bus5 .faulted) (x40 640 1200)).Accepts (x40 640 1200) [] 5 row ∧
    ((bus5 .faulted).channel 5).runCount + 1 ≠ row.recoverCount ∧
    ((onBus row { channel .faulted with runCount := 2 }).channel 5).runCount + 1 = row.recoverCount :=
  ⟨by unfold HandedSense.overCurrent; decide, by unfold HandedSense.overCurrent; decide,
    accepts_of (by decide +kernel), accepts_of (by decide +kernel), accepts_of (by decide +kernel),
    accepts_of (by decide +kernel), accepts_of (by decide +kernel), by decide +kernel⟩

/-- Bus 5 with its stack BYPASSED and nothing left to do. -/
def tidy : State := (bus5 .sag).setView 9 { StackView.reset with reported := .bypassed }

theorem witness_EnteringNormal :
    (bus5 .sag).activeBank.busRows[(4 : Bus)] = none ∧ tidy.activeBank.busRows[(5 : Bus)] = some row ∧
    (tidy.view 9).reported = .bypassed ∧ (tidy.view 9).unresponsive = false ∧
    (∀ q y, tidy.release q = some y → y.stack ≠ 9) ∧ (tidy.view 9).unsent = none ∧ (tidy.view 9).outstanding = [] ∧
    ((bus5 .sag).view 9).reported ≠ .bypassed := by
  refine ⟨by decide +kernel, by decide +kernel, by decide +kernel, by decide +kernel, ?_, by decide +kernel⟩
  intro q y h
  simp [no_release (s := tidy) rfl] at h

theorem witness_SilenceTaken :
    (bus5 .sag).InTime 2001 ∧ ((bus5 .sag).channel 5).silence = some 2000 ∧ 2000 ≤ max (bus5 .sag).now 2001 ∧
    (bus5 .sag).InTime 1999 ∧ max (bus5 .sag).now 1999 < 2000 ∧
    (handing (onBus row { channel .silent with baseline := none }) (x40 640 0)).Accepts (x40 640 0) [] 5 row :=
  ⟨by unfold State.InTime; decide +kernel, by decide, by decide, by unfold State.InTime; decide +kernel, by decide,
    accepts_of (by decide +kernel)⟩

theorem witness_FloorAtElapsedTime :
    envelope.breakpoints = [⟨20, 0⟩] ++ ⟨500, 700⟩ :: [] ∧ (∀ q ∈ [(⟨20, 0⟩ : Breakpoint)], q.duration ≤ 20) ∧ 20 < 500 ∧
    (∀ p ∈ envelope.breakpoints, p.duration ≤ 500) := by decide

/-- An accepted frame 20 ms into the event of bus 5. -/
def late (v : Int) : AcceptedFrame := ⟨5, 39, 41, (sense v 100 41 1020000).1, some 1019000⟩

theorem witness_EnvelopeFrameTaken :
    let s := fun e : Event => { sagging e with handed.envelope := [late 699] }
    ((bus5 .sag).channel (late 699).bus).openEvent = none ∧
    ((s (event .held .none)).channel 5).openEvent = some 0 ∧
    (s (event .held .none)).entry 0 = some (event .held .none) ∧
    envelope.floorAt (elapsedMillis (late 699).frame.timestamp 1000000) = 700 ∧
    (late 699).frame.volts.minSquare < 700 * 700 ∧ ¬ (late 700).frame.volts.minSquare < 700 * 700 ∧
    (event .held .none).breachRun + 1 < envelope.breachConfirm ∧
    ({ event .held .none with breachRun := 1 } : Event).breachRun + 1 = envelope.breachConfirm ∧
    envelope.breachConfirm ≤ ({ event .held .none with breachRun := 2 } : Event).breachRun := by
  decide +kernel

/-- The stack of the event quiescent with the command before the next applied and acknowledged. -/
def quiescent (s : State) : State :=
  s.setView 9 { StackView.reset with nextSequence := 3, lastAcknowledged := some 2, lastReported := some 2 }

theorem witness_BypassEntered :
    let e := { event .injecting .inject with grant := 5000 }
    injecting.entry 0 = some e ∧ 0 < e.grant - e.spent ∧ e.releaseWait = none ∧ e.releaseCreated = false ∧
    (∀ r y, injecting.release r = some y → y.stack ≠ 9) ∧ injecting.release 0 = none ∧
    (∀ r, ((withNoRelease injecting).release r).isSome) ∧
    (∀ r y, (withNoRelease injecting).release r = some y → y.stack ≠ 9) ∧
    (event .held .none).grant - (event .held .none).spent = 0 ∧
    ((quiescent injecting).view 9).lastAcknowledged = some (((quiescent injecting).view 9).nextSequence - 1) ∧
    ((quiescent injecting).newRelease 0 0).release 0 ≠ none ∧
    ((quiescent (sagging { e with stackOrder := .bypass })).newRelease 0 0).release 0 = none :=
  ⟨by decide +kernel, by decide, rfl, rfl, each_release (by decide +kernel), by decide +kernel, by decide +kernel,
    each_release (by decide +kernel), rfl, by decide +kernel⟩

theorem witness_InjectionFrameDrives :
    let e := { event .injecting .inject with grant := 5000 }
    let s : State := { injecting with handed.injection := [late 640] }
    (∀ k, s.metersStack 5 k = false) ∧ (s.channel 5).openEvent = some 0 ∧ s.entry 0 = some e ∧ e.spent < e.grant ∧
    s.rate 0 = none ∧ ({ e with spent := 5000 } : Event).grant ≤ ({ e with spent := 5000 } : Event).spent ∧
    (s.channel 5).detection = .sag ∧ s.requestOf 0 = none ∧ ¬ 3 * 5000 ≤ 4 * 3749 ∧ 3 * 5000 ≤ 4 * 3750 ∧
    (s.setRate 0 (some 11000000)).rate 0 = some 11000000 ∧
    e.grant - e.spent < 11000000 * max (lastDuration envelope.breakpoints - 20) 100 / 1000000 ∧
    (let u := ({ metered with handed.injection := [] } : State).meter (accepted 640 100)
     (u.channel 5).openEvent = some 0 ∧ (u.entry 0).map (fun x => (x.state, x.spent)) = some (.injecting, 11)) := by
  decide +kernel

/-- The stack of the event meters, and owns a release. -/
def meteredRelease (st : ReleaseState) : State :=
  metered.setRelease 0 (some ⟨st, 9, 5, none, 0, 4000, 0, 0, 3, []⟩)

theorem witness_MeteringTaken :
    let e := { event .injecting .inject with grant := 5000 }
    let f := accepted 640 100
    let waits := { e with state := .closing, grant := 11, releaseWait := some ⟨0, 0⟩ }
    metered.row f.bus = some row ∧
    (((metered.setChannel 5 (channel .normal)).meter f).channel 5).openEvent = none ∧
    (metered.record 9).boundBus = some f.bus ∧ (metered.view 9).reported = .injecting ∧
    (metered.view 9).unresponsive = false ∧ (metered.record 9).inEffect.isSome ∧ (injecting.record 9).inEffect = none ∧
    metered.releaseOf 9 = none ∧ (metered.record 9).drawingEvent = some 0 ∧ metered.entry 0 = some e ∧
    min (11500000000 / 1000000000) waits.grant = waits.grant ∧ (withEvent metered 0 waits).entry 0 = some waits ∧
    f.previous = some 999000 ∧ (injecting.view 9).reported ≠ .injecting ∧
    ((metered.setRecord 9 { metered.record 9 with drawingEvent := none }).record 9).drawingEvent = none ∧
    ((metered.setRecord 9 { metered.record 9 with drawingEvent := some 1 }).entry 1 = none) ∧
    (meteredRelease .pending).releaseOf 9 = some 0 ∧ (meteredRelease .unresolved).releaseOf 9 = some 0 := by
  decide +kernel

theorem witness_FrameTakenAhead :
    (handing (bus5 .normal) (x40 640 0)).Accepts (x40 640 0) [] 5 row ∧ (x40 640 0).taken.injection = false ∧
    (x40 640 0).taken.envelope = false ∧ (x40 640 0).taken.capture = false ∧
    (∀ g ∈ (handing (bus5 .normal) (x40 640 0)).handed.injection, g.bus ≠ 5) :=
  ⟨accepts_of (by decide +kernel), rfl, rfl, rfl, by intro g hg; cases hg⟩

/-- Channel 2 attached to bus 5 with `n` records written of a window of `count + 1`. -/
def recordingAt (count n : Nat) (mode : CaptureMode) (status : EventStatus) (half : Bool) : State :=
  recording.setRecorder 2 { recording.recorder 2 with
    count := count, written := n, mode := mode, status := status, halfNotified := half }

theorem witness_CaptureFrameWritten :
    let f := accepted 640 100
    let s := recordingAt 3 0 .single .opened false
    CaptureSound { s with handed.capture := [f] } ∧ (s.recorder 2).state = .running ∧ (s.recorder 2).bus = some f.bus ∧
    (s.recorder 2).event = some 0 ∧ (s.recorder 2).startFrame ≠ some f.sequence ∧
    (∀ j, j ≠ 2 → (s.recorder j).bus ≠ some f.bus) ∧ ¬ (3 + 2) / 2 ≤ 0 + 1 ∧ (3 + 2) / 2 ≤ 1 + 1 ∧
    ((recordingAt 3 3 .single .opened true).recorder 2).written = 3 ∧
    ((recordingAt 0 0 .continuous .opened true).recorder 2).count = 0 ∧
    ((recordingAt 0 0 .continuous .ended true).recorder 2).status ≠ .opened ∧
    (recordingAt 0 0 .single .opened false).writeRecord 2 .start f ≠ recordingAt 0 0 .single .opened false ∧
    ((s.setRecorder 2 { s.recorder 2 with startFrame := some 40 }).recorder 2).startFrame = some f.sequence ∧
    ((s.setRecorder 3 (s.recorder 2)).recorder 3).bus = some f.bus ∧
    ((s.setRecorder 2 { s.recorder 2 with state := .done }).recorder 2).state ≠ .running := by
  refine ⟨?_, by decide +kernel⟩
  constructor <;> decide +kernel

theorem witness_TopupRequestTaken :
    let s : State := { injecting with handed.topups := [⟨0, 0⟩] }
    s.entry 0 = some { event .injecting .inject with grant := 5000 } ∧ s.requestOf 0 = none ∧ s.entry 1 = none ∧
    ({ s with pool.grantQueue := [topup] } : State).requestOf 0 ≠ none ∧ (1 : U32) ≠ (event .injecting .inject).openOrder ∧
    (∀ r ∈ [first], r.cls ≤ topup.cls) ∧ (∀ r ∈ [{ first with cls := 2 }], topup.cls < r.cls) := by decide +kernel

theorem witness_HeadRequestWaits :
    let s := requesting 1999
    s.pool.storeState = .live ∧ s.pool.passDue = true ∧ s.pool.grantQueue = first :: [] ∧ s.pool.free < first.amount ∧
    s.pool.free < s.minimumGrant ∧ (∀ r, s.release r = none) ∧
    (∀ i e, s.entry i = some e → e.state = .injecting → e.copy.cls ≤ first.cls) ∧
    (bus5 .normal).pool.storeState ≠ .live ∧ (live 0 (bus5 .normal)).pool.grantQueue = [] := by
  refine ⟨rfl, rfl, rfl, by decide, by decide, no_release rfl, ?_, by decide, rfl⟩
  intro i e h _
  obtain ⟨-, rfl⟩ := one_entry (s := requesting 1999) (e := event .requesting .none) rfl h
  decide

/-- A request of class 1 with nothing free, beside an INJECTING event of class 2 with so much unspent, on stack 11. -/
def displacing (unspent : Nat) : State :=
  withEvent (requesting 0) 1 { event .injecting .inject with
    copy := { row.openedUnder envelope with cls := 2, stack := 10 }
    grant := unspent }

theorem witness_HeadRequestDisplaces :
    let q := { first with amount := 2500 }
    let s := { displacing 2500 with pool.grantQueue := [q] }
    let e := { event .injecting .inject with copy := { row.openedUnder envelope with cls := 2, stack := 10 }, grant := 2500 }
    s.pool.storeState = .live ∧ s.pool.passDue = true ∧ s.pool.free < q.amount ∧ (∀ r, s.release r = none) ∧
    s.pool.free < s.minimumGrant ∧ s.entry 0 = some (event .requesting .none) ∧ (event .requesting .none).claims = [] ∧
    s.entry 1 = some e ∧ q.cls < e.copy.cls ∧ e.copy.cls ≤ 3 ∧ e.spent < e.grant ∧
    s.minimumGrant ≤ s.pool.free + (e.grant - e.spent) ∧
    (∀ j y, s.entry j = some y → ¬ (y.state = .injecting ∧ q.cls < y.copy.cls ∧ y.spent < y.grant ∧ j ≠ 1)) ∧
    e.marks.stackFault = false ∧ (s.view 10).tripped = false ∧ (s.view 10).unresponsive = false ∧
    (s.view 10).lastAcknowledged ≠ some (((s.queueCommand 10 .bypass).view 10).nextSequence - 1) ∧
    (displacing 1999).pool.free + (allEvents.map fun i => match (displacing 1999).entry i with
      | some e => if e.state = .injecting ∧ q.cls < e.copy.cls then e.grant - e.spent else 0
      | none => 0).sum < (displacing 1999).minimumGrant :=
  ⟨rfl, rfl, by decide, no_release rfl, by decide, by decide +kernel, rfl, by decide +kernel, by decide, by decide,
    by decide, by decide +kernel, each_entry (by decide +kernel), rfl, by decide +kernel⟩

/-- A request of class 1 for 2,500 J with nothing free, and two INJECTING events with unspent: class 2 with 1,500 J on stack 11,
class 3 with 1,200 J on stack 12. -/
def displacingTwo : State :=
  withEvent { displacing 1500 with pool.grantQueue := [{ first with amount := 2500 }] } 2
    { event .injecting .inject with
      copy := { row.openedUnder envelope with cls := 3, stack := 11 }
      grant := 1200 }

/-- The walk takes both, the least critical first; with one entry free, or no claim slot left, it does not reach the minimum grant
and displaces none (R80, R81). -/
theorem test_displacement_of_two :
    let s := after .servicePass displacingTwo
    (s.entry 0).map (fun e => (e.state, e.claims)) = some (.held, [⟨0, 1200⟩, ⟨1, 1300⟩]) ∧
    (s.entry 1).map (fun e => (e.state, e.outcome)) = some (.bypassed, some .displaced) ∧
    (s.entry 2).map (fun e => (e.state, e.outcome)) = some (.bypassed, some .displaced) ∧
    (s.release 0).map (fun x => (x.stack, x.amount)) = some (11, 1200) ∧
    (s.release 1).map (fun x => (x.stack, x.amount)) = some (10, 1500) ∧ s.pool.grantQueue = [] ∧
    (let u := (withNoRelease displacingTwo).setRelease 4 none
     let t := after .servicePass { u with pool.releases := u.pool.releases.map (Option.map fun x => { x with state := .unresolved }) }
     (t.entry 2).map (·.state) = some .injecting ∧ t.pool.grantQueue.length = 1) := by decide +kernel

theorem witness_WalkOverSeveral :
    let q := { first with amount := 2500 }
    let s := displacingTwo
    let w := ([(2, 0), (1, 1)] : List (EventIx × ReleaseIx)).foldl State.displaceVictim { s with pool.passDue := false }
    s.pool.storeState = .live ∧ s.pool.passDue = true ∧ s.pool.grantQueue = q :: [] ∧
    (∀ e, s.entry q.event = some e → e.copy.cls ≤ q.cls) ∧ (∀ j y, s.entry j = some y → y.copy.cls ≤ 3) ∧
    s.pool.free < q.amount ∧ s.pool.free + borrowable (s.openTo q.event) < s.minimumGrant ∧ s.candidates q.cls = [2, 1] ∧ s.slotsLeft q.event = 4 ∧
    s.chooseVictims q.amount 0 4 (allReleases.filter fun r => (s.release r).isNone) [2, 1] = ([(2, 0), (1, 1)], 2700) ∧
    s.chooseVictims q.amount 0 4 [7] [2, 1] = ([(2, 7)], 1200) ∧ s.chooseVictims q.amount 0 1 [7, 8] [2, 1] = ([(2, 7)], 1200) ∧
    1200 < s.minimumGrant ∧ s.minimumGrant ≤ 2700 ∧
    w.minimumGrant ≤ w.pool.free + borrowable (w.openTo q.event) := by
  refine ⟨rfl, rfl, rfl, ?_, each_entry (by decide +kernel), by decide +kernel⟩
  exact fun e h => each_entry (s := displacingTwo) (P := fun i e => i = 0 → e.copy.cls ≤ 1) (by decide +kernel) 0 e h rfl

theorem witness_FirstRequestServed :
    let s := requesting 3000
    s.pool.grantQueue = [first] ∧ s.entry first.event = some (event .requesting .none) ∧ 0 < first.amount ∧
    first.amount ≤ s.pool.free ∧ (s.view 9).tripped = false ∧ (s.view 9).unresponsive = false ∧
    (∀ r y, s.release r = some y → y.stack ≠ 9) ∧
    (∀ j x, s.entry j = some x → x.releaseWait.isSome → x.copy.stack ≠ 9) ∧
    ((s.setView 9 { s.view 9 with unresponsive := true }).view 9).unresponsive = true ∧
    (requesting 2000).pool.free < first.amount ∧ (requesting 2000).minimumGrant ≤ (requesting 2000).pool.free ∧
    ({ live 3000 injecting with pool.grantQueue := [topup] } : State).pool.grantQueue = topup :: [] ∧
    (∀ p ∈ [({ first with event := 1 } : GrantRequest)], p.event ≠ first.event) := by
  refine ⟨rfl, by decide +kernel, by decide, by decide, by decide +kernel, by decide +kernel, ?_, ?_, by decide +kernel,
    by decide, by decide, rfl, by decide⟩
  · intro r y h
    simp [no_release (s := requesting 3000) rfl] at h
  · intro j x h hw
    obtain ⟨-, rfl⟩ := one_entry (s := requesting 3000) (e := event .requesting .none) rfl h
    exact absurd hw (by decide)

theorem witness_FirstRequestBorrows :
    let x : Release := ⟨.pending, 20, 7, none, 0, 2500, 0, 0, 3, [⟨4, 500⟩]⟩
    let s := (requesting 0).setRelease 0 (some x)
    s.pool.free = 0 ∧ s.entry first.event = some (event .requesting .none) ∧ (event .requesting .none).claims = [] ∧
    0 < s.minimumGrant ∧ s.release 0 = some x ∧ (∀ p y, s.release p = some y → p ≠ 0 → y.state = .unresolved) ∧
    x.claims.length < 4 ∧ (∀ c ∈ x.claims, c.event ≠ first.event) ∧
    s.minimumGrant ≤ x.amount - (x.claims.map (·.amount)).sum := by
  refine ⟨rfl, by decide +kernel, rfl, by decide, by decide +kernel, ?_, by decide +kernel⟩
  intro p y h hp
  rw [State.release_setRelease, if_neg (Ne.symm hp), no_release rfl] at h
  cases h

theorem witness_BorrowsFromSeveral :
    let x : Release := ⟨.pending, 20, 7, none, 0, 1500, 0, 0, 3, []⟩
    let y : Release := ⟨.pending, 21, 7, none, 1, 1000, 0, 0, 3, []⟩
    let s : State := { (requesting 0).setRelease 0 (some x) with pool.creationCounter := 2 }.setRelease 1 (some y)
    s.release 0 = some x ∧ s.release 1 = some y ∧
    (∀ n z, s.release n = some z → n ≠ 0 → n ≠ 1 → z.state = .unresolved) ∧
    orderAge s.pool.creationCounter y.creationOrder < orderAge s.pool.creationCounter x.creationOrder ∧
    s.minimumGrant ≤ s.pool.free + (x.amount - (x.claims.map (·.amount)).sum + (y.amount - (y.claims.map (·.amount)).sum)) ∧
    0 < min first.amount (s.pool.free + (1500 + 1000)) - s.pool.free - min 2500 1500 := by
  refine ⟨by decide +kernel, by decide +kernel, each_release (by decide +kernel), by decide +kernel⟩

theorem witness_ClaimGrows :
    let x : Release := ⟨.pending, 20, 7, none, 0, 2500, 0, 0, 3, [⟨4, 100⟩, ⟨0, 40⟩, ⟨5, 60⟩]⟩
    let e := { event .injecting .inject with grant := 5000, claims := [⟨0, 40⟩] }
    let s := { live 0 ((sagging e).setRelease 0 (some x)) with pool.grantQueue := [topup] }
    s.entry topup.event = some e ∧ s.release 0 = some x ∧ x.claims = [⟨4, 100⟩] ++ ⟨topup.event, 40⟩ :: [⟨5, 60⟩] ∧
    (∀ p z, s.release p = some z → p ≠ 0 → z.state = .unresolved) ∧ s.pool.free < topup.amount ∧
    s.minimumGrant ≤ s.pool.free + (x.amount - (x.claims.map (·.amount)).sum) := by
  refine ⟨by decide +kernel, by decide +kernel, rfl, each_release (by decide +kernel), by decide +kernel⟩

theorem witness_WaitTimersExpire :
    (quiet (requesting 0)).InTime 20001 ∧ (requesting 0).requestOf 0 = some first ∧ (requesting 0).entry 0 = some (event .requesting .none) ∧
    first.expiry ≤ max (requesting 0).now 20000 ∧ max (requesting 0).now 19999 < first.expiry ∧
    ({ quiet injecting with pool.grantQueue := [topup] } : State).InTime 20001 ∧
    ({ quiet injecting with pool.grantQueue := [topup] } : State).requestOf 0 = some topup := by
  unfold State.InTime
  decide +kernel

theorem witness_StrayFramesCounted :
    (∀ p, (bus5 .normal).activeBank.store = some p → p.head.address ≠ 51) ∧
    (bus5 .normal).activeBank.store = some store ∧ store.head.address = 50 ∧
    2147483648 < ((5 : U32) - (6 : U32)).toNat ∧
    (∀ k : Station, k.address = 11 → (∀ b r, (bus5 .normal).row b = some r → r.stack ≠ k) ∧
      ((bus5 .normal).view k).outstanding = [] ∧ ((bus5 .normal).view k).unsent = none ∧
      (∀ q y, (bus5 .normal).release q = some y → y.stack ≠ k)) := by
  have hs : (bus5 .normal).activeBank.store = some store := by decide +kernel
  refine ⟨?_, hs, by decide, by decide, ?_⟩
  · intro p h
    rw [hs] at h
    cases h
    decide
  · intro k hk
    refine ⟨?_, by revert k; decide +kernel, by revert k; decide +kernel, ?_⟩
    · rintro b r h rfl
      obtain ⟨-, rfl⟩ := one_row (c := channel .normal) rfl h
      exact absurd hk (by decide)
    · intro q y h
      simp [no_release (s := bus5 .normal) rfl] at h

theorem witness_StoreConfirmed :
    let s : State := { live 5000 (bus5 .normal) with handed.store := [⟨50, 1, 999000, 4001, .idle⟩] }
    s.activeBank.store = some store ∧ s.pool.storeBaseline = none ∧ s.pool.storeState = .live ∧
    (∀ r y, s.release r = some y → y.state = .pending) ∧ s.unspentSum + s.releaseSum ≤ 0 := by
  refine ⟨by decide +kernel, rfl, rfl, ?_, by decide +kernel⟩
  intro r y h
  rw [no_release rfl] at h
  cases h

/-- A release of stack 10 that is UNRESOLVED, with a claim of the event at index 0. -/
def unresolved : Release := ⟨.unresolved, 9, 5, none, 0, 4000, 0, 0, 3, [⟨0, 500⟩]⟩

theorem witness_StoreConfirmedEntering :
    let held := { event .held .none with grant := 1000, held := ⟨false, false, true⟩ }
    let s : State := { sagging held with
      pool.storeState := .silent
      handed.store := [⟨50, 1, 999000, 8000, .idle⟩] }
    s.activeBank.store = some store ∧ s.pool.storeState ≠ .live ∧ s.unspentSum + s.releaseSum ≤ 14000000 ∧
    (∀ r y, s.release r = some y → y.state = .pending) ∧ s.entry 0 = some held := by
  refine ⟨by decide +kernel, by decide, by decide +kernel, each_release (by decide +kernel), by decide +kernel⟩

theorem witness_StoreConfirmedDissolving :
    let s : State := { (live 0 (sagging { event .held .none with claims := [⟨0, 500⟩] })).setRelease 0 (some unresolved) with
      handed.store := [⟨50, 1, 999000, 8000, .idle⟩] }
    s.pool.storeState = .live ∧ s.release 0 = some unresolved ∧
    (∀ n z, s.release n = some z → n ≠ 0 → z.state = .pending) ∧
    (∀ i e, s.entry i = some e → e.releaseWait = none) ∧ s.unspentSum + (s.releaseSum - 4000) ≤ 14000000 := by
  refine ⟨rfl, by decide +kernel, each_release (by decide +kernel), each_entry (by decide +kernel), by decide +kernel⟩

theorem witness_StoreConfirmedShort :
    let s : State := { sending (.transit [1]) with
      events.entries := injecting.events.entries
      pool.storeState := .live
      pool.free := 100
      pool.budget := 5100
      handed.store := [⟨50, 1, 999000, 4001, .idle⟩] }
    EnergySound s ∧ (∀ r y, s.release r = some y → y.state = .pending) ∧
    (∀ i e, s.entry i = some e → e.state ≠ .held ∧ e.releaseWait = none ∧ e.copy.cls ≤ 3) ∧
    0 < s.unspentSum + s.releaseSum ∧ s.ring.port ≠ none ∧ s.ring.reports.length < 32 := by
  refine ⟨⟨each_entry (by decide +kernel), each_entry (by decide +kernel), each_entry (by decide +kernel),
    by decide +kernel⟩, each_release (by decide +kernel), each_entry (by decide +kernel), by decide +kernel⟩

/-- A STORE frame that leaves a budget of `budget` for a HELD event and a CLOSING one that waits, 1,000 J each. -/
def cutTo (budget : Nat) (held : Event) : State :=
  let set : StoreParameters := { store with reserve := store.reserve + (14000000 - budget) }
  { withEvent heldAndWaiting 0 held with
    banks := ⟨State.reset.banks.bank.set 0 { bankWith row with store := some set }, 0⟩
    pool.budget := 2000
    ring.port := some ⟨.transit [1], [1]⟩
    handed.store := [⟨50, 1, 1000000, 8000, .idle⟩] }

def heldEvent : Event := { event .held .none with grant := 1000, held := ⟨false, true, false⟩ }

/-- The rows of R104 for HELD and waiting events, the waiting one cut first: cut short; cut to 0, which frees the HELD one of its
stack; the HELD one of another stack cut short; cut to 0 with claims; cut to 0 without. -/
theorem test_shortfall_rows :
    ((after .storeFrame (cutTo 1500 heldEvent)).entry 1).map (fun e => (e.state, e.grant, e.releaseWait.isSome)) =
      some (.closing, 500, true) ∧
    (after .storeFrame (cutTo 1500 heldEvent)).entry 0 = some heldEvent ∧
    (after .storeFrame (cutTo 600 heldEvent)).entry 1 = none ∧
    ((after .storeFrame (cutTo 600 heldEvent)).entry 0).map (fun e => (e.state, e.grant)) = some (.injecting, 600) ∧
    ((after .storeFrame (cutTo 600 { heldEvent with copy := { heldEvent.copy with stack := 20 } })).entry 0).map
      (fun e => (e.state, e.grant)) = some (.held, 600) ∧
    ((after .storeFrame (cutTo 0 { heldEvent with claims := [⟨3, 500⟩] })).entry 0).map
      (fun e => (e.state, e.grant, e.held.borrow)) = some (.held, 0, true) ∧
    ((after .storeFrame (cutTo 0 heldEvent)).entry 0).map (fun e => (e.state, e.grant, e.outcome)) =
      some (.bypassed, 0, some .cut) := by decide +kernel

theorem witness_ShortfallRows :
    let s := cutTo 600 { heldEvent with claims := [⟨3, 500⟩] }
    EnergySound s ∧ s.pool.storeState = .live ∧ (∀ r y, s.release r = some y → y.state = .pending) ∧
    (∀ i e, s.entry i = some e → e.copy.cls ≤ 3) ∧ 600 < s.unspentSum + s.releaseSum ∧ s.ring.port ≠ none ∧
    s.ring.reports.length < 32 := by
  refine ⟨⟨each_entry (by decide +kernel), each_entry (by decide +kernel), each_entry (by decide +kernel),
    by decide +kernel⟩, rfl, each_release (by decide +kernel), each_entry (by decide +kernel), by decide +kernel⟩

theorem witness_StoreSilenceTaken :
    (quiet (live 0 (bus5 .normal))).InTime 100001 ∧ (live 0 (bus5 .normal)).pool.storeSilence = some 100000 ∧ 100000 ≤ max (live 0 (bus5 .normal)).now 100000 ∧
    max (live 0 (bus5 .normal)).now 99999 < 100000 := by
  unfold State.InTime
  decide +kernel

theorem witness_CommandQueued :
    let part : DriveFrame := ⟨9, none, some ⟨3, .bypass⟩⟩
    (commanded.view 9).outstanding.length < 3 ∧
    3 ≤ ((commanded.setView 9 { commanded.view 9 with outstanding := List.replicate 3 ⟨⟨0, .bypass⟩, .sent none⟩ }).view
      9).outstanding.length ∧ (∀ f ∈ commanded.ring.drive, f.stack ≠ 9) ∧
    ({ commanded with ring.drive := [part] } : State).ring.drive = [] ++ part :: [] ∧ part.stack = 9 := by
  decide +kernel

theorem witness_StatusFrameTaken :
    let s : State := { commanded with handed.status := [⟨10, 6, .injecting, 0, 2⟩] }
    (∀ b' r', s.row b' = some r' → r'.stack = 9 → b' = 5) ∧
    (9 : Station).address = 10 ∧ s.row 5 = some row ∧ row.stack = 9 ∧
    (s.view 9).outstanding = [] ++ ⟨⟨0, .bypass⟩, .sent (some 4000)⟩ :: [] ∧ (s.view 9).unsent = none ∧
    ((s.setView 9 { s.view 9 with unsent := some ⟨1, .release⟩ }).view 9).unsent = some ⟨1, .release⟩ ∧
    (s.view 9).outstanding.find? (fun o => decide (o.command.sequence = 1 ∧ o.standing ≠ .inTransmission)) = none ∧
    (s.view 9).tripped = false ∧ (s.view 9).unresponsive = false ∧ (s.channel 5).openEvent = none := by
  refine ⟨?_, by decide +kernel⟩
  intro b r h _
  exact (one_row (c := channel .normal) rfl h).1

theorem witness_StackFaultsAndRecovers :
    let e := { event .injecting .inject with grant := 5000 }
    injecting.row 5 = some row ∧ (injecting.view 9).tripped = false ∧ (injecting.view 9).unresponsive = false ∧
    injecting.entry 0 = some e ∧ e.copy.stack = 9 ∧ (meteredRelease .pending).releaseOf 9 = some 0 ∧
    ((tidy.setView 9 { tidy.view 9 with tripped := true }).view 9).tripped = true ∧
    (commanded.view 9).outstanding.find? (fun o => decide (o.command.sequence = 1 ∧ o.standing ≠ .inTransmission)) = none ∧
    ((commanded.setView 9 { commanded.view 9 with unresponsive := true }).view 9).unresponsive = true ∧
    (sending (.transit [1])).row 5 = some row ∧ (sending (.transit [1])).ring.port ≠ none ∧
    (sending (.transit [1])).ring.reports.length < 32 := by decide +kernel

/-- Bus 5 healthy, its stack told BYPASS and owner of a release that awaits it, and the frame that acknowledges it. -/
def acknowledging (notices : List Notice) : State :=
  { (commanded.setRelease 0 (some ⟨.pending, 9, 5, none, 0, 4000, 0, 0, 0, []⟩)) with
    handed.status := [⟨10, 6, .bypassed, 0, 2⟩]
    handed.notices := notices }

/-- A notice taken before step 5 of R136 confirms the release; the tidy RELEASE queued first makes it wait (R91). -/
theorem test_turn_of_a_notice :
    let s := after (.stackStatus .first) (acknowledging [])
    let t := after .stackNotice (after (.stackStatus .later) (acknowledging []))
    s.release 0 = none ∧ s.pool.free = 4000 ∧ (s.view 9).outstanding = [⟨⟨1, .release⟩, .inTransmission⟩] ∧
      (t.release 0).map (·.awaited) = some 1 ∧ t.pool.free = 0 := by decide +kernel

theorem witness_NoticeTakenFirst :
    let s := acknowledging []
    let n : Notice := ⟨9, .bypassed, 3, some 3, false⟩
    (∀ b' r', s.row b' = some r' → r'.stack = 9 → b' = 5) ∧
    s.handed.notices = [] ∧ (acknowledging [n]).handed.notices ≠ [] ∧ s.row 5 = some row ∧
    (s.view 9).outstanding = [] ++ ⟨⟨0, .bypass⟩, .sent (some 4000)⟩ :: [] ∧ (s.view 9).unsent = none ∧
    ((s.setView 9 { s.view 9 with unsent := some ⟨1, .release⟩ }).view 9).unsent = some ⟨1, .release⟩ ∧
    (s.channel 5).openEvent = none ∧
    ((s.setView 9 { s.view 9 with unresponsive := true, outstanding := [] }).view 9).unresponsive = true := by
  refine ⟨?_, by decide +kernel⟩
  intro b r h _
  exact (one_row (c := channel .normal) rfl h).1

theorem witness_StackNoticeTaken :
    let n : Notice := ⟨9, .bypassed, 3, some 3, false⟩
    releasing.releaseOf 9 = some 0 ∧ (releasing.release 0).map (·.awaited) = some 3 ∧
    (releasing.release 0).map (·.claims) = some [] ∧ n.acknowledged = some 3 ∧ n.reported = 3 ∧ n.recovered = false ∧
    (∀ i e, releasing.entry i = some e → e.releaseWait = none ∧ e.state ≠ .held) ∧ (bus5 .normal).releaseOf 9 = none := by
  refine ⟨by decide +kernel, by decide +kernel, by decide +kernel, rfl, rfl, rfl, ?_, by decide +kernel⟩
  intro i e h
  rw [no_entry rfl] at h
  cases h

/-- A HELD event of bus 5 with no reason left but those given, on so large a grant. -/
def heldFor (held : HeldReasons) (grant : Nat) : State := sagging { event .held .none with held := held, grant := grant }

theorem witness_LeavingHeld :
    (heldFor ⟨false, false, false⟩ 0).entry 0 = some { event .held .none with held := ⟨false, false, false⟩ } ∧
    (heldFor ⟨false, false, false⟩ 9).entry 0 = some { event .held .none with grant := 9 } ∧
    (((heldFor ⟨false, false, false⟩ 9).setView 9 { StackView.reset with tripped := true }).view 9).tripped = true ∧
    (heldFor ⟨false, true, false⟩ 9).entry 0 = some { event .held .none with held := ⟨false, true, false⟩, grant := 9 } ∧
    (∀ r y, (heldFor ⟨false, true, false⟩ 9).release r = some y → y.stack ≠ 9) ∧
    (∀ j x, (heldFor ⟨false, true, false⟩ 9).entry j = some x → x.releaseWait.isSome → x.copy.stack ≠ 9) :=
  ⟨by decide +kernel, by decide +kernel, by decide +kernel, by decide +kernel, each_release (by decide +kernel),
    each_entry (by decide +kernel)⟩

theorem witness_EntryOffered :
    let s := heldAndWaiting
    let waits := { event .closing .bypass with
      copy := { row.openedUnder envelope with cls := 2 }
      grant := 1000
      outcome := some .displaced
      releaseWait := some ⟨0, 0⟩ }
    s.release 0 = none ∧ (∀ q, q < (0 : ReleaseIx) → (s.release q).isSome) ∧ s.entry 1 = some waits ∧
    (∀ j x, s.entry j = some x → ∀ z, x.releaseWait = some z → j ≠ 1 → 0 < z.order) ∧
    (∀ r, ((withNoRelease s).release r).isSome) ∧ (bus5 .normal).releaseOf 9 = none := by
  refine ⟨by decide +kernel, by decide +kernel, by decide +kernel, ?_, by decide +kernel⟩
  intro j x h z hz hj
  have key : x.releaseWait.isSome = true → j = 1 :=
    each_entry (s := heldAndWaiting) (P := fun j x => x.releaseWait.isSome = true → j = 1) (by decide +kernel) j x h
  exact absurd (key (by simp [hz])) hj

theorem witness_ClaimsPaidInOrder :
    let s := withEvent (sagging (event .held .none)) 1 (event .held .none)
    s.entry 0 = some (event .held .none) ∧ s.entry 1 = some (event .held .none) ∧ (0 : EventIx) ≠ 1 ∧
    releasing.releaseOf 9 = some 0 ∧ releasing.release 0 = some ⟨.pending, 9, 5, none, 0, 4000, 0, 0, 3, []⟩ := by
  decide +kernel

theorem witness_AckTimerTaken :
    (quiet commanded).InTime 4001 ∧ (commanded.view 9).outstanding = [] ++ ⟨⟨0, .bypass⟩, .sent (some 4000)⟩ :: [] ∧
    4000 ≤ max commanded.now 4000 ∧ max commanded.now 3999 < 4000 ∧
    (∀ i e, commanded.entry i = some e → e.copy.stack ≠ 9) ∧ (∀ p y, commanded.release p = some y → y.stack ≠ 9) := by
  refine ⟨?_, by decide +kernel, by decide, by decide, ?_, ?_⟩
  · unfold State.InTime
    decide +kernel
  · intro i e h
    rw [no_entry rfl] at h
    cases h
  · intro p y h
    rw [no_release rfl] at h
    cases h

/-- The event of bus 5 INJECTING, its stack owner of a release, and a command of the stack sent 4,000 µs ago, on a busy port. -/
def unanswered : State :=
  { (((quiet injecting).setView 9 { commanded.view 9 with unsent := some ⟨1, .inject 0⟩, nextSequence := 2 }).setRelease 2
      (some ⟨.pending, 9, 5, none, 0, 70, 0, 0, 1, []⟩)) with
    ring.port := some ⟨.transit [1], [1]⟩
    ring.drive := [⟨9, none, some ⟨1, .inject 0⟩⟩] }

theorem test_ack_timer_faults_event_and_release :
    let s := after (.ackTimerExpiry 4000 10) unanswered
    (s.view 9).outstanding = [] ∧ (s.view 9).unsent = some ⟨1, .bypass⟩ ∧ s.ring.drive = [⟨9, none, some ⟨1, .bypass⟩⟩] ∧
      (s.channel 5).alarms.stackFault = true ∧ (s.release 2).map (·.state) = some .unresolved ∧
      (s.entry 0).map (fun e => (e.state, e.outcome)) = some (.bypassed, some .stackFault) ∧
      s.ring.reports = [⟨0, .stackFault 9 (some 5) (some ⟨0, .bypass⟩) 2 (some 0) (some 2)⟩] := by decide +kernel

theorem witness_AckTimerFaults :
    unanswered.InTime 4001 ∧ (unanswered.view 9).outstanding = [] ++ ⟨⟨0, .bypass⟩, .sent (some 4000)⟩ :: [] ∧
    (unanswered.view 9).tripped = false ∧ unanswered.ring.port ≠ none ∧ commanded.ring.port = none ∧
    unanswered.ring.reports.length < 32 ∧ unanswered.row 5 = some row ∧ row.stack = 9 ∧
    (∀ b' r', unanswered.row b' = some r' → r'.stack = 9 → b' = 5) ∧
    ((⟨9, none, some ⟨1, .inject 0⟩⟩ : DriveFrame).stack = 9) ∧ (∀ g ∈ ([] : List DriveFrame), g.stack ≠ 9) ∧
    (∀ b' r', unanswered.row b' = some r' → r'.stack ≠ 20) ∧
    ((unanswered.setRecord 20 ⟨some 5, none, none⟩).record 20).boundBus = some 5 := by
  have rows {b : Bus} {r : BusRow} (h : unanswered.row b = some r) : b = 5 ∧ r = row :=
    one_row (c := { channel .sag with openEvent := some 0, silence := some 200000 }) rfl h
  refine ⟨?_, by decide +kernel, by decide +kernel, by decide, by decide, by decide, by decide +kernel, by decide, ?_, rfl,
    by simp, ?_, by decide +kernel⟩
  · unfold State.InTime
    decide +kernel
  · exact fun b r h _ => (rows h).1
  · intro b r h
    rw [(rows h).2]
    decide

theorem witness_RequestTaken :
    (asked 20 [] State.reset).Heads ⟨3, 7, 20, []⟩ [] ∧ (asked 20 [] State.reset).NothingAhead ∧
    (Request.row ⟨3, 7, 20, []⟩) = .unknownRequest ∧ (Request.row ⟨3, 7, 0, []⟩) = .unknownRequest ∧
    (Request.row ⟨3, 7, 19, []⟩).fieldBytes = some 1 ∧ (Request.row ⟨3, 7, 19, [1, 1]⟩) = .restart ∧
    (Request.row ⟨3, 7, 19, [1, 1]⟩).fieldBytes = some 1 ∧
    (∀ r rest, State.reset.Heads r rest → r.row ≠ .readPool) :=
  ⟨heads _ _ _ rfl, nothing_ahead rfl, rfl, rfl, rfl, rfl, rfl, fun _ _ h => nomatch h.head⟩

theorem witness_ReadsAnswered :
    (asked 1 [] State.reset).Heads ⟨3, 7, 1, []⟩ [] ∧ (Request.row ⟨3, 7, 1, []⟩) = .readIdentity ∧
    (Request.row ⟨3, 7, 13, []⟩) = .readPool ∧ (Request.row ⟨3, 7, 15, []⟩) = .readPorts ∧
    (Request.row ⟨3, 7, 10, [23]⟩) = .readBus ∧ (Request.row ⟨3, 7, 12, [32]⟩) = .readEvent ∧
    (Request.row ⟨3, 7, 14, [15]⟩) = .readRelease ∧ (Request.row ⟨3, 7, 18, [0, 8]⟩) = .readCaptureChannel ∧
    (Request.row ⟨3, 7, 18, [1, 255, 255, 1]⟩) = .readCaptureRecords :=
  ⟨heads _ _ _ rfl, rfl, rfl, rfl, rfl, rfl, rfl, rfl, rfl⟩

theorem witness_RowRead :
    (asked 5 [1, 0, 23] State.reset).Heads ⟨3, 7, 5, [1, 0, 23]⟩ [] ∧ (Request.row ⟨3, 7, 5, [1, 0, 23]⟩) = .readRow ∧
    (1 : BankIx).val = (1 : Byte).toNat ∧ (23 : Bus).val = (23 : Byte).toNat ∧ (15 : EnvelopeIx).val = (15 : Byte).toNat ∧
    2 < (3 : Byte).toNat ∧ 1 < (2 : Byte).toNat :=
  ⟨heads _ _ _ rfl, rfl, rfl, rfl, rfl, by decide +kernel⟩

theorem witness_LoadsTaken :
    (asked 2 ([23, 1] ++ putBusRow row) State.reset).Heads ⟨3, 7, 2, [23, 1] ++ putBusRow row⟩ [] ∧ row.InRange ∧
    envelope.InRange ∧ store.InRange ∧ (∀ c, (State.reset.channel c).bankInUse = State.reset.banks.active) ∧
    (State.reset.bank State.reset.standbyIx).RowFits 23 row ∧ (State.reset.bank State.reset.standbyIx).StoreFits store ∧
    ¬ (bankWith row).RowFits 4 row ∧ ¬ (bankWith row).StoreFits { store with head := 39 } ∧
    ((onBus row { channel .sag with bankInUse := 1 }).channel 5).bankInUse ≠ (bus5 .sag).banks.active := by
  have hb : (State.reset.bank State.reset.standbyIx) = Bank.reset := by decide +kernel
  have hr : (bankWith row).busRows[(5 : Bus)] = some row := by decide +kernel
  refine ⟨heads _ _ _ rfl, by constructor <;> decide, ⟨by decide, ?_, by decide, by decide, by decide⟩,
    by constructor <;> decide, by decide +kernel, ?_, ?_, ?_, ?_, by decide +kernel⟩
  · simp [envelope, breakpointsRise]
  · rw [hb]
    refine ⟨by decide, ?_, ?_⟩
    · intro c q _ h
      simp [Bank.reset] at h
    · intro p h
      cases h
  · rw [hb]
    intro c q h
    simp [Bank.reset] at h
  · intro h
    exact h.2.1 5 row (by decide) hr (Or.inl rfl)
  · intro h
    exact (h 5 row hr).1 rfl

/-- Fields of the right length with one value out of range: the first test that fails is at the place named. -/
theorem witness_RangesRefused :
    let f : List Byte := [5, 1] ++ putBusRow { row with nominal := 601 }
    let g : List Byte := [0, 2] ++ [20, 0, 0, 0] ++ [20, 0, 0xBC, 2] ++ [0x84, 3, 50, 2]
    f.length = 29 ∧ byteAt f 1 = 1 ∧ byteAt f 0 ≤ 23 ∧ (⟨byteAt f 2, 1, 62⟩ : FieldRange).holds ∧
    (⟨byteAt f 3, 1, 62⟩ : FieldRange).holds ∧ ¬ (⟨wordAt f 4, 50, 600⟩ : FieldRange).holds ∧
    g.length = 6 + 4 * byteAt g 1 ∧ (⟨byteAt g 1, 2, 8⟩ : FieldRange).holds ∧
    breakpointRanges 1 0 [⟨wordAt g 2, wordAt g 4⟩, ⟨wordAt g 6, wordAt g 8⟩] =
      [⟨20, 1, 10000⟩, ⟨0, 0, 1000⟩] ++ ⟨20, 21, 10000⟩ :: [⟨700, 0, 1000⟩] ∧
    ¬ (⟨20, 21, 10000⟩ : FieldRange).holds ∧
    ([1] ++ putStore { store with minimumGrant := 0 } : List Byte).length = 18 ∧ ¬ (⟨0, 1, 1000000⟩ : FieldRange).holds ∧
    23 < byteAt [24, 0] 0 ∧ byteAt [24, 0] 1 = 0 ∧ 1 < byteAt [0, 2] 1 := by
  unfold FieldRange.holds
  decide +kernel

/-- The example's bank in the standby place. -/
def loaded (bank : Bank) : State := { State.reset with banks := ⟨State.reset.banks.bank.set 1 bank, 0⟩ }

theorem witness_CommitTaken :
    (asked 6 [] (loaded (bankWith row))).Heads ⟨3, 7, 6, []⟩ [] ∧ (asked 6 [] (loaded (bankWith row))).NothingAhead ∧
    (∀ c, ((loaded (bankWith row)).channel c).bankInUse = 0) ∧
    (∀ c, ((loaded (bankWith row)).channel c).detection = .outOfService) ∧
    ((loaded (bankWith row)).bank 1).envelopes[row.envelope] = some envelope ∧
    (∀ c, (loaded (bankWith row)).activeBank.busRows[(c : Bus)] = none) ∧
    ((loaded (bankWith row)).bank 1).store.isSome ∧
    (((bus5 .normal).channel 5).detection ≠ .outOfService ∧ ((bus5 .normal).bank 1).busRows[(5 : Bus)] = none) ∧
    ((loaded { bankWith row with envelopes := Bank.reset.envelopes }).bank 1).envelopes[row.envelope] = none :=
  ⟨heads _ _ _ rfl, nothing_ahead rfl, by decide +kernel⟩

theorem witness_ServiceTaken :
    (asked 7 [5, 0] (bus5 .sag)).Heads ⟨3, 7, 7, [5, 0]⟩ [] ∧ (asked 7 [5, 0] (bus5 .sag)).NothingAhead ∧
    (∀ i e, ((sagging (event .injecting .inject)).channel 5).openEvent = some i →
      (sagging (event .injecting .inject)).entry i = some e → e.bus = 5) ∧
    (Request.row ⟨3, 7, 7, [5, 0]⟩) = .setServiceOff ∧ (Request.row ⟨3, 7, 7, [24, 1]⟩) = .setServiceOn ∧
    (Request.row ⟨3, 7, 7, [5, 2]⟩) = .setServiceOff ∧ ((bus5 .outOfService).channel 5).detection = .outOfService ∧
    (bus5 .outOfService).activeBank.busRows[(5 : Bus)] = some row ∧
    (bus5 .outOfService).activeBank.busRows[(4 : Bus)] = none ∧ ((bus5 .outOfService).channel 4).detection = .outOfService ∧
    ((bus5 .normal).channel 5).openEvent = none ∧ ((bus5 .normal).channel 5).untracked = false := by
  refine ⟨heads _ _ _ rfl, nothing_ahead rfl, ?_, by decide +kernel⟩
  intro i e _ h
  obtain ⟨-, rfl⟩ := one_entry (s := sagging (event .injecting .inject)) (e := event .injecting .inject) rfl h
  rfl

theorem witness_CaptureControlled :
    (asked 9 [7, 0xFF, 0xFF, 0xFF, 0x0F, 1] State.reset).Heads ⟨3, 7, 9, [7, 0xFF, 0xFF, 0xFF, 0x0F, 1]⟩ [] ∧
    (Request.row ⟨3, 7, 8, [7, 1]⟩) = .captureMask ∧ (Request.row ⟨3, 7, 8, [8, 0]⟩) = .captureUnmask ∧
    (recording.recorder 2).state = .running ∧ (State.reset.recorder 7).state ≠ .running ∧
    1 < (2 : Byte).toNat ∧ (0xFF : Byte).toNat + 256 * (0x0F : Byte).toNat ≤ 4095 ∧ 4095 < (0 : Byte).toNat + 256 * (0x10 : Byte).toNat :=
  ⟨heads _ _ _ rfl, rfl, rfl, by decide +kernel⟩

theorem witness_AlarmsAndSnapshotTaken :
    (asked 11 [23] State.reset).Heads ⟨3, 7, 11, [23]⟩ [] ∧ (Request.row ⟨3, 7, 11, [24]⟩) = .takeAlarmsBus ∧
    (Request.row ⟨3, 7, 11, [255]⟩) = .takeAlarmsPool ∧ (Request.row ⟨3, 7, 16, []⟩) = .latchMetering ∧
    (Request.row ⟨3, 7, 17, [2, 1]⟩) = .readSnapshot ∧ State.reset.management.snapshot = none ∧
    (after .latchMetering (asked 16 [] State.reset)).management.snapshot.isSome ∧ 2 < (3 : Byte).toNat :=
  ⟨heads _ _ _ rfl, rfl, rfl, rfl, rfl, rfl, by decide +kernel⟩

theorem witness_RestartTaken :
    (asked 19 [0] injecting).Heads ⟨3, 7, 19, [0]⟩ [] ∧ (asked 19 [0] injecting).NothingAhead ∧
    PortServed (asked 19 [0] injecting) ∧ (Request.row ⟨3, 7, 19, [0]⟩) = .restart ∧
    (∃ i e, (asked 19 [0] injecting).entry i = some e) ∧
    ¬ ((∃ i e, (asked 19 [0] State.reset).entry i = some e) ∨ ∃ p y, (asked 19 [0] State.reset).release p = some y) := by
  refine ⟨heads _ _ _ rfl, nothing_ahead rfl, fun _ => ⟨rfl, rfl, rfl, rfl⟩, rfl,
    ⟨0, { event .injecting .inject with grant := 5000 }, by decide +kernel⟩, ?_⟩
  rintro (⟨i, e, h⟩ | ⟨p, y, h⟩)
  · rw [no_entry rfl] at h
    cases h
  · rw [no_release rfl] at h
    cases h

/-- RESTART with bus 5's stack BYPASSED and idle, another stack's DRIVE frame waiting, and a frame under way. -/
def restarting : State :=
  asked 19 [1] { tidy with ring.port := some ⟨.transit [1], [1]⟩, ring.drive := [⟨20, none, some ⟨3, .bypass⟩⟩] }

theorem test_restart_keeps_what_it_does_not_command :
    let s := after .restart { restarting with pool.chargerFault := true }
    (s.view 9).unsent = some ⟨0, .release⟩ ∧ s.view 20 = restarting.view 20 ∧
      s.ring.drive = [⟨20, none, some ⟨3, .bypass⟩⟩, ⟨9, none, some ⟨0, .release⟩⟩] ∧ s.pool.chargerFault = true := by
  decide +kernel

theorem witness_RestartKeeps :
    restarting.Heads ⟨3, 7, 19, [1]⟩ [] ∧ restarting.NothingAhead ∧ PortServed restarting ∧ restarting.ring.port ≠ none ∧
    restarting.restartStacks = [] ∧ (restarting.channel 5).detection ≠ .outOfService ∧
    restarting.activeBank.busRows[(5 : Bus)] = some row ∧ (restarting.view 9).reported = .bypassed ∧
    (restarting.view 9).unresponsive = false ∧ (restarting.view 9).unsent = none ∧ (restarting.view 9).outstanding = [] ∧
    (restarting.view 20).reported ≠ .bypassed ∧ (asked 19 [1] unanswered).restartStacks = [9] ∧
    (asked 19 [1] unanswered).ring.port ≠ none :=
  ⟨heads _ _ _ rfl, nothing_ahead rfl, (fun h => nomatch h), by decide +kernel⟩

end Sys2Proof.Tests
end

section
/-! SUPPORT. What an operation of the part leaves as it was, as relations between the state before and after it: the timers and
the requests (`Calm`), the entries of the Event Map (`Evolves`), and both together (`Firm`, `Quiet`). The invariants of the events
and of the bus channels follow from these, operation by operation. -/

namespace Sys2Proof.Machine

/-! ## Sorting -/

@[simp] theorem mem_insertByKey {α : Type} {key : α → Nat} {x y : α} {l : List α} :
    y ∈ insertByKey key x l ↔ y = x ∨ y ∈ l := by
  induction l with
  | nil => simp [insertByKey]
  | cons z l ih =>
    unfold insertByKey
    split
    · simp
    · simp [ih, or_left_comm]

theorem mem_foldl_insertByKey {α : Type} {key : α → Nat} {y : α} {l acc : List α} :
    y ∈ l.foldl (fun sorted x => insertByKey key x sorted) acc ↔ y ∈ acc ∨ y ∈ l := by
  induction l generalizing acc with
  | nil => simp
  | cons z l ih => simp [ih, or_assoc, or_left_comm]

@[simp] theorem mem_sortByKey {α : Type} {key : α → Nat} {y : α} {l : List α} : y ∈ sortByKey key l ↔ y ∈ l := by
  simp [sortByKey, mem_foldl_insertByKey]

@[simp] theorem State.mem_eventsWhere {s : State} {p : Event → Bool} {i : EventIx} :
    i ∈ s.eventsWhere p ↔ ∃ e, s.entry i = some e ∧ p e = true := by
  cases h : s.entry i <;> simp [State.eventsWhere, allEvents, h]

/-! ## One entry -/

/-- The conditions of `EventsSound` on one entry. -/
structure Event.Sound (e : Event) : Prop where
  strikes : 1 ≤ e.strikes.length ∧ e.strikes.length ≤ 4 ∧ e.strikeOverflow ≤ 255
  claims : e.claims.length ≤ 4
  step : e.ladderStep ≤ 3
  onPath : e.state.left = false → e.ladderStep ≤ 2
  deepest : ∀ n, e.deepestStep = some n → n ≤ 3
  breachRun : e.breachRun ≤ e.copy.envelope.breachConfirm
  outcome : e.outcome.isSome ↔ e.state.left

theorem eventsSound_iff {s : State} : EventsSound s ↔ ∀ i e, s.entry i = some e → e.Sound := by
  constructor
  · exact fun h i e he => ⟨h.strikes i e he, h.claims i e he, h.step i e he, h.onPath i e he,
      fun n => h.deepest i e n he, h.breachRun i e he, h.outcome i e he⟩
  · exact fun h => ⟨fun i e he => (h i e he).strikes, fun i e he => (h i e he).claims, fun i e he => (h i e he).step,
      fun i e he => (h i e he).onPath, fun i e n he => (h i e he).deepest n, fun i e he => (h i e he).breachRun,
      fun i e he => (h i e he).outcome⟩

/-- How an entry may change while its event goes on, or waits to be reported: its bus stays, it neither opens nor closes nor asks
anew, its fields stay sound, and a closed event keeps its outcome, its step, its stack order, its marks and its want of claims. -/
structure Event.Becomes (e e' : Event) : Prop where
  bus : e'.bus = e.bus
  opens : e'.state.opens = e.state.opens
  asks : e'.state = .requesting → e.state = .requesting
  sound : e.Sound → e'.Sound
  outcome : e.state.opens = false → e'.outcome = e.outcome
  step : e.state.opens = false → e'.ladderStep = e.ladderStep
  order : e.state.opens = false → e'.stackOrder = e.stackOrder
  claims : e.state.opens = false → e.claims = [] → e'.claims = []
  silence : e.marks.silence = true → e'.marks.silence = true
  downstream : e.marks.downstream = true → e'.marks.downstream = true

theorem Event.Becomes.refl (e : Event) : e.Becomes e :=
  ⟨rfl, rfl, id, id, fun _ => rfl, fun _ => rfl, fun _ => rfl, fun _ => id, id, id⟩

theorem Event.Becomes.trans {e f g : Event} (h : e.Becomes f) (k : f.Becomes g) : e.Becomes g where
  bus := k.bus.trans h.bus
  opens := k.opens.trans h.opens
  asks := fun x => h.asks (k.asks x)
  sound := fun x => k.sound (h.sound x)
  outcome := fun x => (k.outcome (h.opens.trans x)).trans (h.outcome x)
  step := fun x => (k.step (h.opens.trans x)).trans (h.step x)
  order := fun x => (k.order (h.opens.trans x)).trans (h.order x)
  claims := fun x y => k.claims (h.opens.trans x) (h.claims x y)
  silence := fun x => k.silence (h.silence x)
  downstream := fun x => k.downstream (h.downstream x)

/-- The fields that the relation `Event.Becomes` and the entry's soundness speak of, the others blanked. -/
def Event.skeleton (e : Event) : Event :=
  { e with
    openOrder := 0, start := 0, lastReference := none, lastFrame := 0, grant := 0, accumulator := 0, spent := 0
    overdraw := 0, returned := 0, firstAmount := 0, held := .empty, releaseWait := none, releaseQueued := false
    releaseCreated := false, lowestResidual := none, capture := none, closeOrder := none }

/-- A change of the other fields. -/
theorem Event.Becomes.of_skeleton {e e' : Event} (h : e'.skeleton = e.skeleton) : e.Becomes e' := by
  obtain ⟨⟩ := e
  obtain ⟨⟩ := e'
  simp only [Event.skeleton, Event.mk.injEq] at h
  obtain ⟨rfl, -, -, rfl, rfl, rfl, rfl, rfl, rfl, -, -, rfl, -, -, -, -, -, -, rfl, -, -, -, -, -, rfl, rfl, rfl, -⟩ := h
  exact ⟨rfl, rfl, id, fun k => ⟨k.1, k.2, k.3, k.4, k.5, k.6, k.7⟩, fun _ => rfl, fun _ => rfl, fun _ => rfl, fun _ => id,
    id, id⟩

/-- A mark added. -/
theorem Event.becomes_addMark (e : Event) (m : Mark) : e.Becomes { e with marks := e.marks.add m } where
  bus := rfl
  opens := rfl
  asks := id
  sound := fun k => ⟨k.1, k.2, k.3, k.4, k.5, k.6, k.7⟩
  outcome := fun _ => rfl
  step := fun _ => rfl
  order := fun _ => rfl
  claims := fun _ => id
  silence := by cases m <;> simp [Marks.add]
  downstream := by cases m <;> simp [Marks.add]

/-- Claims removed. -/
theorem Event.becomes_filterClaims (e : Event) (p : EventClaim → Bool) :
    e.Becomes { e with claims := e.claims.filter p } where
  bus := rfl
  opens := rfl
  asks := id
  sound := fun k => ⟨k.1, (List.length_filter_le _ _).trans k.2, k.3, k.4, k.5, k.6, k.7⟩
  outcome := fun _ => rfl
  step := fun _ => rfl
  order := fun _ => rfl
  claims := fun _ h => by simp [h]
  silence := id
  downstream := id

/-! ## One index of the map -/

/-- What an index of the Event Map may hold after an operation: a held entry changes by `Event.Becomes`, or is freed if its event
is not its bus's open event any longer; a free one stays free. -/
inductive Evolves : Option Event → Option Event → Prop
  | free : Evolves none none
  | freed {e : Event} (h : e.state.opens = false) : Evolves (some e) none
  | kept {e e' : Event} (h : e.Becomes e') : Evolves (some e) (some e')

theorem Evolves.refl : ∀ o, Evolves o o
  | none => .free
  | some e => .kept (.refl e)

theorem Evolves.trans {o p q : Option Event} (h : Evolves o p) (k : Evolves p q) : Evolves o q := by
  cases h with
  | free => exact k
  | freed h => cases k with | free => exact .freed h
  | kept h => cases k with
    | freed k => exact .freed (h.opens.symm.trans k)
    | kept k => exact .kept (h.trans k)

theorem Evolves.of_eq {o p : Option Event} (h : p = o) : Evolves o p := h ▸ .refl o

theorem Evolves.opens {e : Event} {o : Option Event} (h : Evolves (some e) o) (he : e.state.opens = true) :
    ∃ e', o = some e' ∧ e.Becomes e' := by
  cases h with
  | freed h => simp [h] at he
  | kept h => exact ⟨_, rfl, h⟩

theorem Evolves.before {e' : Event} {o : Option Event} (h : Evolves o (some e')) : ∃ e, o = some e ∧ e.Becomes e' := by
  cases h with
  | kept h => exact ⟨_, rfl, h⟩

/-! ## Channels -/

/-- A channel as it was but for the three alarms that the other units raise: BREACH, STACK-FAULT and RELEASE-WAIT. -/
def BusChannel.AlarmedTo (c c' : BusChannel) : Prop :=
  ∃ x y z, c' = { c with alarms := { c.alarms with breach := x, stackFault := y, releaseWait := z } }

theorem BusChannel.AlarmedTo.refl (c : BusChannel) : c.AlarmedTo c :=
  ⟨c.alarms.breach, c.alarms.stackFault, c.alarms.releaseWait, rfl⟩

theorem BusChannel.AlarmedTo.trans {c d e : BusChannel} (h : c.AlarmedTo d) (k : d.AlarmedTo e) : c.AlarmedTo e := by
  obtain ⟨_, _, _, rfl⟩ := h
  obtain ⟨x, y, z, rfl⟩ := k
  exact ⟨x, y, z, rfl⟩

/-! ## States -/

/-- No timer and no request is new, the time base stands, and the channels change in three alarms at most. -/
structure Calm (s t : State) : Prop where
  now : t.now = s.now
  channel : ∀ b, (s.channel b).AlarmedTo (t.channel b)
  queue : t.pool.grantQueue.Sublist s.pool.grantQueue
  timers : ∀ x ∈ t.timers, x ∈ s.timers

/-- Besides, every entry evolves, and a REQUESTING event goes on requesting. -/
structure Firm (s t : State) : Prop extends Calm s t where
  entry : ∀ i, Evolves (s.entry i) (t.entry i)
  requesting : ∀ i e, s.entry i = some e → e.state = .requesting →
    ∃ e', t.entry i = some e' ∧ e'.state = .requesting

/-- Besides, every entry evolves, and a REQUESTING event that stops requesting has no request left. -/
structure Quiet (s t : State) : Prop extends Calm s t where
  entry : ∀ i, Evolves (s.entry i) (t.entry i)
  requesting : ∀ i e, s.entry i = some e → e.state = .requesting → (∃ q ∈ t.pool.grantQueue, q.event = i) →
    ∃ e', t.entry i = some e' ∧ e'.state = .requesting

/-- What every operation keeps that neither opens nor ends an event, nor moves a bus: the time base, the channels but for three
alarms, the course of the entries; and a timer it starts has not come to its expiry. -/
structure Kept (s t : State) : Prop where
  now : t.now = s.now
  channel : ∀ b, (s.channel b).AlarmedTo (t.channel b)
  entry : ∀ i, Evolves (s.entry i) (t.entry i)
  timers : ∀ x ∈ t.timers, x ∈ s.timers ∨ s.now ≤ x.expiry

theorem Kept.trans {s t u : State} (h : Kept s t) (k : Kept t u) : Kept s u where
  now := k.now.trans h.now
  channel := fun b => (h.channel b).trans (k.channel b)
  entry := fun i => (h.entry i).trans (k.entry i)
  timers := fun x hx => (k.timers x hx).elim (h.timers x) fun hn => .inr (h.now ▸ hn)

/-- The second of two changes named first. -/
theorem Kept.after {s t u : State} (k : Kept t u) (h : Kept s t) : Kept s u := h.trans k

theorem Calm.refl (s : State) : Calm s s := ⟨rfl, fun _ => .refl _, .refl _, fun _ h => h⟩

theorem Calm.trans {s t u : State} (h : Calm s t) (k : Calm t u) : Calm s u :=
  ⟨k.now.trans h.now, fun b => (h.channel b).trans (k.channel b), k.queue.trans h.queue,
    fun x hx => h.timers x (k.timers x hx)⟩

theorem Firm.refl (s : State) : Firm s s := ⟨.refl s, fun _ => .refl _, fun _ e h k => ⟨e, h, k⟩⟩

theorem Firm.trans {s t u : State} (h : Firm s t) (k : Firm t u) : Firm s u where
  toCalm := h.toCalm.trans k.toCalm
  entry := fun i => (h.entry i).trans (k.entry i)
  requesting := fun i e he hr => by
    obtain ⟨e', he', hr'⟩ := h.requesting i e he hr
    exact k.requesting i e' he' hr'

/-- The second of two changes named first. -/
theorem Firm.after {s t u : State} (k : Firm t u) (h : Firm s t) : Firm s u := h.trans k

theorem Firm.quiet {s t : State} (h : Firm s t) : Quiet s t :=
  ⟨h.toCalm, h.entry, fun i e he hr _ => h.requesting i e he hr⟩

theorem Quiet.kept {s t : State} (h : Quiet s t) : Kept s t :=
  ⟨h.now, h.channel, h.entry, fun x hx => .inl (h.timers x hx)⟩

/-- A change of nothing that the relation speaks of, after another. -/
theorem Kept.same {s t u : State} (h : Kept s t) (hn : u.now = t.now) (hc : u.channels = t.channels)
    (he : u.events.entries = t.events.entries) (hq : u.pool.grantQueue = t.pool.grantQueue)
    (hs : u.pool.storeSilence = t.pool.storeSilence) (hv : u.views = t.views) : Kept s u where
  now := hn.trans h.now
  channel := fun b => by simpa [State.channel, hc] using h.channel b
  entry := fun i => by simpa [State.entry, he] using h.entry i
  timers := State.timers_congr hc hs hv hq ▸ h.timers

theorem Firm.kept {s t : State} (h : Firm s t) : Kept s t := h.quiet.kept

theorem Quiet.refl (s : State) : Quiet s s := (Firm.refl s).quiet

theorem Quiet.trans {s t u : State} (h : Quiet s t) (k : Quiet t u) : Quiet s u where
  toCalm := h.toCalm.trans k.toCalm
  entry := fun i => (h.entry i).trans (k.entry i)
  requesting := fun i e he hr hq => by
    obtain ⟨q, hq, hi⟩ := hq
    obtain ⟨e', he', hr'⟩ := h.requesting i e he hr ⟨q, k.queue.subset hq, hi⟩
    exact k.requesting i e' he' hr' ⟨q, hq, hi⟩

/-- The second of two changes named first. -/
theorem Quiet.after {s t u : State} (k : Quiet t u) (h : Quiet s t) : Quiet s u := h.trans k

theorem Firm.foldl {α : Type} {f : State → α → State} (h : ∀ s x, Firm s (f s x)) (l : List α) (s : State) :
    Firm s (l.foldl f s) := by
  induction l generalizing s with
  | nil => exact .refl s
  | cons x l ih => exact (h s x).trans (ih _)

theorem Quiet.foldl {α : Type} {f : State → α → State} (h : ∀ s x, Quiet s (f s x)) (l : List α) (s : State) :
    Quiet s (l.foldl f s) := by
  induction l generalizing s with
  | nil => exact .refl s
  | cons x l ih => exact (h s x).trans (ih _)

/-! ## The requests and their events -/

/-- Every request in the Grant Queue is of an open event, a FIRST request of a REQUESTING one. -/
def State.Owned (s : State) : Prop :=
  ∀ q ∈ s.pool.grantQueue, ∃ e, s.entry q.event = some e ∧ e.state.opens = true ∧
    (q.kind = .first → e.state = .requesting)

theorem GrantQueueSound.requestsOwned {s : State} (h : GrantQueueSound s) : s.Owned := by
  intro q hq
  obtain ⟨e, he, -, hf, ht⟩ := h.owned q hq
  refine ⟨e, he, ?_, hf⟩
  cases hk : q.kind with
  | first => rw [hf hk]; rfl
  | topup => rw [ht hk]; rfl

theorem Quiet.owned {s t : State} (h : Quiet s t) (hs : s.Owned) : t.Owned := by
  intro q hq
  obtain ⟨e, he, ho, hf⟩ := hs q (h.queue.subset hq)
  obtain ⟨e', he', hb⟩ := (he ▸ h.entry q.event).opens ho
  refine ⟨e', he', hb.opens.trans ho, fun hk => ?_⟩
  obtain ⟨e'', he'', hr⟩ := h.requesting q.event e he (hf hk) ⟨q, hq, rfl⟩
  rw [he'] at he''
  exact Option.some.inj he'' ▸ hr

theorem Kept.eventsSound {s t : State} (h : Kept s t) (hs : EventsSound s) : EventsSound t := by
  rw [eventsSound_iff] at hs ⊢
  intro i e' he'
  obtain ⟨e, he, hb⟩ := (he' ▸ h.entry i).before
  exact hb.sound (hs i e he)

/-! ## Changes of one part of the state -/

/-- The timers that run after a change that keeps the Grant Queue's, the channels' and the store's, and adds none to a view. -/
theorem State.timers_subset {s t : State} (hc : t.channels = s.channels) (hs : t.pool.storeSilence = s.pool.storeSilence)
    (hq : t.pool.grantQueue.Sublist s.pool.grantQueue)
    (hv : ∀ k, ∀ o ∈ (t.view k).outstanding, ∀ n, o.standing = .sent (some n) → o ∈ (s.view k).outstanding) :
    ∀ x ∈ t.timers, x ∈ s.timers := by
  have hch : t.channel = s.channel := by funext b; simp [State.channel, hc]
  rintro ⟨x, n⟩ hx
  cases x with
  | silence b => simpa [hch] using hx
  | store => simpa [hs] using hx
  | acknowledgement k =>
    rw [State.acknowledgement_mem_timers] at hx ⊢
    obtain ⟨o, ho, hn⟩ := hx
    exact ⟨o, hv k o ho n hn, hn⟩
  | wait kind i =>
    rw [State.wait_mem_timers] at hx ⊢
    obtain ⟨q, hm, h⟩ := hx
    exact ⟨q, hq.subset hm, h⟩

theorem State.channel_congr {s t : State} (h : t.channels = s.channels) (b : Bus) : t.channel b = s.channel b := by
  simp [State.channel, h]

theorem State.entry_congr {s t : State} (h : t.events.entries = s.events.entries) (i : EventIx) : t.entry i = s.entry i := by
  simp [State.entry, h]

theorem State.view_congr {s t : State} (h : t.views = s.views) (k : Station) : t.view k = s.view k := by
  simp [State.view, h]

/-- Nothing that the relation speaks of changes but entries, for which one is told. -/
theorem Calm.of_eq {s t : State} (hn : t.now = s.now) (hc : t.channels = s.channels)
    (hq : t.pool.grantQueue = s.pool.grantQueue) (hs : t.pool.storeSilence = s.pool.storeSilence)
    (hv : t.views = s.views) : Calm s t where
  now := hn
  channel := fun b => State.channel_congr hc b ▸ .refl _
  queue := hq ▸ .refl _
  timers := by rw [State.timers_congr hc hs hv hq]; exact fun _ h => h

/-- Nothing that the relation speaks of changes. -/
theorem Firm.of_eq {s t : State} (hn : t.now = s.now) (hc : t.channels = s.channels)
    (he : t.events.entries = s.events.entries) (hq : t.pool.grantQueue = s.pool.grantQueue)
    (hs : t.pool.storeSilence = s.pool.storeSilence) (hv : t.views = s.views) : Firm s t where
  toCalm := .of_eq hn hc hq hs hv
  entry := fun i => .of_eq (State.entry_congr he i)
  requesting := fun i e h hr => ⟨e, by rw [State.entry_congr he i, h], hr⟩

/-- A change of nothing that the relation speaks of, after another. -/
theorem Firm.same {s t u : State} (h : Firm s t) (hn : u.now = t.now) (hc : u.channels = t.channels)
    (he : u.events.entries = t.events.entries) (hq : u.pool.grantQueue = t.pool.grantQueue)
    (hs : u.pool.storeSilence = t.pool.storeSilence) (hv : u.views = t.views) : Firm s u :=
  h.trans (.of_eq hn hc he hq hs hv)

theorem State.setEntry_calm (s : State) (i : EventIx) (o : Option Event) : Calm s (s.setEntry i o) :=
  .of_eq rfl rfl rfl rfl rfl

/-- An entry that changes by `Event.Becomes` and stays in its state, or was not REQUESTING. -/
theorem State.setEntry_firm {s : State} {i : EventIx} {e e' : Event} (he : s.entry i = some e) (hb : e.Becomes e')
    (hr : e.state = .requesting → e'.state = .requesting) : Firm s (s.setEntry i (some e')) where
  toCalm := s.setEntry_calm i _
  entry := fun j => by
    rw [State.entry_setEntry]
    split
    · next h => subst h; rw [he]; exact .kept hb
    · exact .refl _
  requesting := fun j x hx hxr => by
    by_cases h : i = j
    · subst h
      rw [he] at hx
      cases hx
      exact ⟨e', by simp, hr hxr⟩
    · exact ⟨x, by simp [h, hx], hxr⟩

theorem State.modEvent_eq {s : State} {i : EventIx} {e : Event} (f : Event → Event) (he : s.entry i = some e) :
    s.modEvent i f = s.setEntry i (some (f e)) := by
  simp [State.modEvent, he]

theorem State.modEvent_free {s : State} {i : EventIx} (f : Event → Event) (he : s.entry i = none) :
    s.modEvent i f = s := by
  simp [State.modEvent, he]

theorem State.modEvent_calm (s : State) (i : EventIx) (f : Event → Event) : Calm s (s.modEvent i f) := by
  cases h : s.entry i with
  | none => rw [State.modEvent_free f h]; exact .refl s
  | some e => rw [State.modEvent_eq f h]; exact s.setEntry_calm i _

theorem State.modEvent_firm {s : State} {i : EventIx} {f : Event → Event}
    (hb : ∀ e, s.entry i = some e → e.Becomes (f e))
    (hr : ∀ e, s.entry i = some e → e.state = .requesting → (f e).state = .requesting) : Firm s (s.modEvent i f) := by
  cases h : s.entry i with
  | none => rw [State.modEvent_free f h]; exact .refl s
  | some e => rw [State.modEvent_eq f h]; exact State.setEntry_firm h (hb e h) (hr e h)

theorem State.addMark_firm (s : State) (i : EventIx) (m : Mark) : Firm s (s.addMark i m) :=
  State.modEvent_firm (fun e _ => e.becomes_addMark m) fun _ _ => id

/-- A view changed with no timer added. -/
theorem State.setView_firm {s : State} {k : Station} {v : StackView}
    (h : ∀ o ∈ v.outstanding, ∀ n, o.standing = .sent (some n) → o ∈ (s.view k).outstanding) :
    Firm s (s.setView k v) where
  now := rfl
  channel := fun _ => .refl _
  queue := .refl _
  timers := State.timers_subset rfl rfl (.refl _) fun j o ho n hn => by
    rw [State.view_setView] at ho
    split at ho
    · next hk => subst hk; exact h o ho n hn
    · exact ho
  entry := fun _ => .refl _
  requesting := fun _ e he hr => ⟨e, he, hr⟩

theorem State.modView_firm {s : State} {k : Station} {f : StackView → StackView}
    (h : ∀ o ∈ (f (s.view k)).outstanding, ∀ n, o.standing = .sent (some n) → o ∈ (s.view k).outstanding) :
    Firm s (s.modView k f) := State.setView_firm h

/-- One of the three alarms that the other units raise. -/
theorem State.addAlarm_firm (s : State) (b : Bus) {a : BusAlarm} (ha : a = .breach ∨ a = .stackFault ∨ a = .releaseWait) :
    Firm s (s.addAlarm b a) where
  now := rfl
  channel := fun c => by
    rw [State.addAlarm, State.channel_modChannel]
    split
    · next h =>
      subst h
      rcases ha with rfl | rfl | rfl
      · exact ⟨true, _, _, rfl⟩
      · exact ⟨_, true, _, rfl⟩
      · exact ⟨_, _, true, rfl⟩
    · exact .refl _
  queue := .refl _
  timers := fun x hx => by
    have hsil : ∀ c, ((s.addAlarm b a).channel c).silence = (s.channel c).silence := fun c => by
      rw [State.addAlarm, State.channel_modChannel]
      split
      · next h => subst h; rfl
      · rfl
    obtain ⟨x, n⟩ := x
    cases x with
    | silence c => rw [State.silence_mem_timers] at hx ⊢; rwa [← hsil c]
    | store => rwa [State.store_mem_timers] at hx ⊢
    | acknowledgement k => rwa [State.acknowledgement_mem_timers] at hx ⊢
    | wait kind i => rwa [State.wait_mem_timers] at hx ⊢
  entry := fun _ => .refl _
  requesting := fun _ e he hr => ⟨e, he, hr⟩

/-- Requests taken out of the Grant Queue. -/
theorem Firm.of_filter {s t : State} (hn : t.now = s.now) (hc : t.channels = s.channels)
    (he : t.events.entries = s.events.entries) (hq : t.pool.grantQueue.Sublist s.pool.grantQueue)
    (hs : t.pool.storeSilence = s.pool.storeSilence) (hv : t.views = s.views) : Firm s t where
  now := hn
  channel := fun b => State.channel_congr hc b ▸ .refl _
  queue := hq
  timers := State.timers_subset hc hs hq fun k o ho _ _ => State.view_congr hv k ▸ ho
  entry := fun i => .of_eq (State.entry_congr he i)
  requesting := fun i e h hr => ⟨e, by rw [State.entry_congr he i, h], hr⟩

end Sys2Proof.Machine
end

section
/-! SUPPORT. The shared operations of the ring ports, the Stack Command Channel, the Capture Unit and the energy accounts, by the
relations `Calm`, `Firm` and `Quiet`. -/

namespace Sys2Proof.Machine

/-! ## The ring ports -/

/-- What the egress side does to the rest of the part: it frees entries whose event is in REPORTING, it moves commands into
transmission, and nothing else that the relations speak of. -/
structure Sheds (s t : State) : Prop where
  now : t.now = s.now
  channels : t.channels = s.channels
  queue : t.pool.grantQueue = s.pool.grantQueue
  silence : t.pool.storeSilence = s.pool.storeSilence
  entry : ∀ i, t.entry i = s.entry i ∨ t.entry i = none ∧ ∃ e, s.entry i = some e ∧ e.state = .reporting
  timed : ∀ k, ∀ o ∈ (t.view k).outstanding, ∀ n, o.standing = .sent (some n) → o ∈ (s.view k).outstanding

theorem Sheds.refl (s : State) : Sheds s s := ⟨rfl, rfl, rfl, rfl, fun _ => .inl rfl, fun _ _ ho _ _ => ho⟩

theorem Sheds.trans {s t u : State} (h : Sheds s t) (k : Sheds t u) : Sheds s u where
  now := k.now.trans h.now
  channels := k.channels.trans h.channels
  queue := k.queue.trans h.queue
  silence := k.silence.trans h.silence
  entry := fun i => by
    rcases k.entry i with hk | ⟨hk, e, he, hr⟩
    · rw [hk]; exact h.entry i
    · rcases h.entry i with hi | ⟨hi, -⟩
      · exact .inr ⟨hk, e, hi ▸ he, hr⟩
      · simp [hi] at he
  timed := fun j o ho n hn => h.timed j o (k.timed j o ho n hn) n hn

/-- An entry not in REPORTING stays as it is. -/
theorem Sheds.stays {s t : State} (h : Sheds s t) {i : EventIx} {e : Event} (he : s.entry i = some e)
    (hr : e.state ≠ .reporting) : t.entry i = some e := by
  rcases h.entry i with hi | ⟨-, e', he', hr'⟩
  · rw [hi, he]
  · rw [he] at he'
    exact absurd (Option.some.inj he' ▸ hr') hr

/-- No entry is new or changed. -/
theorem Sheds.held {s t : State} (h : Sheds s t) {i : EventIx} {e : Event} (he : t.entry i = some e) :
    s.entry i = some e := by
  rcases h.entry i with hi | ⟨hi, -⟩
  · rw [← hi, he]
  · simp [hi] at he

theorem Sheds.firm {s t : State} (h : Sheds s t) : Firm s t where
  now := h.now
  channel := fun b => State.channel_congr h.channels b ▸ .refl _
  queue := h.queue ▸ .refl _
  timers := State.timers_subset h.channels h.silence (h.queue ▸ .refl _) h.timed
  entry := fun i => by
    rcases h.entry i with hi | ⟨hi, e, he, hr⟩
    · exact .of_eq hi
    · rw [hi, he]; exact .freed (by rw [hr]; rfl)
  requesting := fun i e he hr => ⟨e, h.stays he (by simp [hr]), hr⟩

/-- Nothing that the relation speaks of changes. -/
theorem Sheds.of_eq {s t : State} (hn : t.now = s.now) (hc : t.channels = s.channels)
    (he : t.events.entries = s.events.entries) (hq : t.pool.grantQueue = s.pool.grantQueue)
    (hs : t.pool.storeSilence = s.pool.storeSilence) (hv : t.views = s.views) : Sheds s t :=
  ⟨hn, hc, hq, hs, fun i => .inl (State.entry_congr he i), fun k _ ho _ _ => State.view_congr hv k ▸ ho⟩

/-- Freeing an entry empties its index and no other. -/
theorem State.entry_freeEvent (s : State) (i j : EventIx) :
    (s.freeEvent i).entry j = if i = j then none else s.entry j := by
  simp only [State.freeEvent, State.entry_setEntry, State.entry_setRate]
  rfl

theorem State.queueClosed_sheds {s : State} {i : EventIx} (h : ∀ e, s.entry i = some e → e.state = .reporting) :
    Sheds s (s.queueClosed i) := by
  unfold State.queueClosed
  split
  · exact .refl s
  · next e he =>
    refine ⟨by simp, by simp, by simp, by simp, fun j => ?_, fun k _ ho _ _ => ?_⟩
    · rw [State.entry_freeEvent]
      split
      · next hj => subst hj; exact .inr ⟨rfl, e, he, h e he⟩
      · exact .inl rfl
    · rwa [State.view_congr (s := s) (by simp) k] at ho

/-- The entry that takes a freed report slot is in REPORTING. -/
theorem State.oldestReporting_state {s : State} {i : EventIx} (h : s.oldestReporting = some i) :
    ∀ e, s.entry i = some e → e.state = .reporting := by
  intro e he
  have hm := List.mem_of_head? h
  rw [mem_sortByKey, State.mem_eventsWhere] at hm
  obtain ⟨e', he', hr⟩ := hm
  rw [he] at he'
  exact Option.some.inj he' ▸ of_decide_eq_true hr

theorem State.serveReporting_sheds (s : State) : Sheds s s.serveReporting := by
  unfold State.serveReporting
  split
  · split
    · next i h => exact State.queueClosed_sheds (State.oldestReporting_state h)
    · exact .refl s
  · exact .refl s

/-- A command put on the link has no timer yet. -/
theorem State.commandStarted_sheds (s : State) (k : Station) (c : Command) :
    Sheds s (s.modView k fun v => v.commandStarted c) := by
  refine ⟨rfl, rfl, rfl, rfl, fun _ => .inl rfl, fun j _ ho n hn => ?_⟩
  rw [State.view_modView] at ho
  split at ho
  · next hk =>
    subst hk
    simp only [StackView.commandStarted, List.mem_append, List.mem_singleton] at ho
    rcases ho with ho | rfl
    · exact ho
    · simp at hn
  · exact ho

theorem State.startNotices_sheds (s : State) (f : EgressFrame) : Sheds s (s.startNotices f) := by
  unfold State.startNotices
  split
  · split
    · exact s.commandStarted_sheds _ _
    · exact .refl s
  · exact s.serveReporting_sheds
  · exact .refl s
  · exact .refl s

theorem State.kick_sheds (s : State) : Sheds s s.kick := by
  unfold State.kick
  split
  · exact .refl s
  · split
    · exact .refl s
    · next frame rest _ =>
      exact Sheds.trans (t := { s with ring := rest.transmit frame }) (.of_eq rfl rfl rfl rfl rfl rfl)
        (State.startNotices_sheds _ _)

theorem Sheds.kick {s t : State} (h : Sheds s t) : Sheds s t.kick := h.trans t.kick_sheds

theorem State.report_sheds (s : State) (r : Report) : Sheds s (s.report r) := by
  unfold State.report
  split
  · exact .kick (.of_eq rfl rfl rfl rfl rfl rfl)
  · exact .of_eq rfl rfl rfl rfl rfl rfl

theorem State.respond_sheds (s : State) (r : Response) : Sheds s (s.respond r) :=
  .kick (t := { s with ring.responses := s.ring.responses ++ [r] }) (.of_eq rfl rfl rfl rfl rfl rfl)

theorem State.enqueueTransit_sheds (s : State) (bytes : List Byte) : Sheds s (s.enqueueTransit bytes) := by
  unfold State.enqueueTransit
  split
  · exact .kick (.of_eq rfl rfl rfl rfl rfl rfl)
  · exact .of_eq rfl rfl rfl rfl rfl rfl

theorem State.placeReference_sheds (s : State) (k : Station) (r : ReferencePart) : Sheds s (s.placeReference k r) := by
  unfold State.placeReference
  exact .kick (.of_eq rfl rfl rfl rfl rfl rfl)

theorem State.placeCommand_sheds (s : State) (k : Station) (c : Command) : Sheds s (s.placeCommand k c) := by
  unfold State.placeCommand
  exact .kick (.of_eq rfl rfl rfl rfl rfl rfl)

theorem State.setView_sheds {s : State} {k : Station} {v : StackView}
    (h : ∀ o ∈ v.outstanding, ∀ n, o.standing = .sent (some n) → o ∈ (s.view k).outstanding) :
    Sheds s (s.setView k v) := by
  refine ⟨rfl, rfl, rfl, rfl, fun _ => .inl rfl, fun j o ho n hn => ?_⟩
  rw [State.view_setView] at ho
  split at ho
  · next hk => subst hk; exact h o ho n hn
  · exact ho

theorem State.awaitOn_sheds (s : State) (k : Station) (q : Seq) : Sheds s (s.awaitOn k q) := by
  unfold State.awaitOn
  exact .of_eq rfl rfl rfl rfl rfl rfl

theorem State.queueCommand_sheds (s : State) (k : Station) (c : CommandKind) : Sheds s (s.queueCommand k c) := by
  have hv : Sheds s (s.setView k ((s.view k).queued c)) := State.setView_sheds fun _ ho _ _ => ho
  have hq := hv.trans (State.awaitOn_sheds _ k (s.view k).takenSequence)
  unfold State.queueCommand
  dsimp only
  split
  · exact hq.trans (State.placeCommand_sheds _ _ _)
  · exact hq

theorem State.placeHeld_sheds (s : State) (k : Station) : Sheds s (s.placeHeld k) := by
  unfold State.placeHeld
  split
  · split
    · exact s.placeCommand_sheds _ _
    · exact .refl s
  · exact .refl s

theorem State.kick_firm (s : State) : Firm s s.kick := s.kick_sheds.firm

theorem State.report_firm (s : State) (r : Report) : Firm s (s.report r) := (s.report_sheds r).firm

theorem State.queueCommand_firm (s : State) (k : Station) (c : CommandKind) : Firm s (s.queueCommand k c) :=
  (s.queueCommand_sheds k c).firm

/-- An event that is not open any longer goes to REPORTING. -/
theorem Event.becomes_reporting {e : Event} (h : e.state.opens = false) : e.Becomes { e with state := .reporting } where
  bus := rfl
  opens := h.symm
  asks := fun x => by simp at x
  sound := fun k => ⟨k.1, k.2, k.3, fun x => by simp [EventState.left] at x, k.5, k.6, by
    have hl : e.state.left = true := by revert h; cases e.state <;> simp [EventState.opens, EventState.left]
    simpa [EventState.left] using k.7.2 hl⟩
  outcome := fun _ => rfl
  step := fun _ => rfl
  order := fun _ => rfl
  claims := fun _ => id
  silence := id
  downstream := id

theorem State.forgetDrawing_firm (s : State) (i : EventIx) : Firm s (s.forgetDrawing i) := by
  unfold State.forgetDrawing
  exact .of_eq rfl rfl rfl rfl rfl rfl

/-- A closed event goes to REPORTING, and may be freed at once. -/
theorem State.enterReporting_firm {s : State} {i : EventIx} (h : ∀ e, s.entry i = some e → e.state.opens = false) :
    Firm s (s.enterReporting i) := by
  have hm : Firm s ((s.modEvent i fun e => { e with state := .reporting }).forgetDrawing i) :=
    (State.forgetDrawing_firm _ i).after (State.modEvent_firm (fun e he => Event.becomes_reporting (h e he))
      fun e he hr => by simpa [hr, EventState.opens] using h e he)
  unfold State.enterReporting
  dsimp only
  split
  · refine hm.trans ((State.queueClosed_sheds fun e he => ?_).firm.trans (State.kick_firm _))
    rw [State.entry_congr (s := s.modEvent i fun e => { e with state := .reporting }) (by simp) i,
      State.entry_modEvent, if_pos rfl, Option.map_eq_some_iff] at he
    obtain ⟨e', -, rfl⟩ := he
    rfl
  · exact hm

theorem State.queueClosed_calm (s : State) (i : EventIx) : Calm s (s.queueClosed i) :=
  .of_eq (by simp) (by simp) (by simp) (by simp) (by simp)

theorem State.enterReporting_calm (s : State) (i : EventIx) : Calm s (s.enterReporting i) := by
  have hm : Calm s ((s.modEvent i fun e => { e with state := .reporting }).forgetDrawing i) :=
    (s.modEvent_calm i _).trans (State.forgetDrawing_firm _ i).toCalm
  unfold State.enterReporting
  dsimp only
  split
  · exact hm.trans ((State.queueClosed_calm _ i).trans (State.kick_firm _).toCalm)
  · exact hm

/-! ## The energy accounts -/

theorem State.duePass_firm (s : State) : Firm s s.duePass := .of_eq rfl rfl rfl rfl rfl rfl

theorem State.addFree_firm (s : State) (n : Nat) : Firm s (s.addFree n) := .of_eq rfl rfl rfl rfl rfl rfl

theorem State.setRelease_firm (s : State) (r : ReleaseIx) (x : Option Release) : Firm s (s.setRelease r x) :=
  .of_eq rfl rfl rfl rfl rfl rfl

theorem State.modRelease_firm (s : State) (r : ReleaseIx) (f : Release → Release) : Firm s (s.modRelease r f) := by
  unfold State.modRelease
  split
  · exact .refl s
  · exact s.setRelease_firm _ _

@[simp] theorem State.entry_putRecounted (s : State) (i j : EventIx) (e : Event) :
    (s.putRecounted i e).entry j = if i = j then some e.recount else s.entry j :=
  State.entry_setEntry s i j (some e.recount)

theorem State.putRecounted_firm {s : State} {i : EventIx} {e e' : Event} (he : s.entry i = some e) (hb : e.Becomes e')
    (hr : e.state = .requesting → e'.state = .requesting) : Firm s (s.putRecounted i e') :=
  Firm.after (t := s.setEntry i (some e'.recount)) (.of_eq rfl rfl rfl rfl rfl rfl)
    (State.setEntry_firm he (hb.trans (.of_skeleton rfl)) hr)

theorem State.giveToFree_firm (s : State) (i : EventIx) : Firm s (s.giveToFree i) := by
  unfold State.giveToFree
  split
  · exact .refl s
  · next e he => exact (State.addFree_firm _ _).after (State.setEntry_firm he (.of_skeleton rfl) id)

theorem State.dropRequest_firm (s : State) (i : EventIx) : Firm s (s.dropRequest i) :=
  .of_filter rfl rfl rfl List.filter_sublist rfl rfl

/-- No request of the event is left. -/
theorem State.dropRequest_none (s : State) (i : EventIx) : ∀ q ∈ (s.dropRequest i).pool.grantQueue, q.event ≠ i := by
  simp [State.dropRequest]

/-! ## Leaving the protected path and entering INJECTING -/

/-- An event that is its bus's open event enters BYPASSED. -/
theorem Event.becomes_bypassed {e : Event} (h : e.state.opens = true) (cause : EventOutcome) :
    e.Becomes { e with state := .bypassed, outcome := firstOutcome e.outcome cause, ladderStep := 3, held := .empty } where
  bus := rfl
  opens := h.symm
  asks := fun x => by simp at x
  sound := fun k => ⟨k.1, k.2, le_rfl, fun x => by simp [EventState.left] at x, k.5, k.6, by
    cases e.outcome <;> simp [EventState.left, firstOutcome]⟩
  outcome := by simp [h]
  step := by simp [h]
  order := by simp [h]
  claims := by simp [h]
  silence := id
  downstream := id

theorem State.leavePath_calm (s : State) (i : EventIx) (cause : EventOutcome) : Calm s (s.leavePath i cause) :=
  (s.dropRequest_firm i).toCalm.trans (State.modEvent_calm _ _ _)

/-- The entry of an event that has left its path is BYPASSED. -/
theorem State.leavePath_state {s : State} {i : EventIx} {cause : EventOutcome} {e : Event}
    (he : (s.leavePath i cause).entry i = some e) : e.state = .bypassed := by
  rw [State.leavePath, State.entry_modEvent, if_pos rfl, Option.map_eq_some_iff] at he
  obtain ⟨e', -, rfl⟩ := he
  rfl

theorem State.leavePath_firm {s : State} {i : EventIx} {cause : EventOutcome}
    (h : ∀ e, s.entry i = some e → e.state.opens = true ∧ e.state ≠ .requesting) : Firm s (s.leavePath i cause) :=
  (s.dropRequest_firm i).trans (State.modEvent_firm (fun e he => Event.becomes_bypassed (h e he).1 cause)
    fun e he hr => absurd hr (h e he).2)

theorem State.leavePath_quiet {s : State} {i : EventIx} {cause : EventOutcome}
    (h : ∀ e, s.entry i = some e → e.state.opens = true) : Quiet s (s.leavePath i cause) where
  toCalm := s.leavePath_calm i cause
  entry := fun j => by
    change Evolves (s.entry j) (((s.dropRequest i).modEvent i _).entry j)
    rw [State.entry_modEvent]
    change Evolves (s.entry j) (if i = j then (s.entry j).map _ else s.entry j)
    split
    · next hj =>
      subst hj
      cases he : s.entry i with
      | none => exact .free
      | some e => exact .kept (Event.becomes_bypassed (h e he) cause)
    · exact .refl _
  requesting := fun j e he hr hq => by
    obtain ⟨q, hq, hj⟩ := hq
    have hji : i ≠ j := fun hij => State.dropRequest_none s i q (by simpa [State.leavePath] using hq) (hj.trans hij.symm)
    refine ⟨e, ?_, hr⟩
    rw [State.leavePath, State.entry_modEvent, if_neg hji]
    exact he

theorem State.bypassIdle_firm {s : State} {i : EventIx} {cause : EventOutcome}
    (h : ∀ e, s.entry i = some e → e.state.opens = true ∧ e.state ≠ .requesting) : Firm s (s.bypassIdle i cause) :=
  (State.leavePath_firm h).trans (State.giveToFree_firm _ _)

theorem State.bypassIdle_calm (s : State) (i : EventIx) (cause : EventOutcome) : Calm s (s.bypassIdle i cause) :=
  (s.leavePath_calm i cause).trans (State.giveToFree_firm _ _).toCalm

/-- An event on its protected path enters INJECTING. -/
theorem Event.becomes_injecting {e : Event} (h : e.state.left = false) :
    e.Becomes { e with
      state := .injecting, stackOrder := .inject, held := .empty
      deepestStep := some (e.deepestStep.getD e.ladderStep) } where
  bus := rfl
  opens := by revert h; cases e.state <;> simp [EventState.opens, EventState.left]
  asks := fun x => by simp at x
  sound := fun k => ⟨k.1, k.2, k.3, fun _ => k.4 h, fun n hn => by
      cases hd : e.deepestStep with
      | none => simp [hd] at hn; exact hn ▸ k.3
      | some m => simp [hd] at hn; exact hn ▸ k.5 m hd,
    k.6, by
      have := k.7
      rw [h] at this
      simpa [EventState.left] using this⟩
  outcome := fun x => absurd h (by revert x; cases e.state <;> simp [EventState.opens, EventState.left])
  step := fun _ => rfl
  order := fun x => absurd h (by revert x; cases e.state <;> simp [EventState.opens, EventState.left])
  claims := fun _ => id
  silence := id
  downstream := id

theorem State.modRecord_firm (s : State) (k : Station) (f : StackRecord → StackRecord) : Firm s (s.modRecord k f) :=
  .of_eq rfl rfl rfl rfl rfl rfl

theorem State.enterInjecting_calm (s : State) (i : EventIx) : Calm s (s.enterInjecting i) := by
  unfold State.enterInjecting
  split
  · exact .refl s
  · exact (s.setEntry_calm i _).trans ((State.modRecord_firm _ _ _).trans (State.queueCommand_firm _ _ _)).toCalm

theorem State.enterInjecting_firm {s : State} {i : EventIx}
    (h : ∀ e, s.entry i = some e → e.state.left = false ∧ e.state ≠ .requesting) : Firm s (s.enterInjecting i) := by
  unfold State.enterInjecting
  split
  · exact .refl s
  · next e he =>
    exact (State.setEntry_firm he (Event.becomes_injecting (h e he).1) fun hr => absurd hr (h e he).2).trans
      ((State.modRecord_firm _ _ _).trans (State.queueCommand_firm _ _ _))

theorem State.leaveHeld_firm (s : State) (i : EventIx) : Firm s (s.leaveHeld i) := by
  unfold State.leaveHeld
  split
  · exact .refl s
  · next e he =>
    split
    · next hh =>
      have heq : ∀ e', s.entry i = some e' → e'.state = .held := fun e' he' => by
        rw [he] at he'
        exact Option.some.inj he' ▸ hh.1
      split
      · exact State.bypassIdle_firm fun e' he' => by simp [heq e' he', EventState.opens]
      · split
        · refine (s.addMark_firm i .stackFault).trans (State.bypassIdle_firm fun e' he' => ?_)
          rw [State.addMark, State.entry_modEvent, if_pos rfl, Option.map_eq_some_iff] at he'
          obtain ⟨e'', he'', rfl⟩ := he'
          simp [heq e'' he'', EventState.opens]
        · exact State.enterInjecting_firm fun e' he' => by simp [heq e' he', EventState.left]
    · exact .refl s

theorem State.freeOfStack_firm (k : Station) (s : State) (i : EventIx) : Firm s (State.freeOfStack k s i) := by
  unfold State.freeOfStack
  split
  · exact .refl s
  · next e he =>
    split
    · exact (State.leaveHeld_firm _ _).after (State.setEntry_firm he (.of_skeleton rfl) id)
    · exact .refl s

theorem State.availabilityCheck_firm (s : State) (k : Station) : Firm s (s.availabilityCheck k) :=
  Firm.foldl (State.freeOfStack_firm k) _ _

/-! ## Releases -/

theorem payClaim_firm (r : ReleaseIx) (x : State × Nat) (c : ReleaseClaim) : Firm x.1 (payClaim r x c).1 := by
  unfold payClaim
  split
  · exact .refl _
  · next e he =>
    exact State.putRecounted_firm he ((e.becomes_filterClaims _).trans (.of_skeleton rfl)) id

theorem foldl_payClaim_firm (r : ReleaseIx) (l : List ReleaseClaim) (x : State × Nat) :
    Firm x.1 (l.foldl (payClaim r) x).1 := by
  induction l generalizing x with
  | nil => exact .refl _
  | cons c l ih => exact (payClaim_firm r x c).trans (ih _)

theorem State.payOut_firm (s : State) (r : ReleaseIx) (x : Release) : Firm s (s.payOut r x) :=
  (foldl_payClaim_firm r x.claims (s, x.amount)).trans
    ((State.setRelease_firm _ _ _).trans ((State.addFree_firm _ _).trans (State.duePass_firm _)))

theorem State.putNewRelease_firm {s : State} {i : EventIx} {e : Event} (r : ReleaseIx) (he : s.entry i = some e) :
    Firm s (s.putNewRelease i r e) := by
  unfold State.putNewRelease
  dsimp only
  refine (State.forgetDrawing_firm _ _).after (Firm.after (State.setEntry_firm (e := e) he (.of_skeleton rfl) id) ?_)
  exact .of_eq rfl rfl rfl rfl rfl rfl

theorem State.newRelease_firm (s : State) (i : EventIx) (r : ReleaseIx) : Firm s (s.newRelease i r) := by
  unfold State.newRelease
  split
  · exact .refl s
  · next e he =>
    have hq : Firm s (if e.needsRelease then s.queueCommand e.copy.stack .release else s) := by
      split
      · exact s.queueCommand_firm _ _
      · exact .refl s
    dsimp only
    generalize (if e.needsRelease then s.queueCommand e.copy.stack .release else s) = u at hq ⊢
    split
    · exact hq
    · next e' he' =>
      have hp := hq.trans (State.putNewRelease_firm r he')
      generalize u.putNewRelease i r e' = w at hp ⊢
      split
      · exact hp
      · split
        · exact hp.trans ((State.payOut_firm _ _ _).trans (State.availabilityCheck_firm _ _))
        · exact hp

theorem State.afterWait_firm (s : State) (i : EventIx) : Firm s (s.afterWait i) := by
  unfold State.afterWait
  split
  · exact .refl s
  · next e he =>
    refine Firm.trans ?_ (State.availabilityCheck_firm _ _)
    split
    · next hc =>
      refine State.enterReporting_firm fun e' he' => ?_
      rw [he] at he'
      rw [← Option.some.inj he', hc]
      rfl
    · exact .refl s

theorem State.endWait_firm (s : State) (i : EventIx) : Firm s (s.endWait i) :=
  (State.afterWait_firm _ _).after (State.modEvent_firm (fun _ _ => .of_skeleton rfl) fun _ _ => id)

theorem State.endSpentWait_firm (s : State) (i : EventIx) : Firm s (s.endSpentWait i) := by
  unfold State.endSpentWait
  split
  · exact .refl s
  · split
    · exact s.endWait_firm i
    · exact .refl s

theorem State.offer_firm (n : Nat) (s : State) : Firm s (State.offer n s) := by
  induction n generalizing s with
  | zero => exact .refl s
  | succ n ih =>
    unfold State.offer
    split
    · exact ((s.newRelease_firm _ _).trans (State.afterWait_firm _ _)).trans (ih _)
    · exact .refl s

theorem State.offerEntries_firm (s : State) : Firm s s.offerEntries := State.offer_firm _ s

theorem State.beginWait_firm (s : State) (i : EventIx) : Firm s (s.beginWait i) := by
  unfold State.beginWait
  split
  · exact .refl s
  · next e he =>
    have hw : Firm s (({ s.setEntry i (some { e with
        releaseWait := some ⟨s.now, s.events.waitCounter⟩
        releaseQueued := e.releaseQueued || decide (e.stackOrder = .inject) }) with
        events.waitCounter := s.events.waitCounter + 1 } : State).addAlarm e.bus .releaseWait) :=
      (State.addAlarm_firm _ _ (.inr (.inr rfl))).after
        (Firm.after (t := s.setEntry i _) (.of_eq rfl rfl rfl rfl rfl rfl) (State.setEntry_firm he (.of_skeleton rfl) id))
    dsimp only
    split
    · exact hw.trans (State.queueCommand_firm _ _ _)
    · exact hw

theorem State.dispose_firm (s : State) (i : EventIx) : Firm s (s.dispose i) := by
  unfold State.dispose
  split
  · exact .refl s
  · split
    · exact .refl s
    · split
      · exact s.giveToFree_firm i
      · split
        · exact s.newRelease_firm i _
        · exact s.beginWait_firm i

/-- Entering BYPASSED, after the entry has left its path. -/
theorem State.bypass_after (s : State) (i : EventIx) (cause : EventOutcome) (commanded : Bool) :
    Firm (s.leavePath i cause) (s.bypass i cause commanded) := by
  unfold State.bypass
  dsimp only
  split
  · exact .refl _
  · next e he =>
    split
    · have hb : e.Becomes { e with stackOrder := .bypass } :=
        ⟨rfl, rfl, id, fun k => ⟨k.1, k.2, k.3, k.4, k.5, k.6, k.7⟩, fun _ => rfl, fun _ => rfl,
          fun h => by simp [State.leavePath_state he, EventState.opens] at h, fun _ => id, id, id⟩
      refine (State.setEntry_firm he hb id).trans (Firm.trans ?_ (State.dispose_firm _ _))
      split
      · exact .refl _
      · exact State.queueCommand_firm _ _ _
    · exact State.dispose_firm _ _

theorem State.bypass_calm (s : State) (i : EventIx) (cause : EventOutcome) (commanded : Bool) :
    Calm s (s.bypass i cause commanded) := (s.leavePath_calm i cause).trans (s.bypass_after i cause commanded).toCalm

theorem State.bypass_firm {s : State} {i : EventIx} {cause : EventOutcome} {commanded : Bool}
    (h : ∀ e, s.entry i = some e → e.state.opens = true ∧ e.state ≠ .requesting) :
    Firm s (s.bypass i cause commanded) := (State.leavePath_firm h).trans (s.bypass_after i cause commanded)

theorem State.bypass_quiet {s : State} {i : EventIx} {cause : EventOutcome} {commanded : Bool}
    (h : ∀ e, s.entry i = some e → e.state.opens = true) : Quiet s (s.bypass i cause commanded) :=
  (State.leavePath_quiet h).trans (s.bypass_after i cause commanded).quiet

theorem State.settleBorrower_firm (s : State) (i : EventIx) : Firm s (s.settleBorrower i) := by
  unfold State.settleBorrower
  split
  · exact .refl s
  · next e he =>
    have hb : Firm s (if e.claims = [] then s.setEntry i (some { e with held.borrow := false }) else s) := by
      split
      · exact State.setEntry_firm he (.of_skeleton rfl) id
      · exact .refl s
    dsimp only
    split
    · split
      · exact hb
      · exact hb.trans (State.giveToFree_firm _ _)
    · exact hb.trans (State.leaveHeld_firm _ _)

theorem State.confirmRelease_firm (s : State) (r : ReleaseIx) : Firm s (s.confirmRelease r) := by
  unfold State.confirmRelease
  split
  · exact .refl s
  · next x hx =>
    have hp := (Firm.foldl (fun s (c : ReleaseClaim) => s.settleBorrower_firm c.event) x.claims _).after (s.payOut_firm r x)
    exact (State.duePass_firm _).after ((State.offerEntries_firm _).after ((State.availabilityCheck_firm _ _).after hp))

end Sys2Proof.Machine
end

section
/-! SUPPORT. The operations of the Capture Unit, the Grant Queue, the store, the Stack Command Channel, the Envelope and
Injection Units and the ring ports, by the relations `Firm`, `Quiet` and `Kept`. -/

namespace Sys2Proof.Machine

theorem Kept.refl (s : State) : Kept s s := (Firm.refl s).kept

/-- A relation that a fold's step makes, where it is reflexive and transitive. -/
theorem foldl_relates {α : Type} {R : State → State → Prop} (hr : ∀ s, R s s) (ht : ∀ {s t u}, R s t → R t u → R s u)
    {f : State → α → State} (h : ∀ s x, R s (f s x)) (l : List α) (s : State) : R s (l.foldl f s) := by
  induction l generalizing s with
  | nil => exact hr s
  | cons x l ih => exact ht (h s x) (ih _)

/-- The second of two changes named first. -/
theorem Sheds.after {s t u : State} (k : Sheds t u) (h : Sheds s t) : Sheds s u := h.trans k

/-! ## The Capture Unit -/

theorem State.setRecorder_sheds (s : State) (k : CaptureIx) (c : CaptureChannel) : Sheds s (s.setRecorder k c) :=
  .of_eq rfl rfl rfl rfl rfl rfl

theorem State.modRecorder_sheds (s : State) (k : CaptureIx) (f : CaptureChannel → CaptureChannel) :
    Sheds s (s.modRecorder k f) := s.setRecorder_sheds k _

theorem State.halfTest_sheds (s : State) (k : CaptureIx) (a : Nat) : Sheds s (s.halfTest k a) := by
  unfold State.halfTest
  dsimp only
  split
  · exact (State.report_sheds _ _).after (s.setRecorder_sheds _ _)
  · exact .refl s

theorem State.endTest_sheds (s : State) (k : CaptureIx) (a : Nat) : Sheds s (s.endTest k a) := by
  unfold State.endTest
  dsimp only
  split
  · exact (State.report_sheds _ _).after (s.setRecorder_sheds _ _)
  · exact .refl s

theorem State.writeRecord_sheds (s : State) (k : CaptureIx) (kind : RecordKind) (f : AcceptedFrame) :
    Sheds s (s.writeRecord k kind f) := by
  unfold State.writeRecord
  refine (State.endTest_sheds _ _ _).after ((State.halfTest_sheds _ _ _).after ((State.setRecorder_sheds _ _ _).after ?_))
  exact .of_eq rfl rfl rfl rfl rfl rfl

theorem State.sampleOn_sheds (s : State) (f : AcceptedFrame) (k : CaptureIx) : Sheds s (s.sampleOn f k) := by
  unfold State.sampleOn
  dsimp only
  split
  · refine (State.modRecorder_sheds _ _ _).after ?_
    split
    · exact s.writeRecord_sheds _ _ _
    · exact .refl s
  · exact .refl s

theorem State.captureTakes_sheds (s : State) (f : AcceptedFrame) : Sheds s (s.captureTakes f) :=
  foldl_relates Sheds.refl Sheds.trans (fun s k => s.sampleOn_sheds f k) _ _

theorem State.captureCaughtUp_sheds (s : State) (b : Bus) : Sheds s (s.captureCaughtUp b) := by
  refine (foldl_relates Sheds.refl Sheds.trans State.captureTakes_sheds _ _).after ?_
  exact .of_eq rfl rfl rfl rfl rfl rfl

theorem State.captureEnded_sheds (s : State) (i : EventIx) : Sheds s (s.captureEnded i) := by
  unfold State.captureEnded
  exact .of_eq rfl rfl rfl rfl rfl rfl

/-- An entry as it was but for its marks and its capture channel, where it is not in REPORTING; the rest by `Sheds`. -/
structure Records (s t : State) : Prop where
  firm : Firm s t
  entry : ∀ i e, s.entry i = some e → e.state ≠ .reporting → ∃ m c, t.entry i = some { e with marks := m, capture := c }

theorem Records.trans {s t u : State} (h : Records s t) (k : Records t u) : Records s u where
  firm := h.firm.trans k.firm
  entry := fun i e he hr => by
    obtain ⟨m, c, ht⟩ := h.entry i e he hr
    obtain ⟨m', c', hu⟩ := k.entry i _ ht hr
    exact ⟨m', c', hu⟩

/-- The second of two changes named first. -/
theorem Records.after {s t u : State} (k : Records t u) (h : Records s t) : Records s u := h.trans k

theorem Sheds.records {s t : State} (h : Sheds s t) : Records s t :=
  ⟨h.firm, fun _ e he hr => ⟨e.marks, e.capture, h.stays he hr⟩⟩

/-- A change of an entry's marks or capture channel. -/
theorem State.modEvent_records {s : State} {i : EventIx} {f : Event → Event} (hb : ∀ e : Event, e.Becomes (f e))
    (hf : ∀ e, ∃ m c, f e = { e with marks := m, capture := c }) : Records s (s.modEvent i f) where
  firm := State.modEvent_firm (fun e _ => hb e) fun e _ hr => by
    obtain ⟨m, c, h⟩ := hf e
    rw [h]; exact hr
  entry := fun j e he _ => by
    rw [State.entry_modEvent]
    split
    · obtain ⟨m, c, h⟩ := hf e
      exact ⟨m, c, by simp [he, h]⟩
    · exact ⟨e.marks, e.capture, he⟩

theorem State.addMark_records (s : State) (i : EventIx) (m : Mark) : Records s (s.addMark i m) :=
  State.modEvent_records (fun e => e.becomes_addMark m) fun e => ⟨_, e.capture, rfl⟩

theorem State.truncatePass_records (s : State) (k : CaptureIx) : Records s (s.truncatePass k) := by
  unfold State.truncatePass
  split
  · split
    · exact (Sheds.refl s).records
    · exact s.addMark_records _ _
  · exact (Sheds.refl s).records

theorem State.attachRecorder_records (s : State) (k : CaptureIx) (i : EventIx) (f : AcceptedFrame) :
    Records s (s.attachRecorder k i f) := by
  unfold State.attachRecorder
  refine (State.modRecorder_sheds _ _ _).records.after ((State.writeRecord_sheds _ _ _ _).records.after
    (Records.after (State.modEvent_records (fun _ => .of_skeleton ?_) fun e => ⟨e.marks, some k, ?_⟩)
      (s.modRecorder_sheds k _).records))
  all_goals rfl

theorem State.captureOpening_records (s : State) (i : EventIx) (choice : Option CaptureIx) (f : AcceptedFrame) :
    Records s (s.captureOpening i choice f) := by
  unfold State.captureOpening
  split
  · exact (Sheds.refl s).records
  · split
    · exact s.addMark_records _ _
    · have hc := (s.captureCaughtUp_sheds f.bus).records
      refine Records.trans ?_ (State.attachRecorder_records _ _ _ _)
      split
      · exact hc.trans (State.truncatePass_records _ _)
      · exact hc

/-! ## Borrowing -/

/-- A claim made or grown on an event's list: the list as long as before, or one longer where it held none on the release. -/
theorem growEventClaim_length (r : ReleaseIx) (n : Nat) (l : List EventClaim) :
    (growEventClaim r n l).length = l.length + if claimsOn l r then 0 else 1 := by
  unfold growEventClaim
  split <;> simp_all

/-- A claim stays where there was one, and there is one on the release. -/
theorem claimsOn_growEventClaim (r q : ReleaseIx) (n : Nat) (l : List EventClaim) :
    claimsOn (growEventClaim r n l) q = (claimsOn l q || decide (r = q)) := by
  unfold growEventClaim
  split
  · next h =>
    have hm : ∀ c : EventClaim, (if c.release = r then { c with amount := c.amount + n } else c).release = c.release :=
      fun c => by split <;> rfl
    have : claimsOn (l.map fun c => if c.release = r then { c with amount := c.amount + n } else c) q = claimsOn l q := by
      simp [claimsOn, List.any_map, Function.comp_def, hm]
    rw [this]
    by_cases hq : r = q
    · subst hq; simp [h]
    · simp [hq]
  · simp [claimsOn]

/-- The releases of a list that an event holds no claim on. -/
def unclaimed (claims : List EventClaim) (l : List (ReleaseIx × Nat)) : List (ReleaseIx × Nat) :=
  l.filter fun x => !claimsOn claims x.1

/-- The open releases take no more free slots than there are. -/
theorem State.unclaimed_openReleases (s : State) (claims : List EventClaim) (slots : Nat) (l : List ReleaseIx) :
    (unclaimed claims (s.openReleases claims slots l)).length ≤ slots := by
  induction l generalizing slots with
  | nil => simp [State.openReleases, unclaimed]
  | cons r l ih =>
    unfold State.openReleases
    split
    · exact ih slots
    · split
      · exact ih slots
      · split
        · next hc => simpa [unclaimed, hc] using ih slots
        · next hc =>
          split
          · exact ih slots
          · split
            · exact ih 0
            · simpa [unclaimed, hc] using ih _

theorem State.growClaim_eq {s : State} {i : EventIx} {e : Event} (he : s.entry i = some e) (r : ReleaseIx) (n : Nat) :
    s.growClaim i r n = (s.setEntry i (some { e with claims := growEventClaim r n e.claims })).modRelease r fun x =>
      { x with claims := growReleaseClaim i n x.claims } := by
  rw [State.growClaim, State.modEvent_eq _ he]

theorem State.entry_modRelease (s : State) (r : ReleaseIx) (f : Release → Release) (i : EventIx) :
    (s.modRelease r f).entry i = s.entry i := State.entry_congr (by simp) i

/-- Claims laid on the open releases: the event's list grows by no more than the releases it held no claim on. -/
theorem State.layClaims_entry {i : EventIx} (l : List (ReleaseIx × Nat)) {n : Nat} {s : State} {e : Event}
    (he : s.entry i = some e) :
    (∃ cs, (State.layClaims i l n s).entry i = some { e with claims := cs } ∧
      cs.length ≤ e.claims.length + (unclaimed e.claims l).length) ∧
    ∀ j, j ≠ i → (State.layClaims i l n s).entry j = s.entry j := by
  induction l generalizing n s e with
  | nil => exact ⟨⟨e.claims, he, by simp⟩, fun _ _ => rfl⟩
  | cons x l ih =>
    obtain ⟨r, available⟩ := x
    unfold State.layClaims
    split
    · exact ⟨⟨e.claims, he, by simp⟩, fun _ _ => rfl⟩
    · rw [State.growClaim_eq he]
      generalize min n available = m
      have hg : ((s.setEntry i (some { e with claims := growEventClaim r m e.claims })).modRelease r fun x =>
          { x with claims := growReleaseClaim i m x.claims }).entry i =
          some { e with claims := growEventClaim r m e.claims } := by
        rw [State.entry_modRelease]; simp
      obtain ⟨⟨cs, hcs, hlen⟩, hj⟩ := ih (n := n - m) hg
      refine ⟨⟨cs, hcs, hlen.trans ?_⟩, fun j hji => ?_⟩
      · have hsub : (unclaimed (growEventClaim r m e.claims) l).length ≤ (unclaimed e.claims l).length :=
          (List.monotone_filter_right l fun y => by
            simp only [claimsOn_growEventClaim]
            cases claimsOn e.claims y.1 <;> simp).length_le
        dsimp only at *
        rw [growEventClaim_length]
        by_cases hc : claimsOn e.claims r
        · simp only [hc, if_true, unclaimed, List.filter_cons, Bool.not_true, Bool.false_eq_true, if_false] at *
          omega
        · simp only [hc, if_false, unclaimed, List.filter_cons, Bool.not_false, if_true, List.length_cons,
            Bool.false_eq_true] at *
          omega
      · rw [hj j hji, State.entry_modRelease, State.entry_setEntry, if_neg (Ne.symm hji)]

theorem State.layClaims_calm (i : EventIx) (l : List (ReleaseIx × Nat)) (n : Nat) (s : State) :
    Calm s (State.layClaims i l n s) :=
  .of_eq (by simp) (by simp) (by simp) (by simp) (by simp)

/-- Claims laid for an open event on the releases open to it. -/
theorem State.layClaims_firm {s : State} {i : EventIx} {e : Event} (he : s.entry i = some e) (ho : e.state.opens = true)
    (l : List (ReleaseIx × Nat)) (hl : (unclaimed e.claims l).length ≤ 4 - e.claims.length) (n : Nat) :
    Firm s (State.layClaims i l n s) := by
  obtain ⟨⟨cs, hcs, hlen⟩, hj⟩ := State.layClaims_entry (n := n) l he
  have hb : e.Becomes { e with claims := cs } :=
    ⟨rfl, rfl, id, fun k => ⟨k.1, by have := k.2; dsimp only; omega, k.3, k.4, k.5, k.6, k.7⟩, fun _ => rfl,
      fun _ => rfl, fun _ => rfl, by simp [ho], id, id⟩
  refine ⟨State.layClaims_calm i l n s, fun j => ?_, fun j x hx hr => ?_⟩
  · by_cases hji : j = i
    · subst hji; rw [he, hcs]; exact .kept hb
    · exact .of_eq (hj j hji)
  · by_cases hji : j = i
    · subst hji
      rw [he] at hx
      exact ⟨_, hcs, Option.some.inj hx ▸ hr⟩
    · exact ⟨x, by rw [hj j hji, hx], hr⟩

/-! ## A request served -/

/-- An entry that changes by `Event.Becomes` with no request of its event in the queue. -/
theorem State.setEntry_quiet {s : State} {i : EventIx} {e e' : Event} (he : s.entry i = some e) (hb : e.Becomes e')
    (hq : ∀ q ∈ s.pool.grantQueue, q.event ≠ i) : Quiet s (s.setEntry i (some e')) where
  toCalm := s.setEntry_calm i _
  entry := fun j => by
    rw [State.entry_setEntry]
    split
    · next h => subst h; rw [he]; exact .kept hb
    · exact .refl _
  requesting := fun j x hx hr ⟨q, hm, hj⟩ => by
    have hij : i ≠ j := fun h => hq q hm (hj.trans h.symm)
    exact ⟨x, by simp [hij, hx], hr⟩

theorem State.enterInjecting_quiet {s : State} {i : EventIx} (h : ∀ e, s.entry i = some e → e.state.left = false)
    (hq : ∀ q ∈ s.pool.grantQueue, q.event ≠ i) : Quiet s (s.enterInjecting i) := by
  unfold State.enterInjecting
  split
  · exact .refl s
  · next e he =>
    exact ((State.queueCommand_firm _ _ _).after (State.modRecord_firm _ _ _)).quiet.after
      (State.setEntry_quiet he (Event.becomes_injecting (h e he)) hq)

/-- A REQUESTING event enters HELD. -/
theorem Event.becomes_held {e : Event} (h : e.state = .requesting) (r : HeldReasons) :
    e.Becomes { e with state := .held, held := r } where
  bus := rfl
  opens := by rw [h]; rfl
  asks := fun x => by simp at x
  sound := fun k => ⟨k.1, k.2, k.3, fun _ => k.4 (by rw [h]; rfl), k.5, k.6, by
    have := k.7
    rw [h] at this
    simpa [EventState.left] using this⟩
  outcome := by simp [h, EventState.opens]
  step := fun _ => rfl
  order := fun _ => rfl
  claims := fun _ => id
  silence := id
  downstream := id

theorem State.afterFirst_quiet {s : State} {i : EventIx} (firm : Nat)
    (h : ∀ e, s.entry i = some e → e.state = .requesting) (hq : ∀ q ∈ s.pool.grantQueue, q.event ≠ i) :
    Quiet s (s.afterFirst i firm) := by
  unfold State.afterFirst
  split
  · exact .refl s
  · next e he =>
    dsimp only
    split
    · exact State.enterInjecting_quiet (fun e he => by rw [h e he]; rfl) hq
    · exact State.setEntry_quiet he (Event.becomes_held (h e he) _) hq

/-- A request of an open event served, a FIRST request of a REQUESTING one. -/
theorem State.serve_quiet {s : State} {q : GrantRequest} {e : Event} (amount : Nat) (he : s.entry q.event = some e)
    (ho : e.state.opens = true) (hf : q.kind = .first → e.state = .requesting) : Quiet s (s.serve q amount) := by
  have hopen : (unclaimed e.claims (s.openTo q.event)).length ≤ 4 - e.claims.length := by
    simpa [State.openTo, State.claimsOf, he, Config.claimCapacity] using
      s.unclaimed_openReleases e.claims (4 - e.claims.length) s.pendingOldestFirst
  unfold State.serve
  generalize s.openTo q.event = taken at hopen ⊢
  dsimp only
  split
  · exact Firm.quiet (.of_filter rfl rfl rfl List.filter_sublist rfl rfl)
  · next e1 he1 =>
    cases (he.symm.trans he1 : some e = some e1)
    generalize hu : ({ s with
        pool.grantQueue := s.pool.grantQueue.filter fun r => decide (r.event ≠ q.event)
        pool.free := s.pool.free - min s.pool.free amount } : State) = u
    have hsu : Firm s u := hu ▸ .of_filter rfl rfl rfl List.filter_sublist rfl rfl
    have hue : u.entry q.event = some e := hu ▸ he
    have huq : ∀ r ∈ u.pool.grantQueue, r.event ≠ q.event := by simp [← hu]
    have hput : Firm u (u.putRecounted q.event { e with grant := e.grant + min s.pool.free amount }) :=
      State.putRecounted_firm hue (.of_skeleton rfl) id
    have hpe : (u.putRecounted q.event { e with grant := e.grant + min s.pool.free amount }).entry q.event =
        some (Event.recount { e with grant := e.grant + min s.pool.free amount }) := by simp
    have hlay := State.layClaims_firm hpe ho taken hopen (amount - min s.pool.free amount)
    have hall := (hsu.trans hput).trans hlay
    split
    · next hk =>
      refine hall.quiet.trans (State.afterFirst_quiet _ (fun e2 he2 => ?_) ?_)
      · obtain ⟨e3, he3, hr⟩ := hall.requesting _ e he (hf hk)
        rw [he2] at he3
        exact Option.some.inj he3 ▸ hr
      · intro r hr
        exact huq r ((hput.trans hlay).queue.subset hr)
    · exact hall.quiet

/-! ## Displacement -/

theorem State.displaceVictim_firm {s : State} {v : EventIx × ReleaseIx}
    (h : ∀ e, s.entry v.1 = some e → e.state.opens = true ∧ e.state ≠ .requesting) : Firm s (s.displaceVictim v) := by
  have hl := State.leavePath_firm (cause := .displaced) h
  unfold State.displaceVictim
  dsimp only
  split
  · exact hl
  · next e he =>
    have hb : e.Becomes { e with stackOrder := .bypass } :=
      ⟨rfl, rfl, id, fun k => ⟨k.1, k.2, k.3, k.4, k.5, k.6, k.7⟩, fun _ => rfl, fun _ => rfl,
        fun h => by simp [State.leavePath_state he, EventState.opens] at h, fun _ => id, id, id⟩
    exact (State.newRelease_firm _ _ _).after ((State.queueCommand_firm _ _ _).after
      ((State.setEntry_firm he hb id).after hl))

/-- Several victims displaced. -/
theorem foldl_displaceVictim_firm (l : List (EventIx × ReleaseIx)) (s : State)
    (h : ∀ v ∈ l, ∀ e, s.entry v.1 = some e → e.state.opens = true ∧ e.state ≠ .requesting) :
    Firm s (l.foldl State.displaceVictim s) := by
  induction l generalizing s with
  | nil => exact .refl s
  | cons v l ih =>
    have hv := State.displaceVictim_firm (h v (by simp))
    refine hv.trans (ih _ fun w hw e' he' => ?_)
    obtain ⟨e, he, hb⟩ := (he' ▸ hv.entry w.1).before
    obtain ⟨ho, hr⟩ := h w (by simp [hw]) e he
    exact ⟨hb.opens.trans ho, fun x => hr (hb.asks x)⟩

/-- The victims are among the candidates. -/
theorem State.chooseVictims_mem {s : State} {goal sum slots : Nat} {free : List ReleaseIx} {l : List EventIx}
    {v : EventIx × ReleaseIx} (hv : v ∈ (s.chooseVictims goal sum slots free l).1) : v.1 ∈ l := by
  induction l generalizing sum slots free with
  | nil => simp [State.chooseVictims] at hv
  | cons i l ih =>
    unfold State.chooseVictims at hv
    split at hv
    · simp at hv
    · split at hv
      · simp only [List.mem_cons] at hv
        rcases hv with rfl | hv
        · simp
        · exact List.mem_cons_of_mem _ (ih hv)
      · simp at hv

theorem State.candidates_state {s : State} {cls : Nat} {i : EventIx} (h : i ∈ s.candidates cls) :
    ∀ e, s.entry i = some e → e.state = .injecting := by
  intro e he
  rw [State.candidates, mem_sortByKey, State.mem_eventsWhere] at h
  obtain ⟨e', he', hp⟩ := h
  rw [he] at he'
  cases he'
  simp only [Bool.and_eq_true, decide_eq_true_eq] at hp
  exact hp.1.1

theorem State.serveByDisplacement_quiet {s t : State} {q : GrantRequest} {e : Event} (he : s.entry q.event = some e)
    (ho : e.state.opens = true) (hf : q.kind = .first → e.state = .requesting)
    (h : s.serveByDisplacement q = some t) : Quiet s t := by
  unfold State.serveByDisplacement at h
  dsimp only at h
  split at h
  · cases h
    have hd : Firm s (List.foldl State.displaceVictim s (s.chooseVictims q.amount
        (s.pool.free + borrowable (s.openTo q.event)) (s.slotsLeft q.event)
        (allReleases.filter fun r => (s.release r).isNone) (s.candidates q.cls)).1) :=
      foldl_displaceVictim_firm _ s fun v hv e' he' => by
        simp [State.candidates_state (State.chooseVictims_mem hv) e' he', EventState.opens]
    obtain ⟨e', he', hb⟩ := (he ▸ hd.entry q.event).opens ho
    refine hd.quiet.trans (State.serve_quiet _ he' (hb.opens.trans ho) fun hk => ?_)
    obtain ⟨e'', he'', hr⟩ := hd.requesting _ e he (hf hk)
    rw [he'] at he''
    exact Option.some.inj he'' ▸ hr
  · cases h

theorem State.serveHead_quiet {s t : State} {q : GrantRequest} (hs : s.Owned) (hq : q ∈ s.pool.grantQueue)
    (h : s.serveHead q = some t) : Quiet s t := by
  obtain ⟨e, he, ho, hf⟩ := hs q hq
  unfold State.serveHead at h
  split at h
  · cases h; exact State.serve_quiet _ he ho hf
  · split at h
    · cases h; exact State.serve_quiet _ he ho hf
    · exact State.serveByDisplacement_quiet he ho hf h

theorem State.pass_quiet (n : Nat) {s : State} (hs : s.Owned) : Quiet s (State.pass n s) := by
  induction n generalizing s with
  | zero => exact .refl s
  | succ n ih =>
    unfold State.pass
    split
    · exact .refl s
    · next q rest hq =>
      split
      · next t ht =>
        have hst := State.serveHead_quiet hs (hq ▸ List.mem_cons_self) ht
        exact hst.trans (ih (hst.owned hs))
      · exact .refl s

theorem State.servicePass_quiet {s : State} (hs : s.Owned) : Quiet s s.servicePass := by
  unfold State.servicePass
  split
  · exact (State.pass_quiet (s := { s with pool.passDue := false }) _ hs).after (Firm.quiet (.of_eq rfl rfl rfl rfl rfl rfl))
  · exact .refl s

/-! ## The Grant Queue's other changes -/

theorem mem_timers_enqueueRequest {s : State} {i : EventIx} {e : Event} {kind : RequestKind} {amount : Nat} {x : Running}
    (hx : x ∈ (s.enqueueRequest i e kind amount).timers) : x ∈ s.timers ∨ s.now ≤ x.expiry := by
  obtain ⟨x, n⟩ := x
  cases x with
  | silence b => exact .inl (by rw [State.silence_mem_timers] at hx ⊢; exact hx)
  | store => exact .inl (by simpa [State.enqueueRequest, State.duePass] using hx)
  | acknowledgement k => exact .inl (by rw [State.acknowledgement_mem_timers] at hx ⊢; exact hx)
  | wait kind i =>
    rw [State.wait_mem_timers] at hx ⊢
    obtain ⟨q, hq, hk, hi, hn⟩ := hx
    simp only [State.enqueueRequest, State.duePass, mem_insertByKey] at hq
    rcases hq with rfl | hq
    · exact .inr (hn ▸ Nat.le_add_right _ _)
    · exact .inl ⟨q, hq, hk, hi, hn⟩

theorem State.enqueueRequest_kept (s : State) (i : EventIx) (e : Event) (kind : RequestKind) (amount : Nat) :
    Kept s (s.enqueueRequest i e kind amount) :=
  ⟨rfl, fun _ => .refl _, fun _ => .refl _, fun _ => mem_timers_enqueueRequest⟩

theorem State.takeTopup_kept (s : State) (x : BroughtTopup) : Kept s (s.takeTopup x) := by
  unfold State.takeTopup
  split
  · exact .refl s
  · split
    · exact s.enqueueRequest_kept _ _ _ _
    · exact .refl s

/-- A FIRST request whose timer has come to its expiry is of a REQUESTING event. -/
theorem State.firstExpires_quiet {s : State} (hs : s.Owned) (i : EventIx) : Quiet s (s.firstExpires i) := by
  unfold State.firstExpires
  split
  · next h =>
    refine State.bypass_quiet fun e he => ?_
    unfold State.waitExpired at h
    split at h
    · next q hq =>
      obtain ⟨e', he', ho, -⟩ := hs q (List.mem_of_find?_eq_some hq)
      have hi : q.event = i := by simpa using List.find?_some hq
      rw [hi, he] at he'
      exact Option.some.inj he' ▸ ho
    · simp at h
  · exact .refl s

theorem State.firstExpires_calm (s : State) (i : EventIx) : Calm s (s.firstExpires i) := by
  unfold State.firstExpires
  split
  · exact s.bypass_calm _ _ _
  · exact .refl s

theorem State.topupExpires_firm (s : State) (i : EventIx) : Firm s (s.topupExpires i) := by
  unfold State.topupExpires
  split
  · exact (State.addMark_firm _ _ _).after (s.dropRequest_firm i)
  · exact .refl s

end Sys2Proof.Machine
end

section
/-! SUPPORT. The end of an event and of a sag: what becomes of the event's entry, of the other entries, and of the channel. -/

namespace Sys2Proof.Machine

/-! ## Firm but for one entry -/

/-- No timer and no request is new, the time base stands, the channels change in three alarms at most, and every entry but `i`
evolves, a REQUESTING event of another index going on requesting. -/
structure FirmBut (i : EventIx) (s t : State) : Prop extends Calm s t where
  entry : ∀ j, j ≠ i → Evolves (s.entry j) (t.entry j)
  requesting : ∀ j e, j ≠ i → s.entry j = some e → e.state = .requesting →
    ∃ e', t.entry j = some e' ∧ e'.state = .requesting

theorem FirmBut.trans {i : EventIx} {s t u : State} (h : FirmBut i s t) (k : FirmBut i t u) : FirmBut i s u where
  toCalm := h.toCalm.trans k.toCalm
  entry := fun j hj => (h.entry j hj).trans (k.entry j hj)
  requesting := fun j e hj he hr => by
    obtain ⟨e', he', hr'⟩ := h.requesting j e hj he hr
    exact k.requesting j e' hj he' hr'

theorem Firm.but {s t : State} (h : Firm s t) (i : EventIx) : FirmBut i s t :=
  ⟨h.toCalm, fun j _ => h.entry j, fun j e _ => h.requesting j e⟩

theorem State.setEntry_but (s : State) (i : EventIx) (o : Option Event) : FirmBut i s (s.setEntry i o) where
  toCalm := s.setEntry_calm i o
  entry := fun j hj => .of_eq (by simp [Ne.symm hj])
  requesting := fun j e hj he hr => ⟨e, by simp [Ne.symm hj, he], hr⟩

theorem State.modEvent_but (s : State) (i : EventIx) (f : Event → Event) : FirmBut i s (s.modEvent i f) := by
  cases h : s.entry i with
  | none => rw [State.modEvent_free f h]; exact (Firm.refl s).but i
  | some e => rw [State.modEvent_eq f h]; exact s.setEntry_but i _

/-! ## The end of an event -/

theorem State.withdrawClaims_firm (s : State) (i : EventIx) : Firm s (s.withdrawClaims i) := by
  unfold State.withdrawClaims
  exact .of_eq rfl rfl rfl rfl rfl rfl

theorem State.endStack_but (s : State) (i : EventIx) (cause : EndCause) : FirmBut i s (s.endStack i cause) := by
  unfold State.endStack
  split
  · exact (Firm.refl s).but i
  · next e he =>
    split
    · cases cause with
      | recovered =>
        dsimp only
        split
        · exact (s.queueCommand_firm _ _).but i
        · exact (Firm.refl s).but i
      | _ => exact (s.setEntry_but i _).trans ((State.queueCommand_firm _ _ _).but i)
    · exact (Firm.refl s).but i

theorem State.closeEvent_but (s : State) (i : EventIx) : FirmBut i s (s.closeEvent i) := by
  have hm := s.modEvent_but i fun e =>
    { e with ladderStep := 3, state := .closing, closeOrder := some s.events.closeCounter }
  refine hm.trans (Firm.but ((State.captureEnded_sheds _ _).firm.after ?_) i)
  exact .of_eq rfl rfl rfl rfl rfl rfl

theorem State.settleClosing_firm (s : State) (i : EventIx) : Firm s (s.settleClosing i) := by
  unfold State.settleClosing
  split
  · exact .refl s
  · next e he =>
    split
    · next hc =>
      refine State.enterReporting_firm fun e' he' => ?_
      rw [he] at he'
      rw [← Option.some.inj he', hc.1]
      rfl
    · exact .refl s

/-- What follows the closing of an event. -/
theorem State.settle_firm (s : State) (i : EventIx) : Firm s ((s.dispose i).settleClosing i) :=
  (s.dispose_firm i).trans (State.settleClosing_firm _ i)

theorem State.endEvent_but (s : State) (i : EventIx) (cause : EndCause) : FirmBut i s (s.endEvent i cause) := by
  unfold State.endEvent
  have h1 := ((s.dropRequest_firm i).trans (State.withdrawClaims_firm _ i)).but i
  have h2 := h1.trans (State.modEvent_but _ i (Event.ended cause))
  have h3 := h2.trans (State.endStack_but _ i cause)
  exact (h3.trans (State.closeEvent_but _ i)).trans ((State.settle_firm _ i).but i)

/-- The entry of a closed event: what steps 1 to 5 of R43 leave of it, where its stack's order is `order`. -/
def Event.closed (cause : EndCause) (order : StackOrder) (close : U32) (e : Event) : Event :=
  { e.ended cause with stackOrder := order, ladderStep := 3, state := .closing, closeOrder := some close }

/-- Step 4 of R43 changes the entry's stack order alone, to one that is not INJECT where the event does not recover, unless its
entry has been freed. -/
theorem State.endStack_entry {s : State} {i : EventIx} {e : Event} (cause : EndCause) (he : s.entry i = some e) :
    (s.endStack i cause).entry i = none ∨
      ∃ order, (s.endStack i cause).entry i = some { e with stackOrder := order } ∧
        (cause ≠ .recovered → order ≠ .inject) := by
  have hshed : ∀ (u : State) (k : Station) (c : CommandKind) (e' : Event), u.entry i = some e' →
      (u.queueCommand k c).entry i = none ∨ (u.queueCommand k c).entry i = some e' := fun u k c e' he' => by
    rcases (u.queueCommand_sheds k c).entry i with h | h
    · exact .inr (h.trans he')
    · exact .inl h.1
  simp only [State.endStack, he]
  split
  · next ho =>
    cases cause with
    | recovered =>
      dsimp only
      split
      · exact (hshed s _ _ e he).imp_right fun h => ⟨e.stackOrder, h, fun x => absurd rfl x⟩
      · exact .inr ⟨e.stackOrder, he, fun x => absurd rfl x⟩
    | _ =>
      refine (hshed (s.setEntry i (some { e with stackOrder := .bypass })) _ _ { e with stackOrder := .bypass }
        (by simp)).imp_right fun h => ?_
      exact ⟨.bypass, h, fun _ => by simp⟩
  · next ho => exact .inr ⟨e.stackOrder, he, fun _ => ho⟩

theorem State.endStack_free {s : State} {i : EventIx} (cause : EndCause) (he : s.entry i = none) :
    s.endStack i cause = s := by simp [State.endStack, he]

theorem State.closeEvent_entry (s : State) (i : EventIx) :
    (s.closeEvent i).entry i = (s.entry i).map fun e =>
      { e with ladderStep := 3, state := .closing, closeOrder := some s.events.closeCounter } := by
  have : (s.closeEvent i).events.entries = (s.modEvent i fun e =>
      { e with ladderStep := 3, state := .closing, closeOrder := some s.events.closeCounter }).events.entries := rfl
  rw [State.entry_congr this, State.entry_modEvent, if_pos rfl]

/-- An event closed by steps 1 to 5 of R43, from a sound entry. -/
theorem Event.Sound.closed {e : Event} (h : e.Sound) (cause : EndCause) (order : StackOrder) (close : U32) :
    (e.closed cause order close).Sound :=
  ⟨h.1, Nat.zero_le _, le_rfl, fun x => by simp [Event.closed, EventState.left] at x, h.5, h.6, by
    cases ho : e.outcome <;> simp [Event.closed, Event.ended, EventState.left, firstOutcome, ho]⟩

theorem Event.closed_endedAs (e : Event) (cause : EndCause) (order : StackOrder) (close : U32)
    (ho : cause ≠ .recovered → order ≠ .inject) : EndedAs cause e (e.closed cause order close) where
  state := .inl rfl
  outcome := by cases h : e.outcome <;> simp [Event.closed, Event.ended, firstOutcome, h]
  silence := by rintro rfl; rfl
  downstream := by rintro rfl; rfl
  step := rfl
  withdrawn := rfl
  order := ho

/-- An ended event stays so. -/
theorem EndedAs.becomes {cause : EndCause} {e e' e'' : Event} (h : EndedAs cause e e') (k : e'.Becomes e'') :
    EndedAs cause e e'' := by
  have ho : e'.state.opens = false := by rcases h.state with h | h <;> simp [h, EventState.opens]
  exact
    { state := by
        have := k.opens.trans ho
        revert this
        cases e''.state <;> simp [EventState.opens]
      outcome := (k.outcome ho).trans h.outcome
      silence := fun x => k.silence (h.silence x)
      downstream := fun x => k.downstream (h.downstream x)
      step := (k.step ho).trans h.step
      withdrawn := k.claims ho h.withdrawn
      order := fun x => (k.order ho).symm ▸ h.order x }

/-- What is left of the entry of an event that Bus Watch has ended: nothing, or the ended event, sound where it was. -/
theorem State.endEvent_entry {s : State} {i : EventIx} {e : Event} (cause : EndCause) (he : s.entry i = some e) :
    (s.endEvent i cause).entry i = none ∨
      ∃ e', (s.endEvent i cause).entry i = some e' ∧ EndedAs cause e e' ∧ (e.Sound → e'.Sound) := by
  have h1 : (((s.dropRequest i).withdrawClaims i).modEvent i (Event.ended cause)).entry i = some (e.ended cause) := by
    rw [State.entry_modEvent, if_pos rfl]
    exact congrArg (Option.map _) he
  unfold State.endEvent
  dsimp only
  generalize ((s.dropRequest i).withdrawClaims i).modEvent i (Event.ended cause) = u at h1 ⊢
  have hfirm := State.settle_firm ((u.endStack i cause).closeEvent i) i
  have hentry := hfirm.entry i
  rw [State.closeEvent_entry] at hentry
  rcases State.endStack_entry cause h1 with h2 | ⟨order, h2, ho⟩
  · rw [h2] at hentry
    cases h3 : (((u.endStack i cause).closeEvent i).dispose i).settleClosing i |>.entry i with
    | none => exact .inl rfl
    | some e' => rw [h3] at hentry; cases hentry
  · rw [h2] at hentry
    cases h3 : (((u.endStack i cause).closeEvent i).dispose i).settleClosing i |>.entry i with
    | none => exact .inl rfl
    | some e' =>
      rw [h3] at hentry
      cases hentry with
      | kept hb =>
        exact .inr ⟨e', rfl, (e.closed_endedAs cause order _ ho).becomes hb, fun hs => hb.sound (hs.closed cause order _)⟩

theorem State.endEvent_free {s : State} {i : EventIx} (cause : EndCause) (he : s.entry i = none) :
    (s.endEvent i cause).entry i = none := by
  have h1 : (((s.dropRequest i).withdrawClaims i).modEvent i (Event.ended cause)).entry i = none := by
    rw [State.entry_modEvent, if_pos rfl]
    exact congrArg (Option.map _) he
  unfold State.endEvent
  dsimp only
  generalize ((s.dropRequest i).withdrawClaims i).modEvent i (Event.ended cause) = u at h1 ⊢
  rw [State.endStack_free cause h1]
  have hentry := (State.settle_firm (u.closeEvent i) i).entry i
  rw [State.closeEvent_entry, h1] at hentry
  cases h3 : ((u.closeEvent i).dispose i).settleClosing i |>.entry i with
  | none => rfl
  | some e' => rw [h3] at hentry; cases hentry

/-- No request of an ended event is left. -/
theorem State.endEvent_requests (s : State) (i : EventIx) (cause : EndCause) :
    ∀ q ∈ (s.endEvent i cause).pool.grantQueue, q.event ≠ i := by
  unfold State.endEvent
  have h2 := ((State.withdrawClaims_firm (s.dropRequest i) i).but i).trans (State.modEvent_but _ i (Event.ended cause))
  have h3 := (h2.trans (State.endStack_but _ i cause)).trans (State.closeEvent_but _ i)
  have h4 := h3.trans ((State.settle_firm _ i).but i)
  exact fun q hq => s.dropRequest_none i q (h4.queue.subset hq)

/-! ## The end of a sag -/

@[simp] theorem State.setChannel_channel (s : State) (b : Bus) : s.setChannel b (s.channel b) = s := by
  simp [State.setChannel, State.channel]

@[simp] theorem State.setChannel_setChannel (s : State) (b : Bus) (c d : BusChannel) :
    (s.setChannel b c).setChannel b d = s.setChannel b d := by
  simp [State.setChannel]

@[simp] theorem State.modChannel_setChannel (s : State) (b : Bus) (c : BusChannel) (f : BusChannel → BusChannel) :
    (s.setChannel b c).modChannel b f = s.setChannel b (f c) := by
  simp [State.modChannel]

/-- The channel after an untracked sag has been counted and has ended (R13). -/
def BusChannel.tallied (c : BusChannel) : BusChannel :=
  { c with
    untracked := false
    counters.untrackedSags := c.counters.untrackedSags + if c.untracked then 1 else 0 }

theorem BusChannel.tallied_eq {c : BusChannel} (h : c.untracked = false) : c.tallied = c := by
  obtain ⟨⟩ := c
  cases h
  simp [BusChannel.tallied]

/-- The channel after the end of its sag (R13, R15), but for alarms. -/
def BusChannel.sagEnded (c : BusChannel) : BusChannel := { c.tallied with openEvent := none }

/-- An untracked sag's end touches its channel's count and mark alone. -/
theorem State.endUntracked_eq (s : State) (b : Bus) : s.endUntracked b = s.setChannel b (s.channel b).tallied := by
  unfold State.endUntracked
  split
  · next h => simp [State.countBus, State.modChannel, BusChannel.tallied, h]
  · next h => rw [BusChannel.tallied_eq (by simpa using h), State.setChannel_channel]

@[simp] theorem State.entry_endUntracked (s : State) (b : Bus) (i : EventIx) : (s.endUntracked b).entry i = s.entry i := by
  rw [State.endUntracked_eq, State.entry_setChannel]

theorem State.channel_endUntracked (s : State) (b d : Bus) :
    (s.endUntracked b).channel d = if b = d then (s.channel b).tallied else s.channel d := by
  rw [State.endUntracked_eq, State.channel_setChannel]

theorem State.endSag_none {s : State} {b : Bus} (cause : EndCause) (h : (s.channel b).openEvent = none) :
    s.endSag b cause = s.endUntracked b := by
  simp [State.endSag, State.channel_endUntracked, BusChannel.tallied, h]

theorem State.endSag_some {s : State} {b : Bus} {i : EventIx} (cause : EndCause) (h : (s.channel b).openEvent = some i) :
    s.endSag b cause = ((s.endUntracked b).endEvent i cause).modChannel b fun c => { c with openEvent := none } := by
  simp [State.endSag, State.channel_endUntracked, BusChannel.tallied, h]

theorem State.endSag_channel (s : State) (b : Bus) (cause : EndCause) :
    (s.channel b).sagEnded.AlarmedTo ((s.endSag b cause).channel b) := by
  cases h : (s.channel b).openEvent with
  | none =>
    have hc : (s.channel b).sagEnded = (s.channel b).tallied := by simp [BusChannel.sagEnded, BusChannel.tallied, h]
    rw [State.endSag_none cause h, State.channel_endUntracked, if_pos rfl, hc]
    exact .refl _
  | some i =>
    rw [State.endSag_some cause h, State.channel_modChannel, if_pos rfl]
    obtain ⟨x, y, z, hc⟩ := ((s.endUntracked b).endEvent_but i cause).channel b
    rw [hc, State.channel_endUntracked, if_pos rfl]
    exact ⟨x, y, z, rfl⟩

theorem State.endSag_other {s : State} {b d : Bus} (cause : EndCause) (hd : d ≠ b) :
    (s.channel d).AlarmedTo ((s.endSag b cause).channel d) := by
  have hu : (s.endUntracked b).channel d = s.channel d := by rw [State.channel_endUntracked, if_neg (Ne.symm hd)]
  cases h : (s.channel b).openEvent with
  | none => rw [State.endSag_none cause h, hu]; exact .refl _
  | some i =>
    rw [State.endSag_some cause h, State.channel_modChannel, if_neg (Ne.symm hd), ← hu]
    exact ((s.endUntracked b).endEvent_but i cause).channel d

theorem State.entry_endSag {s : State} {b : Bus} {i : EventIx} (cause : EndCause) (h : (s.channel b).openEvent = some i)
    (j : EventIx) : (s.endSag b cause).entry j = ((s.endUntracked b).endEvent i cause).entry j := by
  rw [State.endSag_some cause h, State.entry_modChannel]

/-- The entries of events other than the bus's open event, at the end of its sag. -/
theorem State.endSag_entry {s : State} {b : Bus} {j : EventIx} (cause : EndCause) (h : (s.channel b).openEvent ≠ some j) :
    Evolves (s.entry j) ((s.endSag b cause).entry j) := by
  cases hc : (s.channel b).openEvent with
  | none => rw [State.endSag_none cause hc, State.entry_endUntracked]; exact .refl _
  | some i =>
    rw [State.entry_endSag cause hc, ← State.entry_endUntracked s b j]
    exact ((s.endUntracked b).endEvent_but i cause).entry j fun hji => h (hji ▸ hc)

/-- The entry of the bus's open event, at the end of its sag. -/
theorem State.endSag_ended {s : State} {b : Bus} {i : EventIx} {e : Event} (cause : EndCause)
    (h : (s.channel b).openEvent = some i) (he : s.entry i = some e) :
    (s.endSag b cause).entry i = none ∨
      ∃ e', (s.endSag b cause).entry i = some e' ∧ EndedAs cause e e' ∧ (e.Sound → e'.Sound) := by
  rw [State.entry_endSag cause h]
  exact State.endEvent_entry cause (by rw [State.entry_endUntracked, he])

theorem State.endSag_closeCounter {s : State} {b : Bus} {i : EventIx} (cause : EndCause)
    (h : (s.channel b).openEvent = some i) : (s.endSag b cause).events.closeCounter = s.events.closeCounter + 1 := by
  rw [State.endSag_some cause h]
  simp only [State.modChannel_frame, State.endEvent, State.settleClosing_frame, State.dispose_frame]
  rw [show ∀ u : State, (u.closeEvent i).events.closeCounter = u.events.closeCounter + 1 from fun _ => rfl]
  simp

/-- The end of a sag, as the statements name it, kept by what follows and touches neither channel `b`'s sag nor the orders. -/
theorem State.endSag_sagEnded {s u t : State} {b : Bus} (cause : EndCause) (hf : ∀ i, u.entry i = s.entry i)
    (hc : (u.channel b).openEvent = (s.channel b).openEvent) (hn : (u.channel b).untracked = (s.channel b).untracked)
    (hk : (u.channel b).counters.untrackedSags = (s.channel b).counters.untrackedSags)
    (hcc : u.events.closeCounter = s.events.closeCounter)
    (he : ∀ i, Evolves ((u.endSag b cause).entry i) (t.entry i))
    (ho : (t.channel b).openEvent = none) (hu : (t.channel b).untracked = false)
    (hs : (t.channel b).counters.untrackedSags = ((u.endSag b cause).channel b).counters.untrackedSags)
    (ht : t.events.closeCounter = (u.endSag b cause).events.closeCounter) : SagEnded cause b s t where
  openEvent := ho
  untracked := hu
  counted := by
    obtain ⟨x, y, z, h⟩ := u.endSag_channel b cause
    rw [hs, h, ← hk, ← hn]
    rfl
  ended := fun i e hi hie e' he' => by
    rcases State.endSag_ended cause (hc.trans hi) ((hf i).trans hie) with h | ⟨e1, h1, h2, -⟩
    · have := he i
      rw [h, he'] at this
      cases this
    · have := he i
      rw [h1, he'] at this
      cases this with
      | kept hb => exact h2.becomes hb
  order := fun i e hi _ => by rw [ht, State.endSag_closeCounter cause (hc.trans hi), hcc]

end Sys2Proof.Machine
end

section
/-! SUPPORT. The operations of the store, the Stack Command Channel, the Envelope and Injection Units and the ring ports, by the
relations `Firm`, `Quiet` and `Kept`. -/

namespace Sys2Proof.Machine

theorem foldl_kept {α : Type} {f : State → α → State} (h : ∀ s x, Kept s (f s x)) (l : List α) (s : State) :
    Kept s (l.foldl f s) := foldl_relates Kept.refl Kept.trans h l s

/-! ## The store -/

theorem State.settleWithNothing_firm (s : State) (r : ReleaseIx) (c : ReleaseClaim) : Firm s (s.settleWithNothing r c) :=
  State.modEvent_firm (fun e _ => e.becomes_filterClaims _) fun _ _ => id

theorem State.dissolve_firm (s : State) (r : ReleaseIx) : Firm s (s.dissolve r) := by
  unfold State.dissolve
  split
  · exact .refl s
  · exact (State.duePass_firm _).after ((State.setRelease_firm _ _ _).after
      (Firm.foldl (fun s c => s.settleWithNothing_firm r c) _ _))

theorem State.cutEvents_firm (l : List EventIx) (left : Nat) (s : State) : Firm s (State.cutEvents l left s).1 := by
  induction l generalizing left s with
  | nil => exact .refl s
  | cons i l ih =>
    unfold State.cutEvents
    split
    · exact .refl s
    · exact (ih _ _).after (State.modEvent_firm (fun _ _ => .of_skeleton rfl) fun _ _ => id)

theorem State.cutReleases_firm (l : List ReleaseIx) (left : Nat) (s : State) : Firm s (State.cutReleases l left s).1 := by
  induction l generalizing left s with
  | nil => exact .refl s
  | cons r l ih =>
    unfold State.cutReleases
    split
    · exact .refl s
    · exact (ih _ _).after (s.modRelease_firm _ _)

theorem State.setFree_firm (s : State) (timestamp : U32) (voltage : Nat) : Firm s (s.setFree timestamp voltage).1 := by
  unfold State.setFree
  dsimp only
  split
  · exact .of_eq rfl rfl rfl rfl rfl rfl
  · have hc := (State.cutEvents_firm s.eventsToCut (s.unspentSum + s.releaseSum - s.pool.budget) s).trans
      (State.cutReleases_firm (State.cutEvents s.eventsToCut (s.unspentSum + s.releaseSum - s.pool.budget) s).1.releasesToCut
        (State.cutEvents s.eventsToCut (s.unspentSum + s.releaseSum - s.pool.budget) s).2.1 _)
    exact (State.report_firm _ _).after (hc.same rfl rfl rfl rfl rfl rfl)

/-- An event that reaches CUT is INJECTING or HELD. -/
theorem State.reachesCut_state {s : State} {i : EventIx} (h : s.reachesCut i = true) {e : Event}
    (he : s.entry i = some e) : e.state.opens = true ∧ e.state ≠ .requesting := by
  simp only [State.reachesCut, he, Bool.and_eq_true, Bool.or_eq_true, decide_eq_true_eq] at h
  rcases h.2 with h | h
  · simp [h, EventState.opens]
  · simp [h.1, EventState.opens]

theorem State.cutOutcome_firm (s : State) (i : EventIx) : Firm s (s.cutOutcome i) := by
  unfold State.cutOutcome
  split
  · next h => exact State.bypass_firm fun e he => State.reachesCut_state h he
  · exact .refl s

theorem State.cutConsequences_firm (s : State) (cut : List EventIx) : Firm s (s.cutConsequences cut) :=
  (Firm.foldl State.endSpentWait_firm _ _).after (Firm.foldl State.cutOutcome_firm _ s)

theorem Event.holdForStore_state (e : Event) : e.holdForStore.state = e.state := by
  unfold Event.holdForStore
  split <;> rfl

theorem Event.becomes_holdForStore (e : Event) : e.Becomes e.holdForStore := by
  unfold Event.holdForStore
  split
  · exact .of_skeleton rfl
  · exact .refl e

theorem State.entry_holdForStore (s : State) (i : EventIx) :
    s.holdForStore.entry i = (s.entry i).map Event.holdForStore :=
  getElem_eachMember _ _ i

theorem State.holdForStore_firm (s : State) : Firm s s.holdForStore where
  toCalm := .of_eq (by simp) (by simp) (by simp) (by simp) (by simp)
  entry := fun i => by
    rw [State.entry_holdForStore]
    cases s.entry i with
    | none => exact .free
    | some e => exact .kept e.becomes_holdForStore
  requesting := fun i e he hr => ⟨_, by rw [State.entry_holdForStore, he]; rfl, by rw [Event.holdForStore_state, hr]⟩

theorem State.freeOfStore_firm (cut : List EventIx) (s : State) (i : EventIx) : Firm s (State.freeOfStore cut s i) := by
  unfold State.freeOfStore
  split
  · exact .refl s
  · next e he =>
    split
    · have hf : Firm s (s.setEntry i (some { e with held.store := false })) := State.setEntry_firm he (.of_skeleton rfl) id
      dsimp only
      split
      · exact hf
      · exact (State.leaveHeld_firm _ _).after hf
    · exact .refl s

/-- The store silence one-shot started afresh. -/
theorem State.startStoreSilence_kept {s t : State} {n : Nat} (hn : t.now = s.now) (hc : t.channels = s.channels)
    (he : t.events = s.events) (hq : t.pool.grantQueue = s.pool.grantQueue)
    (hs : t.pool.storeSilence = some (s.now + n)) (hv : t.views = s.views) : Kept s t where
  now := hn
  channel := fun b => State.channel_congr hc b ▸ .refl _
  entry := fun i => .of_eq (State.entry_congr (by rw [he]) i)
  timers := by
    rintro ⟨x, m⟩ hx
    cases x with
    | silence b => left; simpa [State.channel_congr hc] using hx
    | store =>
      right
      rw [State.store_mem_timers, hs] at hx
      exact Option.some.inj hx ▸ Nat.le_add_right _ _
    | acknowledgement k =>
      left
      rw [State.acknowledgement_mem_timers] at hx ⊢
      rwa [State.view_congr hv] at hx
    | wait kind i =>
      left
      rw [State.wait_mem_timers] at hx ⊢
      rwa [hq] at hx

theorem State.enterLive_kept (s : State) (p : StoreParameters) (cut : List EventIx) (timestamp : U32) (voltage : Nat) :
    Kept s (s.enterLive p cut timestamp voltage) := by
  have hs : Kept s { s with pool.storeState := .live, pool.storeSilence := some (s.now + p.silenceTimeout) } :=
    State.startStoreSilence_kept rfl rfl rfl rfl rfl rfl
  unfold State.enterLive
  dsimp only
  split
  · exact hs
  · exact ((State.report_firm _ _).after (Firm.foldl (State.freeOfStore_firm cut) _ _)).kept.after hs

theorem State.dissolutionConsequences_firm (s : State) (gone : List Release) : Firm s (s.dissolutionConsequences gone) := by
  have h := (Firm.foldl (fun s (x : Release) => s.availabilityCheck_firm x.stack) gone _).after
    (Firm.foldl (fun s (x : Release) => Firm.foldl (fun s (c : ReleaseClaim) => s.settleBorrower_firm c.event) x.claims s)
      gone s)
  unfold State.dissolutionConsequences
  dsimp only
  split
  · exact h
  · exact (State.offerEntries_firm _).after h

theorem State.confirmStore_kept (s : State) (p : StoreParameters) (timestamp : U32) (voltage : Nat) :
    Kept s (s.confirmStore p timestamp voltage) := by
  let budgeted : State := { s with pool.inEffect := some p, pool.budget := storeBudget p voltage }
  have hb : Firm s budgeted := .of_eq rfl rfl rfl rfl rfl rfl
  let undrawn : State := { budgeted.unresolvedOldestFirst.foldl State.dissolve budgeted with pool.drawn := 0 }
  have hu : Firm s undrawn :=
    ((Firm.foldl State.dissolve_firm budgeted.unresolvedOldestFirst budgeted).after hb).same rfl rfl rfl rfl rfl rfl
  have hl := (State.enterLive_kept _ p (undrawn.setFree timestamp voltage).2 timestamp voltage).after
    ((State.setFree_firm undrawn timestamp voltage).after hu).kept
  exact ((State.duePass_firm _).after ((State.dissolutionConsequences_firm _ _).after
    (State.cutConsequences_firm _ _))).kept.after hl

theorem State.countPort_firm (s : State) (f : PortCounters → PortCounters) : Firm s (s.countPort f) :=
  .of_eq rfl rfl rfl rfl rfl rfl

theorem State.takeStore_kept (s : State) (x : HandedStore) : Kept s (s.takeStore x) := by
  unfold State.takeStore
  dsimp only
  split
  · exact (s.countPort_firm _).kept
  · split
    · exact (s.countPort_firm _).kept
    · split
      · exact Firm.kept (.of_eq rfl rfl rfl rfl rfl rfl)
      · refine (State.confirmStore_kept _ _ _ _).after (Firm.kept ?_)
        exact .of_eq rfl rfl rfl rfl rfl rfl

/-- The store silence one-shot stopped. -/
theorem State.stopStoreSilence_firm {s t : State} (hn : t.now = s.now) (hc : t.channels = s.channels)
    (he : t.events = s.events) (hq : t.pool.grantQueue = s.pool.grantQueue) (hs : t.pool.storeSilence = none)
    (hv : t.views = s.views) : Firm s t where
  now := hn
  channel := fun b => State.channel_congr hc b ▸ .refl _
  queue := hq ▸ .refl _
  timers := by
    rintro ⟨x, m⟩ hx
    cases x with
    | silence b => simpa [State.channel_congr hc] using hx
    | store => simp [hs] at hx
    | acknowledgement k =>
      rw [State.acknowledgement_mem_timers] at hx ⊢
      rwa [State.view_congr hv] at hx
    | wait kind i =>
      rw [State.wait_mem_timers] at hx ⊢
      rwa [hq] at hx
  entry := fun i => .of_eq (State.entry_congr (by rw [he]) i)
  requesting := fun i e h hr => ⟨e, by rw [State.entry_congr (s := s) (by rw [he]) i, h], hr⟩

theorem State.storeExpires_firm (s : State) : Firm s s.storeExpires := by
  unfold State.storeExpires
  split
  · refine (State.report_firm _ _).after ((State.holdForStore_firm _).after ?_)
    exact State.stopStoreSilence_firm rfl rfl rfl rfl rfl rfl
  · exact .refl s

theorem State.storeCommitted_firm (s : State) : Firm s s.storeCommitted := by
  unfold State.storeCommitted
  split
  · refine (State.report_firm _ _).after ?_
    exact .of_eq rfl rfl rfl rfl rfl rfl
  · exact .refl s

/-! ## The Stack Command Channel -/

theorem EventState.opens_of_protected {x : EventState} (h : x.protected = true) : x.opens = true := by
  revert h
  cases x <;> simp [EventState.protected, EventState.opens]

theorem State.faultEvent_quiet (k : Station) (s : State) (i : EventIx) : Quiet s (State.faultEvent k s i) := by
  unfold State.faultEvent
  split
  · exact .refl s
  · next e he =>
    split
    · split
      · next hp =>
        refine Quiet.after (State.bypass_quiet fun e' he' => ?_) (s.addMark_firm i .stackFault).quiet
        obtain ⟨e1, he1, hb⟩ := (he' ▸ (s.addMark_firm i .stackFault).entry i).before
        rw [he] at he1
        cases he1
        exact hb.opens.trans (EventState.opens_of_protected hp)
      · exact (s.addMark_firm i .stackFault).quiet
    · exact .refl s

theorem State.faultEffects_quiet (s : State) (k : Station) : Quiet s (s.faultEffects k) := by
  unfold State.faultEffects
  refine (Quiet.foldl (State.faultEvent_quiet k) _ _).after (Firm.quiet ?_)
  split
  · exact s.modRelease_firm _ _
  · exact .refl s

theorem State.reportFault_firm (s : State) (k : Station) (expired : Option Command) (flushed : Nat)
    (event : Option EventIx) (release : Option ReleaseIx) : Firm s (s.reportFault k expired flushed event release) := by
  unfold State.reportFault
  refine (State.report_firm _ _).after ?_
  split
  · exact s.addAlarm_firm _ (.inr (.inl rfl))
  · exact .refl s

theorem State.trip_quiet (s : State) (k : Station) : Quiet s (s.trip k) := by
  unfold State.trip
  dsimp only
  split
  · exact .refl s
  · have hv : Firm s (s.setView k { s.view k with tripped := true }) := State.setView_firm fun _ ho _ _ => ho
    split
    · exact ((State.reportFault_firm _ _ _ _ _ _).after hv).quiet
    · have hf := (State.faultEffects_quiet _ k).after hv.quiet
      refine (State.reportFault_firm _ _ _ _ _ _).quiet.after ?_
      split
      · exact (State.queueCommand_firm _ _ _).quiet.after hf
      · exact hf

/-- What is left of an outstanding list was in it. -/
theorem acknowledge_subset {q : Seq} {l rest : List Outstanding} (h : acknowledge q l = some rest) : rest ⊆ l := by
  induction l with
  | nil => cases h
  | cons o l ih =>
    unfold acknowledge at h
    split at h
    · split at h
      · cases h; exact List.subset_cons_self _ _
      · exact List.subset_cons_of_subset _ (ih h)
    · exact List.subset_cons_of_subset _ (ih h)

theorem State.placeHeld_firm (s : State) (k : Station) : Firm s (s.placeHeld k) := (s.placeHeld_sheds k).firm

theorem State.settleAcknowledged_firm (s : State) (k : Station) (q : Seq) : Firm s (s.settleAcknowledged k q) := by
  unfold State.settleAcknowledged
  split
  · exact .refl s
  · next rest h =>
    exact (State.placeHeld_firm _ _).after (State.modView_firm fun o ho _ _ => acknowledge_subset h ho)

/-- A view changed, its new timers not come to their expiry. -/
theorem State.modView_kept {s : State} {k : Station} {f : StackView → StackView}
    (h : ∀ o ∈ (f (s.view k)).outstanding, ∀ n, o.standing = .sent (some n) →
      o ∈ (s.view k).outstanding ∨ s.now ≤ n) : Kept s (s.modView k f) where
  now := rfl
  channel := fun _ => .refl _
  entry := fun _ => .refl _
  timers := by
    rintro ⟨x, m⟩ hx
    cases x with
    | silence b => rw [State.silence_mem_timers] at hx ⊢; exact .inl hx
    | store => rw [State.store_mem_timers] at hx ⊢; exact .inl hx
    | wait kind i => rw [State.wait_mem_timers] at hx ⊢; exact .inl hx
    | acknowledgement j =>
      rw [State.acknowledgement_mem_timers] at hx ⊢
      obtain ⟨o, ho, hm⟩ := hx
      rw [State.view_modView] at ho
      split at ho
      · next hk =>
        subst hk
        exact (h o ho m hm).imp_left fun h => ⟨o, h, hm⟩
      · exact .inl ⟨o, ho, hm⟩

theorem State.settleFaults_kept (s : State) (k : Station) (x : StackState) : Kept s (s.settleFaults k x) := by
  unfold State.settleFaults
  split
  · exact (s.trip_quiet k).kept
  · split
    · refine State.modView_kept fun o ho n hn => ?_
      simp only [StackView.recover, List.mem_map] at ho
      obtain ⟨p, hp, rfl⟩ := ho
      unfold Outstanding.startTimer at hn ⊢
      split at hn
      · right
        simp only [Standing.sent.injEq, Option.some.injEq] at hn
        exact hn ▸ Nat.le_add_right _ _
      · exact .inl hp
      · exact .inl hp
    · exact .refl s

theorem State.tidyStack_firm (s : State) (k : Station) (x : StackState) : Firm s (s.tidyStack k x) := by
  unfold State.tidyStack
  dsimp only
  split
  · exact s.queueCommand_firm _ _
  · exact .refl s

theorem State.takeNotice_firm (s : State) (n : Notice) : Firm s (s.takeNotice n) := by
  have hc : Firm s (match s.releaseOf n.stack with
      | none => s
      | some r => match s.release r with
        | none => s
        | some x => if n.confirms x then s.confirmRelease r else s) := by
    split
    · exact .refl s
    · split
      · exact .refl s
      · split
        · exact s.confirmRelease_firm _
        · exact .refl s
  unfold State.takeNotice
  dsimp only
  split
  · exact (State.availabilityCheck_firm _ _).after hc
  · exact hc

theorem State.notify_firm (s : State) (n : Notice) (turn : NoticeTurn) : Firm s (s.notify n turn) := by
  unfold State.notify
  split
  · exact s.takeNotice_firm n
  · exact .of_eq rfl rfl rfl rfl rfl rfl

theorem State.statusSteps_kept (s : State) (k : Station) (x : HandedStatus) (turn : NoticeTurn) :
    Kept s (s.statusSteps k x turn) := by
  unfold State.statusSteps
  exact (State.tidyStack_firm _ _ _).kept.after ((State.notify_firm _ _ _).kept.after ((State.settleFaults_kept _ _ _).after
    (Firm.kept (Firm.after (State.modView_firm fun _ ho _ _ => ho) (s.settleAcknowledged_firm _ _)))))

theorem State.takeStatus_kept (s : State) (x : HandedStatus) (turn : NoticeTurn) : Kept s (s.takeStatus x turn) := by
  unfold State.takeStatus
  dsimp only
  split
  · exact (s.countPort_firm _).kept
  · split
    · exact s.statusSteps_kept _ _ _
    · exact (s.countPort_firm _).kept

theorem State.flush_firm (s : State) (k : Station) : Firm s (s.flush k) := by
  unfold State.flush
  have hf : Firm s (s.modView k StackView.flushed) := State.modView_firm fun o ho => by simp [StackView.flushed] at ho
  exact (State.queueCommand_firm _ _ _).after (hf.same rfl rfl rfl rfl rfl rfl)

theorem State.ackExpires_quiet (s : State) (k : Station) : Quiet s (s.ackExpires k) := by
  unfold State.ackExpires
  dsimp only
  split
  · exact .refl s
  · split
    · exact ((State.reportFault_firm _ _ _ _ _ _).after (s.flush_firm k)).quiet
    · exact (State.reportFault_firm _ _ _ _ _ _).quiet.after ((State.faultEffects_quiet _ k).after (s.flush_firm k).quiet)

/-! ## The Envelope Unit -/

theorem Event.nextBreachRun_le {e : Event} (below : Bool) (h : e.breachRun ≤ e.copy.envelope.breachConfirm) :
    e.nextBreachRun below ≤ e.copy.envelope.breachConfirm := by
  unfold Event.nextBreachRun
  split
  · split <;> omega
  · exact Nat.zero_le _

theorem Event.becomes_exposed (e : Event) (square : Nat) (below : Bool) : e.Becomes (e.exposed square below) :=
  ⟨rfl, rfl, id, fun k => ⟨k.1, k.2, k.3, k.4, k.5, e.nextBreachRun_le below k.6, k.7⟩, fun _ => rfl, fun _ => rfl,
    fun _ => rfl, fun _ => id, id, id⟩

theorem State.breach_firm {s : State} {i : EventIx} {e : Event} (he : ∀ e', s.entry i = some e' → e'.state = e.state) :
    Firm s (s.breach i e) := by
  have hm : Firm s ((s.addMark i .breach).addAlarm e.bus .breach) :=
    (State.addAlarm_firm _ _ (.inl rfl)).after (s.addMark_firm i .breach)
  unfold State.breach
  dsimp only
  split
  · next h =>
    refine Firm.after (State.bypass_firm fun e' he' => ?_) hm
    change (s.addMark i .breach).entry i = some e' at he'
    rw [State.addMark, State.entry_modEvent, if_pos rfl, Option.map_eq_some_iff] at he'
    obtain ⟨e1, he1, rfl⟩ := he'
    rcases h.2 with h | h <;> simp [he e1 he1, h, EventState.opens]
  · exact hm

theorem State.judge_firm {s : State} {i : EventIx} {e : Event} (he : s.entry i = some e) (f : SenseFrame) :
    Firm s (s.judge i e f) := by
  unfold State.judge
  dsimp only
  generalize e.copy.envelope.undercut _ _ = below
  have hx := State.setEntry_firm he (e.becomes_exposed (s.residual e f).minSquare below) id
  split
  · refine Firm.after (State.breach_firm fun e' he' => ?_) hx
    simp only [State.entry_setEntry, if_true, Option.some.injEq] at he'
    rw [← he']
    rfl
  · exact hx

theorem State.envelopeTakes_firm (s : State) (f : AcceptedFrame) : Firm s (s.envelopeTakes f) := by
  unfold State.envelopeTakes
  split
  · exact .refl s
  · split
    · exact .refl s
    · next e he =>
      split
      · exact State.judge_firm he _
      · exact .refl s

/-! ## The Injection Unit -/

theorem State.meterRelease_firm (s : State) (r : ReleaseIx) (x : Release) (increment : Nat) :
    Firm s (s.meterRelease r x increment) := .of_eq rfl rfl rfl rfl rfl rfl

theorem Event.becomes_metered (e : Event) (increment : Nat) (timestamp : U32) : e.Becomes (e.metered increment timestamp) := by
  unfold Event.metered
  split
  · exact (e.becomes_addMark .sat).trans (.of_skeleton rfl)
  · exact .of_skeleton rfl

theorem State.setRate_firm (s : State) (i : EventIx) (x : Option Nat) : Firm s (s.setRate i x) :=
  .of_eq rfl rfl rfl rfl rfl rfl

theorem State.meterEvent_firm {s : State} {i : EventIx} {e : Event} (he : s.entry i = some e) (increment micros : Nat)
    (timestamp : U32) : Firm s (s.meterEvent i e increment micros timestamp) := by
  have hp := State.putRecounted_firm he (e.becomes_metered increment timestamp) id
  unfold State.meterEvent
  refine (State.endSpentWait_firm _ _).after ?_
  split
  · exact (State.setRate_firm _ _ _).after hp
  · exact hp

theorem State.meterInto_firm (s : State) (k : Station) (increment micros : Nat) (timestamp : U32) :
    Firm s (s.meterInto k increment micros timestamp) := by
  unfold State.meterInto
  split
  · split
    · split
      · exact s.meterRelease_firm _ _ _
      · exact .refl s
    · exact .refl s
  · split
    · exact .refl s
    · split
      · next e he =>
        split
        · exact State.meterEvent_firm he _ _ _
        · exact .refl s
      · exact .refl s

theorem State.meterStack_firm (f : AcceptedFrame) (micros : Nat) (s : State) (k : Station) :
    Firm s (State.meterStack f micros s k) := by
  unfold State.meterStack
  split
  · exact s.meterInto_firm _ _ _ _
  · exact .refl s

theorem State.meter_firm (s : State) (f : AcceptedFrame) : Firm s (s.meter f) :=
  Firm.foldl (State.meterStack_firm f _) _ _

theorem State.placeReference_firm (s : State) (k : Station) (r : ReferencePart) : Firm s (s.placeReference k r) :=
  (s.placeReference_sheds k r).firm

/-- The reference emitted for an entry that is, or is about to be, `e'`. -/
theorem State.emitReference_firm {s : State} {i : EventIx} {e e' : Event} (he : s.entry i = some e) (hb : e.Becomes e')
    (hr : e.state = .requesting → e'.state = .requesting) (f : SenseFrame) (t : Nat) :
    Firm s (s.emitReference i e' f t) := by
  unfold State.emitReference
  refine (State.placeReference_firm _ _ _).after (State.setEntry_firm he (hb.trans (.of_skeleton ?_)) hr)
  rfl

theorem State.setEntry_setEntry (s : State) (i : EventIx) (o p : Option Event) :
    (s.setEntry i o).setEntry i p = s.setEntry i p := by
  simp [State.setEntry]

/-- An event one step down, short of the last step. -/
theorem Event.becomes_steppedDown {e : Event} (ho : e.state = .injecting) (h : ¬ 3 ≤ e.steppedDown.ladderStep) :
    e.Becomes e.steppedDown := by
  have hl : e.ladderStep + 1 ≤ 2 := by simp only [Event.steppedDown] at h; omega
  exact ⟨rfl, rfl, id, fun k => ⟨k.1, k.2, by simp only [Event.steppedDown]; omega, fun _ => hl,
    fun n hn => by simp only [Event.steppedDown, Option.some.injEq] at hn; omega, k.6, k.7⟩, fun _ => rfl,
    by simp [ho, EventState.opens], fun _ => rfl, fun _ => id, id, id⟩

/-- A sound event leaves its path from the last step down. -/
theorem Event.becomes_exhausted {e : Event} (ho : e.state = .injecting) :
    e.Becomes { e.steppedDown with
      state := .bypassed, outcome := firstOutcome e.outcome .exhausted, ladderStep := 3, held := .empty } where
  bus := rfl
  opens := by rw [ho]; rfl
  asks := fun x => by simp at x
  sound := fun k => ⟨k.1, k.2, le_rfl, fun x => by simp [EventState.left] at x, fun n hn => by
      have := k.4 (by rw [ho]; rfl)
      simp only [Event.steppedDown, Option.some.injEq] at hn
      omega,
    k.6, by cases e.outcome <;> simp [EventState.left, firstOutcome]⟩
  outcome := by simp [ho, EventState.opens]
  step := by simp [ho, EventState.opens]
  order := by simp [ho, EventState.opens]
  claims := by simp [ho, EventState.opens]
  silence := id
  downstream := id

theorem State.leavePath_eq {s : State} {i : EventIx} {e : Event} (he : s.entry i = some e) (cause : EventOutcome) :
    s.leavePath i cause = (s.dropRequest i).setEntry i (some
      { e with state := .bypassed, outcome := firstOutcome e.outcome cause, ladderStep := 3, held := .empty }) := by
  rw [State.leavePath, State.modEvent_eq _ (e := e)]
  exact he

theorem State.stepAndEmit_firm {s : State} {i : EventIx} {e : Event} (he : s.entry i = some e) (ho : e.state = .injecting)
    (f : SenseFrame) : Firm s (s.stepAndEmit i e f) := by
  have hn : e.state = .requesting → False := fun h => by simp [ho] at h
  unfold State.stepAndEmit
  dsimp only
  split
  · split
    · refine (State.bypass_after _ i .exhausted false).after ?_
      rw [State.leavePath_eq (e := e.steppedDown) (by simp)]
      have : ((s.setEntry i (some e.steppedDown)).dropRequest i) = (s.dropRequest i).setEntry i (some e.steppedDown) := rfl
      rw [this, State.setEntry_setEntry]
      exact Firm.after (State.setEntry_firm (e := e) he (Event.becomes_exhausted ho) fun h => (hn h).elim)
        (s.dropRequest_firm i)
    · next h3 =>
      have hb := Event.becomes_steppedDown ho h3
      exact Firm.after (State.emitReference_firm (e := e.steppedDown) (by simp) (.refl _) id f _)
        (State.setEntry_firm he hb fun h => (hn h).elim)
  · exact State.emitReference_firm he (.refl e) id f _

theorem State.bringTopup_firm (s : State) (i : EventIx) (e : Event) : Firm s (s.bringTopup i e) := by
  unfold State.bringTopup
  split
  · exact .of_eq rfl rfl rfl rfl rfl rfl
  · exact .refl s

theorem State.entry_bringTopup (s : State) (i j : EventIx) (e : Event) : (s.bringTopup i e).entry j = s.entry j :=
  State.entry_congr (by simp) j

theorem State.drive_firm {s : State} {i : EventIx} {e : Event} (he : s.entry i = some e) (ho : e.state = .injecting)
    (f : SenseFrame) : Firm s (s.drive i e f) := by
  unfold State.drive
  split
  · refine State.bypass_firm fun e' he' => ?_
    rw [he] at he'
    cases he'
    simp [ho, EventState.opens]
  · exact Firm.after (State.stepAndEmit_firm (by rw [State.entry_bringTopup, he]) ho f) (s.bringTopup_firm i e)

theorem State.injectionTakes_firm (s : State) (f : AcceptedFrame) : Firm s (s.injectionTakes f) := by
  have hm := s.meter_firm f
  unfold State.injectionTakes
  dsimp only
  split
  · exact hm
  · split
    · exact hm
    · next e he =>
      split
      · next ho => exact Firm.after (State.drive_firm he ho _) hm
      · exact hm

/-! ## The ring ports -/

theorem State.arrive_firm (s : State) (bytes : List Byte) : Firm s (s.arrive bytes) := by
  have hs : ∀ u : State, ∀ n h x, Firm u (u.arriveSense n h x) := fun u n h x => by
    unfold State.arriveSense
    split
    · exact .of_eq rfl rfl rfl rfl rfl rfl
    · exact u.countPort_firm _
  have ht : ∀ u : State, ∀ n h x, Firm u (u.arriveStore n h x) := fun u n h x => by
    unfold State.arriveStore
    split
    · exact .of_eq rfl rfl rfl rfl rfl rfl
    · exact u.countPort_firm _
  have hk : ∀ u : State, ∀ n h x, Firm u (u.arriveStatus n h x) := fun u n h x => by
    unfold State.arriveStatus
    split
    · exact .of_eq rfl rfl rfl rfl rfl rfl
    · exact u.countPort_firm _
  have hr : ∀ u : State, ∀ n h x, Firm u (u.arriveRequest n h x) := fun u n h x => by
    unfold State.arriveRequest
    split
    · exact u.countPort_firm _
    · split
      · unfold State.enterRequest
        split
        · exact .of_eq rfl rfl rfl rfl rfl rfl
        · exact u.countPort_firm _
      · exact u.countPort_firm _
  have hc : ∀ u : State, Firm u (u.classify bytes) := fun u => by
    unfold State.classify State.deliver
    split
    · exact u.countPort_firm _
    · split
      · exact u.countPort_firm _
      · split
        · exact (u.enqueueTransit_sheds _).firm
        · dsimp only
          split
          · exact hs u _ _ _
          · exact ht u _ _ _
          · exact hk u _ _ _
          · exact hr u _ _ _
          · exact u.countPort_firm _
  unfold State.arrive
  dsimp only
  split
  · exact (hc _).after (s.countPort_firm _)
  · exact (State.countPort_firm _ _).after (s.countPort_firm _)

/-- A command sent starts its timer from the moment of the completion. -/
theorem State.completionNotices_kept (s : State) (f : EgressFrame) : Kept s (s.completionNotices f) := by
  unfold State.completionNotices
  split
  · next d =>
    have hm := (s.modRecord_firm d.stack (StackRecord.completed d)).kept
    dsimp only
    split
    · next c _ =>
      refine Kept.after (State.modView_kept fun o ho n hn => ?_) hm
      simp only [StackView.completed, List.mem_map] at ho
      obtain ⟨p, hp, rfl⟩ := ho
      unfold Outstanding.complete at hn ⊢
      split
      · next h =>
        rw [if_pos h] at hn
        split at hn
        · simp at hn
        · simp only [Standing.sent.injEq, Option.some.injEq] at hn
          exact .inr (hn ▸ Nat.le_add_right _ _)
      · exact .inl hp
    · exact hm
  all_goals exact .refl s

theorem State.complete_kept (s : State) : Kept s s.complete := by
  unfold State.complete
  split
  · exact .refl s
  · next p _ =>
    have hn := (State.completionNotices_kept _ p.frame).after (s.countPort_firm (PortCounters.sent p.frame)).kept
    exact (State.kick_firm _).kept.after (hn.same rfl rfl rfl rfl rfl rfl)

end Sys2Proof.Machine
end

section
/-! SUPPORT. The moves of a bus: what the operations of Bus Watch do to the link between buses and open events, to the entries and
to the bus's own channel. -/

namespace Sys2Proof.Machine

/-! ## One channel -/

/-- The conditions of `WatchSound` on one channel but for its one-shot. -/
structure BusChannel.SagSound (c : BusChannel) : Prop where
  sag : c.inSag ↔ (c.openEvent.isSome ∨ c.untracked)
  apart : c.untracked → c.openEvent = none
  suspectStart : c.suspectStart.isSome ↔ c.detection = .suspect
  suspectLowest : c.suspectLowest.isSome ↔ c.detection = .suspect
  run : c.runCount ≤ 64

/-- The condition of `WatchSound` on a channel's one-shot. -/
def BusChannel.TimerSound (c : BusChannel) : Prop :=
  c.silence = none ↔ c.detection = .silent ∨ c.detection = .outOfService

/-- A sound channel whose one-shot runs, as it must. -/
structure BusChannel.Active (c : BusChannel) : Prop extends c.SagSound where
  silence : c.silence.isSome
  detection : c.detection ≠ .silent ∧ c.detection ≠ .outOfService

theorem BusChannel.Active.timerSound {c : BusChannel} (h : c.Active) : c.TimerSound := by
  obtain ⟨-, hs, hd⟩ := h
  simp only [BusChannel.TimerSound, hd.1, hd.2, or_self, iff_false]
  exact fun h => by simp [h] at hs

theorem BusChannel.SagSound.noEvent {c : BusChannel} (h : c.SagSound) (hd : ¬ c.inSag) :
    c.openEvent = none ∧ c.untracked = false := by
  rw [h.sag, not_or] at hd
  exact ⟨by simpa using hd.1, by simpa using hd.2⟩

theorem BusChannel.SagSound.alarmed {c d : BusChannel} (h : c.SagSound) (k : c.AlarmedTo d) : d.SagSound := by
  obtain ⟨x, y, z, rfl⟩ := k
  exact ⟨h.1, h.2, h.3, h.4, h.5⟩

theorem BusChannel.TimerSound.alarmed {c d : BusChannel} (h : c.TimerSound) (k : c.AlarmedTo d) : d.TimerSound := by
  obtain ⟨x, y, z, rfl⟩ := k
  exact h

theorem BusChannel.Active.alarmed {c d : BusChannel} (h : c.Active) (k : c.AlarmedTo d) : d.Active where
  toSagSound := h.toSagSound.alarmed k
  silence := by obtain ⟨x, y, z, rfl⟩ := k; exact h.silence
  detection := by obtain ⟨x, y, z, rfl⟩ := k; exact h.detection

/-! ## Buses and open events -/

/-- The bus whose open event the index holds. -/
def State.openBus (s : State) (i : EventIx) : Option Bus :=
  match s.entry i with
  | none => none
  | some e => if e.state.opens then some e.bus else none

theorem State.openBus_eq_some {s : State} {i : EventIx} {b : Bus} :
    s.openBus i = some b ↔ ∃ e, s.entry i = some e ∧ e.state.opens = true ∧ e.bus = b := by
  unfold State.openBus
  split
  · next h => simp [h]
  · next e h => simp [h]

@[simp] theorem State.openBus_modChannel (s : State) (b : Bus) (f : BusChannel → BusChannel) (i : EventIx) :
    (s.modChannel b f).openBus i = s.openBus i := by
  simp [State.openBus]

theorem State.openBus_of_evolves {s t : State} {i : EventIx} (h : Evolves (s.entry i) (t.entry i)) :
    t.openBus i = s.openBus i := by
  unfold State.openBus
  generalize s.entry i = o at h ⊢
  generalize t.entry i = p at h ⊢
  cases h with
  | free => rfl
  | freed h => simp [h]
  | kept h => simp [h.opens, h.bus]

/-- Each bus's open event is the one entry of the bus whose event is open (R33). -/
def State.Linked (s : State) : Prop := ∀ b i, (s.channel b).openEvent = some i ↔ s.openBus i = some b

/-- A bus in service has a row in the active bank. -/
def State.Served (s : State) (b : Bus) : Prop := (s.channel b).detection ≠ .outOfService → (s.activeBank.busRows[b]).isSome

theorem watchSound_iff {s : State} :
    WatchSound s ↔ (∀ b, (s.channel b).SagSound ∧ (s.channel b).TimerSound ∧ s.Served b) ∧ s.Linked := by
  constructor
  · intro h
    refine ⟨fun b => ⟨⟨h.sag b, h.apart b, h.suspectStart b, h.suspectLowest b, h.run b⟩, h.silence b, h.served b⟩,
      fun b i => ?_⟩
    rw [State.openBus_eq_some]
    constructor
    · intro hi
      obtain ⟨e, he, hb, ho⟩ := h.openEvent b i hi
      exact ⟨e, he, ho, hb⟩
    · rintro ⟨e, he, ho, rfl⟩
      exact h.linked i e he ho
  · rintro ⟨h, hl⟩
    refine ⟨fun b => (h b).1.sag, fun b => (h b).1.apart, fun b => (h b).1.suspectStart, fun b => (h b).1.suspectLowest,
      fun b => (h b).1.run, fun b => (h b).2.1, fun b => (h b).2.2, fun b i hi => ?_, fun i e he ho => ?_⟩
    · obtain ⟨e, he, ho, hb⟩ := State.openBus_eq_some.1 ((hl b i).1 hi)
      exact ⟨e, he, hb, ho⟩
    · exact (hl _ _).2 (State.openBus_eq_some.2 ⟨e, he, ho, rfl⟩)

/-! ## Ties -/

/-- What a move of bus `b` keeps: the other channels but for three alarms, the soundness of the entries, and that no timer it
starts has come to its expiry. -/
structure Moves (b : Bus) (s t : State) : Prop where
  now : t.now = s.now
  other : ∀ d, d ≠ b → (s.channel d).AlarmedTo (t.channel d)
  events : EventsSound s → EventsSound t
  timers : ∀ x ∈ t.timers, x ∈ s.timers ∨ s.now ≤ x.expiry

/-- A move that keeps the link between buses and open events too. -/
structure Ties (b : Bus) (s t : State) : Prop extends Moves b s t where
  linked : s.Linked → t.Linked

theorem Moves.trans {b : Bus} {s t u : State} (h : Moves b s t) (k : Moves b t u) : Moves b s u where
  now := k.now.trans h.now
  other := fun d hd => (h.other d hd).trans (k.other d hd)
  events := fun x => k.events (h.events x)
  timers := fun x hx => (k.timers x hx).elim (h.timers x) fun hn => .inr (h.now ▸ hn)

/-- The second of two moves named first. -/
theorem Moves.after {b : Bus} {s t u : State} (k : Moves b t u) (h : Moves b s t) : Moves b s u := h.trans k

theorem Ties.trans {b : Bus} {s t u : State} (h : Ties b s t) (k : Ties b t u) : Ties b s u where
  toMoves := h.toMoves.trans k.toMoves
  linked := fun x => k.linked (h.linked x)

/-- The second of two moves named first. -/
theorem Ties.after {b : Bus} {s t u : State} (k : Ties b t u) (h : Ties b s t) : Ties b s u := h.trans k

theorem BusChannel.AlarmedTo.openEvent {c d : BusChannel} (h : c.AlarmedTo d) : d.openEvent = c.openEvent := by
  obtain ⟨x, y, z, rfl⟩ := h
  rfl

theorem Kept.ties {s t : State} (h : Kept s t) (b : Bus) : Ties b s t where
  toMoves := ⟨h.now, fun d _ => h.channel d, h.eventsSound, h.timers⟩
  linked := fun hl d i => by rw [(h.channel d).openEvent, State.openBus_of_evolves (h.entry i)]; exact hl d i

theorem Ties.refl (b : Bus) (s : State) : Ties b s s := (Kept.refl s).ties b

theorem Firm.ties {s t : State} (h : Firm s t) (b : Bus) : Ties b s t := h.kept.ties b

theorem Sheds.moves {s t : State} (h : Sheds s t) (b : Bus) : Moves b s t := (h.firm.ties b).toMoves

/-- The timers that run after a change of one channel. -/
theorem State.mem_timers_setChannel {s : State} {b : Bus} {c : BusChannel} {x : Running}
    (hx : x ∈ (s.setChannel b c).timers) : x ∈ s.timers ∨ ∃ n, c.silence = some n ∧ x = ⟨.silence b, n⟩ := by
  obtain ⟨x, n⟩ := x
  cases x with
  | silence d =>
    rw [State.silence_mem_timers, State.channel_setChannel] at hx
    split at hx
    · next h => exact .inr ⟨n, hx, by rw [h]⟩
    · exact .inl (State.silence_mem_timers.2 hx)
  | store => rw [State.store_mem_timers] at hx ⊢; exact .inl hx
  | acknowledgement k => rw [State.acknowledgement_mem_timers] at hx ⊢; exact .inl hx
  | wait kind i => rw [State.wait_mem_timers] at hx ⊢; exact .inl hx

/-- A change of the bus's channel. -/
theorem State.setChannel_moves {s : State} {b : Bus} {c : BusChannel}
    (hs : ∀ n, c.silence = some n → (s.channel b).silence = some n ∨ s.now ≤ n) : Moves b s (s.setChannel b c) where
  now := rfl
  other := fun d hd => by rw [State.channel_setChannel, if_neg (Ne.symm hd)]; exact .refl _
  events := fun h => by rw [eventsSound_iff] at h ⊢; exact h
  timers := fun x hx => by
    rcases State.mem_timers_setChannel hx with h | ⟨n, hn, rfl⟩
    · exact .inl h
    · exact (hs n hn).imp_left State.silence_mem_timers.2

theorem State.modChannel_moves {s : State} {b : Bus} {f : BusChannel → BusChannel}
    (hs : (f (s.channel b)).silence = (s.channel b).silence) : Moves b s (s.modChannel b f) :=
  State.setChannel_moves fun _ hn => .inl (hs ▸ hn)

/-- A change of the bus's channel that keeps its event. -/
theorem State.setChannel_ties {s : State} {b : Bus} {c : BusChannel} (ho : c.openEvent = (s.channel b).openEvent)
    (hs : ∀ n, c.silence = some n → (s.channel b).silence = some n ∨ s.now ≤ n) : Ties b s (s.setChannel b c) where
  toMoves := State.setChannel_moves hs
  linked := fun hl d i => by
    have : ((s.setChannel b c).channel d).openEvent = (s.channel d).openEvent := by
      rw [State.channel_setChannel]
      split
      · next h => subst h; exact ho
      · rfl
    rw [this]
    exact hl d i

theorem State.modChannel_ties {s : State} {b : Bus} {f : BusChannel → BusChannel}
    (ho : (f (s.channel b)).openEvent = (s.channel b).openEvent)
    (hs : (f (s.channel b)).silence = (s.channel b).silence) : Ties b s (s.modChannel b f) :=
  State.setChannel_ties ho fun _ hn => .inl (hs ▸ hn)

theorem State.countBus_ties (s : State) (b : Bus) (f : BusCounters → BusCounters) : Ties b s (s.countBus b f) :=
  State.modChannel_ties rfl rfl

theorem State.addAlarm_ties (s : State) (b : Bus) (a : BusAlarm) : Ties b s (s.addAlarm b a) :=
  State.modChannel_ties rfl rfl

/-! ## The end of a sag -/

theorem State.openBus_endEvent {s : State} {i : EventIx} (cause : EndCause) : (s.endEvent i cause).openBus i = none := by
  cases he : s.entry i with
  | none => simp [State.openBus, State.endEvent_free cause he]
  | some e =>
    rcases State.endEvent_entry cause he with h | ⟨e', h, hended, -⟩
    · simp [State.openBus, h]
    · have : e'.state.opens = false := by rcases hended.state with h | h <;> simp [h, EventState.opens]
      simp [State.openBus, h, this]

theorem State.endSag_ties (s : State) (b : Bus) (cause : EndCause) : Ties b s (s.endSag b cause) := by
  cases h : (s.channel b).openEvent with
  | none =>
    rw [State.endSag_none cause h, State.endUntracked_eq]
    exact State.setChannel_ties rfl fun _ hn => .inl hn
  | some i =>
    have hu : Ties b s (s.endUntracked b) := by
      rw [State.endUntracked_eq]
      exact State.setChannel_ties rfl fun _ hn => .inl hn
    have hui : ((s.endUntracked b).channel b).openEvent = some i := by
      rw [State.channel_endUntracked, if_pos rfl]; exact h
    rw [State.endSag_some cause h]
    refine Ties.after ?_ hu
    generalize s.endUntracked b = u at hui ⊢
    have hb := u.endEvent_but i cause
    refine ⟨⟨by simp, fun d hd => ?_, fun hs => ?_, fun x hx => .inl ?_⟩, fun hl d j => ?_⟩
    · rw [State.channel_modChannel, if_neg (Ne.symm hd)]
      exact hb.channel d
    rotate_left 2
    · rw [State.openBus_modChannel, State.channel_modChannel]
      by_cases hji : j = i
      · subst hji
        rw [State.openBus_endEvent]
        by_cases hdb : b = d
        · simp [hdb]
        · rw [if_neg hdb, (hb.channel d).openEvent, hl d j, ← not_iff_not]
          simp [(hl b j).1 hui, hdb]
      · rw [State.openBus_of_evolves (hb.entry j hji), ← hl d j]
        by_cases hdb : b = d
        · subst hdb
          simpa [hui] using Ne.symm hji
        · rw [if_neg hdb, (hb.channel d).openEvent]
    · rw [eventsSound_iff] at hs ⊢
      intro j e' he'
      rw [State.entry_modChannel] at he'
      by_cases hji : j = i
      · subst hji
        cases he : u.entry j with
        | none => rw [State.endEvent_free cause he] at he'; cases he'
        | some e =>
          rcases State.endEvent_entry cause he with h | ⟨e1, h1, -, h2⟩
          · rw [h] at he'; cases he'
          · rw [h1] at he'
            cases he'
            exact h2 (hs j e he)
      · obtain ⟨e, he, hbe⟩ := (he' ▸ hb.entry j hji).before
        exact hbe.sound (hs j e he)
    · rcases State.mem_timers_setChannel hx with h | ⟨n, hn, rfl⟩
      · exact hb.timers x h
      · exact hb.timers _ (State.silence_mem_timers.2 hn)

/-! ## Entering NORMAL -/

theorem State.tidyBus_sheds (s : State) (b : Bus) : Sheds s (s.tidyBus b) := by
  unfold State.tidyBus
  split
  · exact .refl s
  · dsimp only
    split
    · exact s.queueCommand_sheds _ _
    · exact .refl s

theorem State.enterNormal_eq (s : State) (b : Bus) :
    s.enterNormal b = (s.setChannel b { (s.channel b).cleared with bankInUse := s.banks.active }).tidyBus b := by
  simp [State.enterNormal, State.adopt, State.modChannel]

theorem State.enterNormal_channel (s : State) (b d : Bus) :
    (s.enterNormal b).channel d =
      if b = d then { (s.channel b).cleared with bankInUse := s.banks.active } else s.channel d := by
  rw [State.enterNormal_eq, State.channel_congr (State.tidyBus_sheds _ b).channels, State.channel_setChannel]

theorem State.enterNormal_moves (s : State) (b : Bus) : Moves b s (s.enterNormal b) := by
  rw [State.enterNormal_eq]
  exact ((State.tidyBus_sheds _ b).moves b).after (State.setChannel_moves fun _ hn => .inl hn)

theorem State.enterNormal_ties {s : State} {b : Bus} (h : (s.channel b).openEvent = none) :
    Ties b s (s.enterNormal b) := by
  rw [State.enterNormal_eq]
  exact ((State.tidyBus_sheds _ b).firm.ties b).after (State.setChannel_ties h.symm fun _ hn => .inl hn)

/-- A channel in NORMAL with nothing of a sag left. -/
theorem BusChannel.cleared_active {c : BusChannel} (h : c.silence.isSome) (n : BankIx) :
    ({ c.cleared with bankInUse := n } : BusChannel).Active where
  sag := by simp [BusChannel.inSag, BusChannel.cleared]
  apart := fun _ => rfl
  suspectStart := by simp [BusChannel.cleared]
  suspectLowest := by simp [BusChannel.cleared]
  run := Nat.zero_le _
  silence := h
  detection := by simp [BusChannel.cleared]

/-! ## An opening -/

theorem Method.startStep_le (m : Method) : m.startStep ≤ 2 := by cases m <;> simp [Method.startStep]

/-- A fresh entry is sound and open. -/
theorem Event.opened_sound (b : Bus) (order start : U32) (copy : OpenedUnder) (lowest : Nat) (lastFrame : U32) :
    (Event.opened b order start copy lowest lastFrame).Sound where
  strikes := by simp [Event.opened]
  claims := Nat.zero_le _
  step := copy.method.startStep_le.trans (by omega)
  onPath := fun _ => copy.method.startStep_le
  deepest := fun n hn => by cases hn
  breachRun := Nat.zero_le _
  outcome := by simp [Event.opened, EventState.left]

theorem Event.Sound.unprotected {e : Event} (h : e.Sound) : e.unprotected.Sound :=
  ⟨h.1, h.2, le_rfl, fun x => by simp [Event.unprotected, EventState.left] at x, h.5, h.6,
    by simp [Event.unprotected, EventState.left]⟩

/-- What the start of an event leaves in its entry: the event itself with the amount of its request, or UNPROTECTED. -/
theorem State.startEvent_entry (s : State) (i : EventIx) (e : Event) (f : SenseFrame) :
    ∃ e', (∀ j, (s.startEvent i e f).entry j = if i = j then some e' else s.entry j) ∧
      (e' = e.unprotected ∨ ∃ n, e' = { e with firstAmount := n }) := by
  unfold State.startEvent
  dsimp only
  split
  · exact ⟨e.unprotected, fun j => State.entry_setEntry _ _ _ _, .inl rfl⟩
  · exact ⟨_, fun j => State.entry_setEntry _ _ _ _, .inr ⟨_, rfl⟩⟩

/-- The timers that run after the start of an event. -/
theorem State.mem_timers_startEvent {s : State} {i : EventIx} {e : Event} {f : SenseFrame} {x : Running}
    (hx : x ∈ (s.startEvent i e f).timers) : x ∈ s.timers ∨ s.now ≤ x.expiry := by
  unfold State.startEvent at hx
  dsimp only at hx
  split at hx
  · exact .inl ((s.setEntry_calm i _).timers x hx)
  · exact (mem_timers_enqueueRequest hx).imp_left ((s.setEntry_calm i _).timers x)

theorem State.freeEntry_free {s : State} {i : EventIx} (h : s.freeEntry = some i) : s.entry i = none := by
  simpa using List.find?_some h

/-- An entry opened for bus `f.bus`: entry `i` is new and open, the others evolve. -/
theorem State.openEvent_entry {s t : State} {r : BusRow} {start : U32} {lowest : Nat} {f : AcceptedFrame} {i : EventIx}
    (h : s.openEvent r start lowest f = some (i, t)) :
    s.entry i = none ∧ (∃ e, t.entry i = some e ∧ e.bus = f.bus ∧ e.state.opens = true ∧ e.Sound) ∧
      (∀ j, j ≠ i → Evolves (s.entry j) (t.entry j)) ∧ ∀ x ∈ t.timers, x ∈ s.timers ∨ s.now ≤ x.expiry := by
  unfold State.openEvent at h
  split at h
  · cases h
  · next j hj =>
    simp only [Option.some.injEq, Prod.mk.injEq] at h
    obtain ⟨rfl, rfl⟩ := h
    refine ⟨State.freeEntry_free hj, ?_⟩
    generalize r.openedUnder (s.envelopeOf f.bus r) = copy
    generalize hu : ({ s with events.openCounter := s.events.openCounter + 1 } : State).setRate j none = u
    have hsu : Firm s u := by
      subst hu
      exact (State.setRate_firm _ _ _).after (.of_eq rfl rfl rfl rfl rfl rfl)
    have hue : ∀ k, u.entry k = s.entry k := fun k => by subst hu; rfl
    obtain ⟨e', he', hform⟩ := u.startEvent_entry j
      (Event.opened f.bus s.events.openCounter start copy lowest f.frame.timestamp) f.frame
    have hsound := Event.opened_sound f.bus s.events.openCounter start copy lowest f.frame.timestamp
    have hfacts : e'.bus = f.bus ∧ e'.state.opens = true ∧ e'.Sound := by
      rcases hform with rfl | ⟨n, rfl⟩
      · exact ⟨rfl, rfl, hsound.unprotected⟩
      · exact ⟨rfl, rfl, hsound.1, hsound.2, hsound.3, hsound.4, hsound.5, hsound.6, hsound.7⟩
    have htim := fun x => State.mem_timers_startEvent (s := u) (i := j)
      (e := Event.opened f.bus s.events.openCounter start copy lowest f.frame.timestamp) (f := f.frame) (x := x)
    generalize u.startEvent j _ f.frame = w at he' htim ⊢
    have hw := (w.captureOpening_records j copy.capture f).firm
    refine ⟨?_, fun k hk => ?_, fun x hx => ?_⟩
    · obtain ⟨e, he, hb⟩ := ((he' j).trans (if_pos rfl) ▸ hw.entry j).opens hfacts.2.1
      exact ⟨e, he, hb.bus.trans hfacts.1, hb.opens.trans hfacts.2.1, hb.sound hfacts.2.2⟩
    · have := hw.entry k
      rwa [he' k, if_neg (Ne.symm hk), hue] at this
    · exact (htim x (hw.timers x hx)).imp (hsu.timers x) fun h => hsu.now ▸ h

theorem State.confirmSag_moves (s : State) (b : Bus) (r : BusRow) (f : AcceptedFrame) :
    Moves b s (s.confirmSag b r f) := by
  unfold State.confirmSag
  dsimp only
  split
  · next i t h =>
    have hfr := State.openEvent_frame _ _ _ _ _ _ h
    obtain ⟨-, ⟨e, he, -, -, hes⟩, hj, htim⟩ := State.openEvent_entry h
    refine (State.countBus_ties _ b _).toMoves.after
      ((State.modChannel_moves rfl).after ⟨hfr.1, fun d _ => ?_, fun hs => ?_, htim⟩)
    · exact State.channel_congr hfr.2.2.1 d ▸ .refl _
    · rw [eventsSound_iff] at hs ⊢
      intro j e' he'
      by_cases hji : j = i
      · subst hji
        rw [he] at he'
        exact Option.some.inj he' ▸ hes
      · obtain ⟨e1, he1, hb⟩ := (he' ▸ hj j hji).before
        exact hb.sound (hs j e1 he1)
  · exact (State.addAlarm_ties _ b _).toMoves.after (State.modChannel_moves rfl)

theorem State.confirmSag_ties {s : State} {b : Bus} {r : BusRow} {f : AcceptedFrame} (hf : f.bus = b)
    (hn : (s.channel b).openEvent = none) : Ties b s (s.confirmSag b r f) := by
  refine ⟨s.confirmSag_moves b r f, ?_⟩
  unfold State.confirmSag
  dsimp only
  split
  · next i t h =>
    have hfr := State.openEvent_frame _ _ _ _ _ _ h
    obtain ⟨hfree, ⟨e, he, heb, heo, -⟩, hj, -⟩ := State.openEvent_entry h
    have hch : ∀ d, t.channel d = s.channel d := State.channel_congr hfr.2.2.1
    refine fun hl => (State.countBus_ties _ b _).linked fun d j => ?_
    · rw [State.channel_modChannel, State.openBus_modChannel]
      by_cases hji : j = i
      · subst hji
        have hto : t.openBus j = some b := State.openBus_eq_some.2 ⟨e, he, heo, heb.trans hf⟩
        have hso : (s.channel d).openEvent ≠ some j := fun h => by
          have := (hl d j).1 h
          simp [State.openBus, hfree] at this
        rw [hto]
        by_cases hdb : b = d
        · simp [hdb, BusChannel.confirmed]
        · simpa [hdb, hch] using hso
      · rw [State.openBus_of_evolves (hj j hji), ← hl d j]
        by_cases hdb : b = d
        · subst hdb
          simpa [BusChannel.confirmed, hn] using Ne.symm hji
        · simp [hdb, hch]
  · exact ((State.addAlarm_ties _ b _).after (State.modChannel_ties (by simp [BusChannel.confirmed, hn]) rfl)).linked

/-- A channel in SAG with its event, or untracked. -/
theorem BusChannel.confirmed_active {c : BusChannel} (h : c.silence.isSome) (o : Option EventIx) :
    (c.confirmed o).Active where
  sag := by cases o <;> simp [BusChannel.inSag, BusChannel.confirmed]
  apart := by cases o <;> simp [BusChannel.confirmed]
  suspectStart := by simp [BusChannel.confirmed]
  suspectLowest := by simp [BusChannel.confirmed]
  run := Nat.zero_le _
  silence := h
  detection := by simp [BusChannel.confirmed]

/-- A channel's counters and alarms have no part in its soundness. -/
theorem BusChannel.Active.recorded {c : BusChannel} (h : c.Active) (n : BusCounters) (a : BusAlarms) :
    ({ c with counters := n, alarms := a } : BusChannel).Active :=
  ⟨⟨h.1.1, h.1.2, h.1.3, h.1.4, h.1.5⟩, h.2, h.3⟩

theorem State.confirmSag_active {s : State} {b : Bus} {r : BusRow} {f : AcceptedFrame}
    (h : ((s.channel b).silence).isSome) : ((s.confirmSag b r f).channel b).Active := by
  unfold State.confirmSag
  dsimp only
  split
  · next i t ht =>
    have hch := State.channel_congr (State.openEvent_frame _ _ _ _ _ _ ht).2.2.1 b
    simp only [State.countBus, State.channel_modChannel, if_true]
    rw [show t.channel b = s.channel b from hch]
    exact (BusChannel.confirmed_active h (some i)).recorded _ _
  · simp only [State.addAlarm, State.channel_modChannel, if_true]
    exact (BusChannel.confirmed_active h none).recorded _ _

end Sys2Proof.Machine
end

section
/-! SUPPORT. A SENSE frame evaluated and taken, an expiry of a silence one-shot, and a bus taken out of service or put in service,
as moves of the bus that leave its channel sound. -/

namespace Sys2Proof.Machine

/-- A move of bus `b` that keeps the link between buses and open events and leaves its channel sound, its one-shot running. -/
structure Lands (b : Bus) (s t : State) : Prop extends Ties b s t where
  active : (t.channel b).Active

theorem Lands.after {b : Bus} {s t u : State} (k : Lands b t u) (h : Ties b s t) : Lands b s u :=
  ⟨k.toTies.after h, k.active⟩

theorem Lands.then {b : Bus} {s t u : State} (h : Lands b s t) (k : Sheds t u) : Lands b s u :=
  ⟨(k.firm.ties b).after h.toTies, State.channel_congr k.channels b ▸ h.active⟩

/-- A change of the bus's own channel alone. -/
theorem State.setChannel_lands {s : State} {b : Bus} {c : BusChannel} (ho : c.openEvent = (s.channel b).openEvent)
    (hs : c.silence = (s.channel b).silence) (h : c.Active) : Lands b s (s.setChannel b c) :=
  ⟨State.setChannel_ties ho fun _ hn => .inl (hs ▸ hn), by simpa using h⟩

theorem State.enterNormal_lands {s : State} {b : Bus} (h : (s.channel b).openEvent = none)
    (hs : (s.channel b).silence.isSome) : Lands b s (s.enterNormal b) :=
  ⟨State.enterNormal_ties h, by
    rw [State.enterNormal_channel, if_pos rfl]
    exact BusChannel.cleared_active hs _⟩

theorem State.confirmSag_lands {s : State} {b : Bus} {r : BusRow} {f : AcceptedFrame} (hf : f.bus = b)
    (hn : (s.channel b).openEvent = none) (hs : (s.channel b).silence.isSome) : Lands b s (s.confirmSag b r f) :=
  ⟨State.confirmSag_ties hf hn, State.confirmSag_active hs⟩

/-! ## Channels between frames -/

namespace BusChannel

theorem Active.ran {c : BusChannel} (h : c.Active) {n : Nat} (hn : n ≤ 64) : ({ c with runCount := n } : BusChannel).Active :=
  ⟨⟨h.1.1, h.1.2, h.1.3, h.1.4, hn⟩, h.2, h.3⟩

theorem nextRun_le (c : BusChannel) : c.nextRun ≤ 64 := min_le_right _ _

/-- A channel in SUSPECT. -/
theorem SagSound.suspected {c : BusChannel} (h : c.SagSound) (hs : c.silence.isSome) (hd : ¬ c.inSag) (n : Nat) (hn : n ≤ 64)
    (start : U32) (lowest : Nat) :
    ({ c with
      detection := .suspect, runCount := n, suspectStart := some start, suspectLowest := some lowest } : BusChannel).Active := by
  obtain ⟨ho, hu⟩ := h.noEvent hd
  exact ⟨⟨by simp [inSag, ho, hu], h.2, by simp, by simp, hn⟩, hs, by simp⟩

/-- A channel of a sag, in SAG or in RECOVERING. -/
theorem SagSound.within {c : BusChannel} (h : c.SagSound) (hs : c.silence.isSome) (hd : c.inSag) {d : Detection}
    (hd' : d = .sag ∨ d = .recovering) {n : Nat} (hn : n ≤ 64) :
    ({ c with detection := d, runCount := n } : BusChannel).Active := by
  have hns : c.detection ≠ .suspect := by rcases hd with h | h <;> simp [h]
  have hsag := h.sag.1 hd
  have hss : c.suspectStart.isSome = false := by simpa [hns] using h.suspectStart
  have hsl : c.suspectLowest.isSome = false := by simpa [hns] using h.suspectLowest
  rcases hd' with rfl | rfl
  · exact ⟨⟨by simpa [inSag] using hsag, h.2, by simp [hss], by simp [hsl], hn⟩, hs, by simp⟩
  · exact ⟨⟨by simpa [inSag] using hsag, h.2, by simp [hss], by simp [hsl], hn⟩, hs, by simp⟩

/-- A channel that leaves its sag behind. -/
theorem sagEnded_leaveSag (c : BusChannel) {d : Detection} (hd : d ≠ .sag ∧ d ≠ .recovering ∧ d ≠ .suspect) :
    (c.sagEnded.leaveSag d).SagSound :=
  ⟨by simp [inSag, leaveSag, sagEnded, tallied, hd.1, hd.2.1], fun _ => rfl, by simp [leaveSag, hd.2.2],
    by simp [leaveSag, hd.2.2], Nat.zero_le _⟩

theorem AlarmedTo.leaveSag {c c' : BusChannel} (h : c.AlarmedTo c') (d : Detection) :
    (c.leaveSag d).AlarmedTo (c'.leaveSag d) := by
  obtain ⟨x, y, z, rfl⟩ := h
  exact ⟨x, y, z, rfl⟩

theorem AlarmedTo.silence {c c' : BusChannel} (h : c.AlarmedTo c') : c'.silence = c.silence := by
  obtain ⟨x, y, z, rfl⟩ := h
  rfl

end BusChannel

/-! ## An accepted frame evaluated -/

theorem State.evaluateSwell_eq (s : State) (b : Bus) (r : BusRow) (f : AcceptedFrame) :
    s.evaluateSwell b r f = s.setChannel b
      (if r.swellThreshold * r.swellThreshold < f.frame.volts.maxSquare then
        { s.channel b with
          alarms.swell := true, counters.swells := (s.channel b).counters.swells + 1 }
      else s.channel b) := by
  unfold State.evaluateSwell
  split
  · simp [State.addAlarm, State.countBus, State.modChannel, BusAlarms.add]
  · simp

theorem State.evaluateNormal_lands {s : State} {b : Bus} {r : BusRow} {f : AcceptedFrame} (hf : f.bus = b)
    (hs : (s.channel b).SagSound) (ht : (s.channel b).silence.isSome) (hd : (s.channel b).detection = .normal) :
    Lands b s (s.evaluateNormal b r f) := by
  have hin : ¬ (s.channel b).inSag := by simp [BusChannel.inSag, hd]
  obtain ⟨ho, -⟩ := hs.noEvent hin
  have hact : (s.channel b).Active := ⟨hs, ht, by simp [hd]⟩
  unfold State.evaluateNormal
  rw [State.evaluateSwell_eq]
  generalize hc : (if r.swellThreshold * r.swellThreshold < f.frame.volts.maxSquare then
    ({ s.channel b with
      alarms.swell := true, counters.swells := (s.channel b).counters.swells + 1 } : BusChannel)
    else s.channel b) = c
  have hcact : c.Active := by
    subst hc
    split
    · exact hact.recorded _ _
    · exact hact
  have hcin : ¬ c.inSag ∧ c.openEvent = none := by
    subst hc
    split
    · exact ⟨hin, ho⟩
    · exact ⟨hin, ho⟩
  have hcs : c.silence = (s.channel b).silence := by
    subst hc
    split <;> rfl
  have hswell : Lands b s (s.setChannel b c) := State.setChannel_lands (hcin.2.trans ho.symm) hcs hcact
  dsimp only
  split
  · rw [State.modChannel_setChannel]
    have hsus := hcact.toSagSound.suspected hcact.silence hcin.1 1 (by omega) f.frame.timestamp f.frame.lowest
    have hl := State.setChannel_lands (s := s) (c := { c with
      detection := .suspect, runCount := 1, suspectStart := some f.frame.timestamp
      suspectLowest := some f.frame.lowest }) (hcin.2.trans ho.symm) hcs hsus
    split
    · refine Lands.after (State.confirmSag_lands hf ?_ ?_) hl.toTies
      · simpa using hcin.2
      · simpa using hcact.silence
    · exact hl
  · exact hswell

theorem State.evaluateSuspect_lands {s : State} {b : Bus} {r : BusRow} {f : AcceptedFrame} (hf : f.bus = b)
    (hs : (s.channel b).SagSound) (ht : (s.channel b).silence.isSome) (hd : (s.channel b).detection = .suspect) :
    Lands b s (s.evaluateSuspect b r f) := by
  have hin : ¬ (s.channel b).inSag := by simp [BusChannel.inSag, hd]
  obtain ⟨ho, -⟩ := hs.noEvent hin
  unfold State.evaluateSuspect
  split
  · obtain ⟨start, hstart⟩ := Option.isSome_iff_exists.1 (hs.suspectStart.2 hd)
    have hsus := hs.suspected ht hin _ (s.channel b).nextRun_le start
      (min ((s.channel b).suspectLowest.getD f.frame.lowest) f.frame.lowest)
    rw [← hd, ← hstart] at hsus
    have hl : Lands b s (s.modChannel b fun c =>
        { c with
          runCount := c.nextRun
          suspectLowest := some (min (c.suspectLowest.getD f.frame.lowest) f.frame.lowest) }) :=
      State.setChannel_lands rfl rfl hsus
    dsimp only
    split
    · refine Lands.after (State.confirmSag_lands hf ?_ ?_) hl.toTies
      · simpa using ho
      · simpa using ht
    · exact hl
  · refine Lands.after (State.enterNormal_lands ?_ ?_) (s.countBus_ties b _)
    · simpa [State.countBus] using ho
    · simpa [State.countBus] using ht

theorem State.completeRecovery_lands {s : State} {b : Bus} (ht : (s.channel b).silence.isSome) :
    Lands b s (s.completeRecovery b) := by
  have hc := s.endSag_channel b .recovered
  refine Lands.after (State.enterNormal_lands ?_ ?_) (s.endSag_ties b .recovered)
  · rw [hc.openEvent]; rfl
  · rw [hc.silence]; exact ht

theorem Event.becomes_lowerStrike (e : Event) (m : Nat) : e.Becomes (e.lowerStrike m) := by
  have hlen : ∀ l : List Strike, (lowerLast m l).length = l.length := fun l => by
    fun_induction lowerLast m l <;> simp_all
  unfold Event.lowerStrike
  split
  · exact .refl e
  · exact ⟨rfl, rfl, id, fun k => ⟨by simpa [hlen] using k.1, k.2, k.3, k.4, k.5, k.6, k.7⟩, fun _ => rfl, fun _ => rfl,
      fun _ => rfl, fun _ => id, id, id⟩

theorem Event.becomes_addStrike (e : Event) (offset lowest : Nat) : e.Becomes (e.addStrike offset lowest) := by
  unfold Event.addStrike
  split
  · next h =>
    simp only [Config.strikeCapacity] at h
    exact ⟨rfl, rfl, id, fun k => ⟨by simp; exact ⟨by omega, k.1.2.2⟩, k.2, k.3, k.4, k.5, k.6, k.7⟩, fun _ => rfl,
      fun _ => rfl, fun _ => rfl, fun _ => id, id, id⟩
  · exact ⟨rfl, rfl, id, fun k => ⟨⟨k.1.1, k.1.2.1, min_le_right _ _⟩, k.2, k.3, k.4, k.5, k.6, k.7⟩, fun _ => rfl,
      fun _ => rfl, fun _ => rfl, fun _ => id, id, id⟩

theorem Event.addStrike_state (e : Event) (offset lowest : Nat) : (e.addStrike offset lowest).state = e.state := by
  unfold Event.addStrike
  split <;> rfl

theorem Event.lowerStrike_state (e : Event) (m : Nat) : (e.lowerStrike m).state = e.state := by
  unfold Event.lowerStrike
  split <;> rfl

theorem State.lowerStrike_firm (s : State) (b : Bus) (f : AcceptedFrame) : Firm s (s.lowerStrike b f) := by
  unfold State.lowerStrike
  split
  · exact State.modEvent_firm (fun e _ => e.becomes_lowerStrike _) fun e _ h => (e.lowerStrike_state _).trans h
  · exact .refl s

theorem State.renewStrike_firm (s : State) (b : Bus) (f : AcceptedFrame) : Firm s (s.renewStrike b f) := by
  unfold State.renewStrike
  split
  · exact State.modEvent_firm (fun e _ => e.becomes_addStrike _ _) fun e _ h => (e.addStrike_state _ _).trans h
  · exact .refl s

theorem State.channel_lowerStrike (s : State) (b d : Bus) (f : AcceptedFrame) :
    (s.lowerStrike b f).channel d = s.channel d := State.channel_congr (by simp) d

theorem State.channel_renewStrike (s : State) (b d : Bus) (f : AcceptedFrame) :
    (s.renewStrike b f).channel d = s.channel d := State.channel_congr (by simp) d

theorem State.evaluateSag_lands {s : State} {b : Bus} {r : BusRow} {f : AcceptedFrame}
    (hs : (s.channel b).SagSound) (ht : (s.channel b).silence.isSome) (hd : (s.channel b).detection = .sag) :
    Lands b s (s.evaluateSag b r f) := by
  have hm := (s.lowerStrike_firm b f).ties b
  have hch := s.channel_lowerStrike b b f
  unfold State.evaluateSag
  dsimp only
  split
  · exact ⟨hm, hch.symm ▸ ⟨hs, ht, by simp [hd]⟩⟩
  · generalize s.lowerStrike b f = u at hm hch ⊢
    have hl : Lands b u (u.modChannel b fun c => { c with detection := .recovering, runCount := 1 }) :=
      State.setChannel_lands rfl rfl (by rw [hch]; exact hs.within ht (.inl hd) (.inr rfl) (by omega))
    split
    · exact (State.completeRecovery_lands hl.active.silence).after (hl.toTies.after hm)
    · exact hl.after hm

theorem State.evaluateRecovering_lands {s : State} {b : Bus} {r : BusRow} {f : AcceptedFrame}
    (hs : (s.channel b).SagSound) (ht : (s.channel b).silence.isSome) (hd : (s.channel b).detection = .recovering) :
    Lands b s (s.evaluateRecovering b r f) := by
  have hact : (s.channel b).Active := ⟨hs, ht, by simp [hd]⟩
  unfold State.evaluateRecovering
  split
  · have hl : Lands b s (s.modChannel b fun c => { c with runCount := c.nextRun }) :=
      State.setChannel_lands rfl rfl (hact.ran (s.channel b).nextRun_le)
    dsimp only
    split
    · exact (State.completeRecovery_lands hl.active.silence).after hl.toTies
    · exact hl
  · split
    · exact State.setChannel_lands rfl rfl (hact.ran (Nat.zero_le _))
    · have hl : Lands b s (s.modChannel b fun c => { c with detection := .sag, runCount := 0 }) :=
        State.setChannel_lands rfl rfl (hs.within ht (.inr hd) (.inl rfl) (Nat.zero_le _))
      exact ⟨((State.renewStrike_firm _ b f).ties b).after hl.toTies,
        (State.channel_renewStrike _ b b f).symm ▸ hl.active⟩

theorem State.enterFaulted_lands {s : State} {b : Bus} {f : AcceptedFrame} (ht : (s.channel b).silence.isSome) :
    Lands b s (s.enterFaulted b f) := by
  have hc := s.endSag_channel b .downstreamFault
  unfold State.enterFaulted State.reportByFrame
  refine Lands.then (t := (s.endSag b .downstreamFault).modChannel b (BusChannel.leaveSag .faulted))
    (Lands.after (State.setChannel_lands rfl rfl ?_) (s.endSag_ties b .downstreamFault))
    (State.report_sheds _ _)
  refine ⟨((s.channel b).sagEnded_leaveSag (by simp)).alarmed (hc.leaveSag .faulted), ?_, by simp [BusChannel.leaveSag]⟩
  exact (hc.silence.trans rfl : ((s.endSag b .downstreamFault).channel b).silence = (s.channel b).silence) ▸ ht

theorem State.evaluateFaulted_lands {s : State} {b : Bus} {r : BusRow} {f : AcceptedFrame}
    (hs : (s.channel b).SagSound) (ht : (s.channel b).silence.isSome) (hd : (s.channel b).detection = .faulted) :
    Lands b s (s.evaluateFaulted b r f) := by
  have hact : (s.channel b).Active := ⟨hs, ht, by simp [hd]⟩
  obtain ⟨ho, -⟩ := hs.noEvent (by simp [BusChannel.inSag, hd])
  unfold State.evaluateFaulted
  split
  · exact State.setChannel_lands rfl rfl (hact.ran (Nat.zero_le _))
  · have hl : Lands b s (s.modChannel b fun c => { c with runCount := c.nextRun }) :=
      State.setChannel_lands rfl rfl (hact.ran (s.channel b).nextRun_le)
    dsimp only
    split
    · exact Lands.then (Lands.after (State.enterNormal_lands (by simpa using ho) hl.active.silence) hl.toTies)
        (State.report_sheds _ _)
    · exact hl

/-- An accepted frame evaluated, in every detection state. -/
theorem State.evaluate_lands {s : State} {b : Bus} {r : BusRow} {f : AcceptedFrame} (hf : f.bus = b)
    (hs : (s.channel b).SagSound) (ht : (s.channel b).silence.isSome) (hd : (s.channel b).detection ≠ .outOfService) :
    Lands b s (s.evaluate b r f) := by
  unfold State.evaluate
  split
  · next h => exact State.evaluateFaulted_lands hs ht h
  · next h =>
    obtain ⟨ho, -⟩ := hs.noEvent (by simp [BusChannel.inSag, h])
    exact Lands.then (State.enterNormal_lands ho ht) (State.report_sheds _ _)
  · next h => exact absurd h hd
  · next h =>
    split
    · exact State.enterFaulted_lands ht
    · exact State.evaluateNormal_lands hf hs ht h
  · next h =>
    split
    · exact State.enterFaulted_lands ht
    · exact State.evaluateSuspect_lands hf hs ht h
  · next h =>
    split
    · exact State.enterFaulted_lands ht
    · exact State.evaluateSag_lands hs ht h
  · next h =>
    split
    · exact State.enterFaulted_lands ht
    · exact State.evaluateRecovering_lands hs ht h

/-! ## The same without the channel's soundness -/

theorem State.completeRecovery_moves (s : State) (b : Bus) : Moves b s (s.completeRecovery b) :=
  (State.enterNormal_moves _ b).after (s.endSag_ties b .recovered).toMoves

theorem State.enterFaulted_moves (s : State) (b : Bus) (f : AcceptedFrame) : Moves b s (s.enterFaulted b f) := by
  unfold State.enterFaulted State.reportByFrame
  exact ((State.report_sheds _ _).moves b).after
    ((State.modChannel_moves (f := BusChannel.leaveSag .faulted) rfl).after (s.endSag_ties b .downstreamFault).toMoves)

theorem State.evaluateNormal_moves (s : State) (b : Bus) (r : BusRow) (f : AcceptedFrame) :
    Moves b s (s.evaluateNormal b r f) := by
  have hw : Moves b s (s.evaluateSwell b r f) := by
    unfold State.evaluateSwell
    split
    · exact ((State.addAlarm_ties _ b _).after (s.countBus_ties b _)).toMoves
    · exact (Ties.refl b s).toMoves
  unfold State.evaluateNormal
  dsimp only
  split
  · split
    · exact (State.confirmSag_moves _ b r f).after ((State.modChannel_moves rfl).after hw)
    · exact Moves.after (State.modChannel_moves rfl) hw
  · exact hw

theorem State.evaluateSuspect_moves (s : State) (b : Bus) (r : BusRow) (f : AcceptedFrame) :
    Moves b s (s.evaluateSuspect b r f) := by
  unfold State.evaluateSuspect
  dsimp only
  split
  · split
    · exact (State.confirmSag_moves _ b r f).after (State.modChannel_moves rfl)
    · exact State.modChannel_moves rfl
  · exact (State.enterNormal_moves _ b).after (s.countBus_ties b _).toMoves

theorem State.evaluateSag_moves (s : State) (b : Bus) (r : BusRow) (f : AcceptedFrame) :
    Moves b s (s.evaluateSag b r f) := by
  have hw := ((s.lowerStrike_firm b f).ties b).toMoves
  unfold State.evaluateSag
  dsimp only
  split
  · exact hw
  · split
    · exact (State.completeRecovery_moves _ b).after ((State.modChannel_moves rfl).after hw)
    · exact Moves.after (State.modChannel_moves rfl) hw

theorem State.evaluateRecovering_moves (s : State) (b : Bus) (r : BusRow) (f : AcceptedFrame) :
    Moves b s (s.evaluateRecovering b r f) := by
  unfold State.evaluateRecovering
  dsimp only
  split
  · split
    · exact (State.completeRecovery_moves _ b).after (State.modChannel_moves rfl)
    · exact State.modChannel_moves rfl
  · split
    · exact State.modChannel_moves rfl
    · exact ((State.renewStrike_firm _ b f).ties b).toMoves.after (State.modChannel_moves rfl)

theorem State.evaluateFaulted_moves (s : State) (b : Bus) (r : BusRow) (f : AcceptedFrame) :
    Moves b s (s.evaluateFaulted b r f) := by
  unfold State.evaluateFaulted
  dsimp only
  split
  · exact State.modChannel_moves rfl
  · split
    · exact ((State.report_sheds _ _).moves b).after ((State.enterNormal_moves _ b).after (State.modChannel_moves rfl))
    · exact State.modChannel_moves rfl

/-- An accepted frame evaluated, whatever the channel holds. -/
theorem State.evaluate_moves (s : State) (b : Bus) (r : BusRow) (f : AcceptedFrame) : Moves b s (s.evaluate b r f) := by
  unfold State.evaluate
  split
  · exact s.evaluateFaulted_moves b r f
  · exact ((State.report_sheds _ _).moves b).after (s.enterNormal_moves b)
  · exact (Ties.refl b s).toMoves
  · split
    · exact s.enterFaulted_moves b f
    · exact s.evaluateNormal_moves b r f
  · split
    · exact s.enterFaulted_moves b f
    · exact s.evaluateSuspect_moves b r f
  · split
    · exact s.enterFaulted_moves b f
    · exact s.evaluateSag_moves b r f
  · split
    · exact s.enterFaulted_moves b f
    · exact s.evaluateRecovering_moves b r f

end Sys2Proof.Machine
end

section
/-! SUPPORT. What every command upholds: the soundness of the bus channels, the soundness of the entries, and that no timer is late.
First the frames of Bus Watch, the expiries and the moves of the time base, then the management requests, then every command. -/

namespace Sys2Proof.Machine

/-! ## Time -/

/-- The time base stands, and no timer that is new has come to its expiry. -/
structure Timely (s t : State) : Prop where
  now : t.now = s.now
  timers : ∀ x ∈ t.timers, x ∈ s.timers ∨ s.now ≤ x.expiry

theorem Timely.refl (s : State) : Timely s s := ⟨rfl, fun _ h => .inl h⟩

theorem Timely.trans {s t u : State} (h : Timely s t) (k : Timely t u) : Timely s u :=
  ⟨k.now.trans h.now, fun x hx => (k.timers x hx).elim (h.timers x) fun hn => .inr (h.now ▸ hn)⟩

theorem Moves.timely {b : Bus} {s t : State} (h : Moves b s t) : Timely s t := ⟨h.now, h.timers⟩

theorem Timely.inTime {s t : State} (h : Timely s t) (hs : s.InTime s.now) : t.InTime t.now := by
  intro x hx
  rw [max_self, h.now]
  rcases h.timers x hx with hx | hx
  · exact (max_self s.now).symm.le.trans (hs x hx)
  · omega

/-! ## What is upheld -/

/-- What every operation is to do: keep the bus channels sound, keep the entries sound, and leave no timer late. -/
structure Upholds (s t : State) : Prop where
  watch : WatchSound s → WatchSound t
  events : EventsSound s → EventsSound t
  inTime : s.InTime s.now → t.InTime t.now

theorem Upholds.refl (s : State) : Upholds s s := ⟨id, id, id⟩

theorem Upholds.trans {s t u : State} (h : Upholds s t) (k : Upholds t u) : Upholds s u :=
  ⟨fun x => k.watch (h.watch x), fun x => k.events (h.events x), fun x => k.inTime (h.inTime x)⟩

/-- The second of two changes named first. -/
theorem Upholds.after {s t u : State} (k : Upholds t u) (h : Upholds s t) : Upholds s u := h.trans k

theorem State.activeBank_congr {s t : State} (h : t.banks = s.banks) : t.activeBank = s.activeBank := by
  simp [State.activeBank, State.bank, h]

theorem State.Served.alarmed {s t : State} {b : Bus} (h : s.Served b) (hb : t.banks = s.banks)
    (hc : (s.channel b).AlarmedTo (t.channel b)) : t.Served b := by
  unfold State.Served
  rw [State.activeBank_congr hb]
  obtain ⟨x, y, z, hc⟩ := hc
  rw [hc]
  exact h

/-- A move keeps the channels sound where it leaves the bus's own channel sound. -/
theorem Ties.watch {b : Bus} {s t : State} (h : Ties b s t) (hb : t.banks = s.banks)
    (hc : WatchSound s → (t.channel b).SagSound ∧ (t.channel b).TimerSound ∧ t.Served b) : WatchSound s → WatchSound t := by
  intro hs
  have hs' := watchSound_iff.1 hs
  refine watchSound_iff.2 ⟨fun d => ?_, h.linked hs'.2⟩
  by_cases hd : d = b
  · exact hd ▸ hc hs
  · obtain ⟨hsag, htim, hserved⟩ := hs'.1 d
    exact ⟨hsag.alarmed (h.other d hd), htim.alarmed (h.other d hd), hserved.alarmed hb (h.other d hd)⟩

theorem Kept.upholds {s t : State} (h : Kept s t) (hb : t.banks = s.banks) : Upholds s t where
  watch := fun hs => by
    have hs' := watchSound_iff.1 hs
    refine watchSound_iff.2 ⟨fun d => ?_, (h.ties 0).linked hs'.2⟩
    obtain ⟨hsag, htim, hserved⟩ := hs'.1 d
    exact ⟨hsag.alarmed (h.channel d), htim.alarmed (h.channel d), hserved.alarmed hb (h.channel d)⟩
  events := h.eventsSound
  inTime := (h.ties 0).timely.inTime

theorem Firm.upholds {s t : State} (h : Firm s t) (hb : t.banks = s.banks) : Upholds s t := h.kept.upholds hb

/-- A change of one channel that has no part in its soundness. -/
theorem State.setChannel_upholds {s : State} {b : Bus} {c : BusChannel}
    (hc : c = { s.channel b with alarms := c.alarms, counters := c.counters }) : Upholds s (s.setChannel b c) := by
  have ht : Ties b s (s.setChannel b c) := State.setChannel_ties (by rw [hc]) fun n hn => .inl (by rw [hc] at hn; exact hn)
  refine ⟨ht.watch (by simp) fun hs => ?_, ht.events, ht.timely.inTime⟩
  obtain ⟨hsag, htim, hserved⟩ := (watchSound_iff.1 hs).1 b
  unfold State.Served
  rw [State.activeBank_congr (s := s) (t := s.setChannel b c) (by simp), State.channel_setChannel, if_pos rfl, hc]
  exact ⟨⟨hsag.1, hsag.2, hsag.3, hsag.4, hsag.5⟩, htim, hserved⟩

theorem State.countBus_upholds (s : State) (b : Bus) (f : BusCounters → BusCounters) : Upholds s (s.countBus b f) :=
  State.setChannel_upholds rfl

/-! ## SENSE frames -/

/-- What an acceptance takes: the bus of the head, in service, and its row. -/
theorem State.verdict_accepted {s : State} {x : HandedSense} {b : Bus} {r : BusRow} (h : s.verdict x = .accepted b r) :
    (s.channel b).detection ≠ .outOfService ∧ s.row b = some r := by
  unfold State.verdict at h
  split at h
  · cases h
  · split at h
    · cases h
    · next hd =>
      split at h
      · cases h
      · next r' hr =>
        unfold BusChannel.judge at h
        split at h
        · cases h; exact ⟨hd, hr⟩
        · split at h
          · cases h
          · split at h
            · cases h
            · cases h; exact ⟨hd, hr⟩

theorem State.passOn_firm (s : State) (f : AcceptedFrame) (taken : TakenAhead) : Firm s (s.passOn f taken) :=
  .of_eq rfl rfl rfl rfl rfl rfl

/-- The channel that takes the frame, up to the evaluation. -/
theorem State.accept_ties (s : State) (b : Bus) (r : BusRow) (x : HandedSense) :
    Ties b s (s.modChannel b (BusChannel.accept s.now r x)) :=
  State.setChannel_ties rfl fun n hn => .inr (by
    simp only [BusChannel.accept, Option.some.injEq] at hn
    omega)

theorem State.takeSense_upholds (s : State) (x : HandedSense) : Upholds s (s.takeSense x) := by
  unfold State.takeSense
  split
  · exact (s.countPort_firm _).upholds (by simp)
  · exact s.countBus_upholds _ _
  · exact s.countBus_upholds _ _
  · exact s.countBus_upholds _ _
  · next b r hv =>
    dsimp only
    have hd := (State.verdict_accepted hv).1
    have hacc := s.accept_ties b r x
    refine Upholds.after ((State.passOn_firm _ _ _).upholds (by simp [State.passOn])) ?_
    have hmoves := (State.evaluate_moves _ b r ((s.channel b).acceptedFrame b r x)).after hacc.toMoves
    refine ⟨fun hs => ?_, hmoves.events, hmoves.timely.inTime⟩
    obtain ⟨hsag, -, hserved⟩ := (watchSound_iff.1 hs).1 b
    have hch : (s.modChannel b (BusChannel.accept s.now r x)).channel b = BusChannel.accept s.now r x (s.channel b) := by
      simp
    have hlands := State.evaluate_lands (s := s.modChannel b (BusChannel.accept s.now r x)) (r := r)
      (f := (s.channel b).acceptedFrame b r x) (b := b) rfl
      (by rw [hch]; exact ⟨hsag.1, hsag.2, hsag.3, hsag.4, hsag.5⟩) (by rw [hch]; rfl) (by rw [hch]; exact hd)
    refine (hlands.toTies.after hacc).watch (by simp) (fun _ => ⟨hlands.active.toSagSound, hlands.active.timerSound, ?_⟩) hs
    intro _
    rw [State.activeBank_congr (s := s) (by simp)]
    exact hserved hd

theorem State.takeNextSense_upholds (s : State) : Upholds s s.takeNextSense := by
  unfold State.takeNextSense
  split
  · exact .refl s
  · refine (State.takeSense_upholds _ _).after ?_
    exact Firm.upholds (.of_eq rfl rfl rfl rfl rfl rfl) rfl

theorem State.settleAhead_upholds (s : State) : Upholds s s.settleAhead := by
  unfold State.settleAhead
  split
  · exact .refl s
  · split
    · exact s.takeNextSense_upholds
    · exact .refl s

/-! ## The end of a bus's watch -/

/-- The channel of a bus whose watch ends: its sag ended, its one-shot stopped. -/
theorem State.leaveSag_upholds {s : State} {b : Bus} {cause : EndCause} {d : Detection} {g : BusChannel → BusChannel}
    {n : Report} (hd : d = .silent ∨ d = .outOfService) (hserved : WatchSound s → d = .silent →
      (s.activeBank.busRows[b]).isSome)
    (hg : ∀ c : BusChannel, g c = { c with silence := none, baseline := (g c).baseline }) :
    Upholds s ((((s.endSag b cause).modChannel b (BusChannel.leaveSag d)).modChannel b g).report n) := by
  have h1 := s.endSag_ties b cause
  have h2 : Ties b s ((s.endSag b cause).modChannel b (BusChannel.leaveSag d)) :=
    (State.modChannel_ties rfl rfl).after h1
  have h3 : Ties b s (((s.endSag b cause).modChannel b (BusChannel.leaveSag d)).modChannel b g) :=
    (State.setChannel_ties (by rw [hg]) fun m hm => by rw [hg] at hm; cases hm).after h2
  have h4 := ((State.report_sheds _ n).firm.ties b).after h3
  refine ⟨h4.watch (by simp) fun hs => ?_, h4.events, h4.timely.inTime⟩
  have hch : ((((s.endSag b cause).modChannel b (BusChannel.leaveSag d)).modChannel b g).report n).channel b =
      g (((s.endSag b cause).channel b).leaveSag d) := by
    rw [State.channel_congr (State.report_sheds _ n).channels]
    simp
  have hsag := ((s.channel b).sagEnded_leaveSag (d := d) (by rcases hd with rfl | rfl <;> simp)).alarmed
    ((s.endSag_channel b cause).leaveSag d)
  unfold State.Served
  rw [hch, hg, State.activeBank_congr (s := s) (by simp)]
  refine ⟨⟨hsag.1, hsag.2, hsag.3, hsag.4, hsag.5⟩, ?_, fun h => ?_⟩
  · rcases hd with rfl | rfl <;> simp [BusChannel.TimerSound, BusChannel.leaveSag]
  · rcases hd with rfl | rfl
    · exact hserved hs rfl
    · simp [BusChannel.leaveSag] at h

theorem State.silenceExpires_upholds (s : State) (b : Bus) : Upholds s (s.silenceExpires b) := by
  unfold State.silenceExpires
  split
  · next h =>
    refine State.leaveSag_upholds (.inl rfl) (fun hs _ => ?_) fun _ => rfl
    obtain ⟨-, htim, hserved⟩ := (watchSound_iff.1 hs).1 b
    refine hserved fun ho => ?_
    have := htim.2 (.inr ho)
    simp [State.silenceDue, this] at h
  · exact .refl s

theorem State.serviceOff_upholds (s : State) (b : Bus) : Upholds s (s.serviceOff b) := by
  unfold State.serviceOff
  dsimp only
  split
  · exact .refl s
  · exact State.leaveSag_upholds (.inr rfl) (fun _ h => by cases h) fun _ => rfl

/-! ## A bus put in service -/

theorem State.row_enterNormal (s : State) (b : Bus) : (s.enterNormal b).row b = s.activeBank.busRows[b] := by
  rw [State.row, State.enterNormal_channel, if_pos rfl]
  simp [State.bank, State.activeBank]

theorem State.startSilence_timely (s : State) (b : Bus) : Moves b s (s.startSilence b) := by
  unfold State.startSilence
  split
  · exact (Ties.refl b s).toMoves
  · exact State.setChannel_moves fun n hn => .inr (by
      simp only [Option.some.injEq] at hn
      omega)

/-- A bus out of service as it enters NORMAL, its one-shot not yet started (R21). -/
def State.readied (s : State) (b : Bus) : State := (s.setChannel b { s.channel b with baseline := none }).enterNormal b

/-- The bus put in service (R21). -/
def State.served (s : State) (b : Bus) (row : BusRow) : State :=
  ((s.readied b).setChannel b { (s.readied b).channel b with silence := some (s.now + row.silenceTimeout) }).report
    (.busState b .outOfService .normal .management none)

theorem State.serviceOn_already {s : State} {b : Bus} (h : (s.channel b).detection ≠ .outOfService) :
    s.serviceOn b = some s := by simp [State.serviceOn, h]

theorem State.serviceOn_invalid {s : State} {b : Bus} (h : (s.channel b).detection = .outOfService)
    (hr : s.activeBank.busRows[b] = none) : s.serviceOn b = none := by simp [State.serviceOn, h, hr]

theorem State.serviceOn_valid {s : State} {b : Bus} {row : BusRow} (h : (s.channel b).detection = .outOfService)
    (hr : s.activeBank.busRows[b] = some row) : s.serviceOn b = some (s.served b row) := by
  have hrow : (s.readied b).row b = some row := by
    rw [State.readied, State.row_enterNormal, State.activeBank_congr (s := s) (by simp), hr]
  have hnow : (s.readied b).now = s.now := by simp [State.readied]
  have hstart : (s.readied b).startSilence b =
      (s.readied b).setChannel b { (s.readied b).channel b with silence := some (s.now + row.silenceTimeout) } := by
    rw [State.startSilence, hrow, ← hnow]
    rfl
  rw [State.serviceOn, if_neg (by simp [h]), hr, State.served, ← hstart]
  rfl

theorem State.readied_channel (s : State) (b : Bus) :
    (s.readied b).channel b = { (s.channel b).cleared with baseline := none, bankInUse := s.banks.active } := by
  rw [State.readied, State.enterNormal_channel, if_pos rfl, State.channel_setChannel, if_pos rfl]
  rfl

/-- The one-shot as it is started has not come to its expiry. -/
theorem State.readied_starts (s : State) (b : Bus) (row : BusRow) (n : Nat)
    (hn : some (s.now + row.silenceTimeout) = some n) :
    ((s.readied b).channel b).silence = some n ∨ (s.readied b).now ≤ n := by
  have hnow : (s.readied b).now = s.now := by simp [State.readied]
  cases hn
  exact .inr (hnow ▸ Nat.le_add_right _ _)

theorem State.served_moves (s : State) (b : Bus) (row : BusRow) : Moves b s (s.served b row) :=
  ((State.report_sheds _ _).moves b).after ((State.setChannel_moves (s.readied_starts b row)).after
    ((State.enterNormal_moves _ b).after (State.setChannel_moves fun _ hn => .inl hn)))

theorem State.served_lands {s : State} {b : Bus} (row : BusRow) (ho : (s.channel b).openEvent = none) :
    Lands b s (s.served b row) := by
  have h1 : Ties b s (s.readied b) :=
    (State.enterNormal_ties (by simpa using ho)).after (State.setChannel_ties rfl fun _ hn => .inl hn)
  have h2 := (State.setChannel_ties (s := s.readied b) (b := b)
    (c := { (s.readied b).channel b with silence := some (s.now + row.silenceTimeout) }) rfl
    (s.readied_starts b row)).after h1
  refine Lands.then ⟨h2, ?_⟩ (State.report_sheds _ _)
  rw [State.channel_setChannel, if_pos rfl, State.readied_channel]
  exact BusChannel.cleared_active (c := { s.channel b with baseline := none, silence := some _ }) rfl _

theorem State.serviceOn_upholds {s t : State} {b : Bus} (h : s.serviceOn b = some t) : Upholds s t := by
  by_cases hd : (s.channel b).detection = .outOfService
  · cases hr : s.activeBank.busRows[b] with
    | none => rw [State.serviceOn_invalid hd hr] at h; cases h
    | some row =>
      rw [State.serviceOn_valid hd hr] at h
      cases h
      have hm := s.served_moves b row
      refine ⟨fun hs => ?_, hm.events, hm.timely.inTime⟩
      obtain ⟨ho, -⟩ := ((watchSound_iff.1 hs).1 b).1.noEvent (by simp [BusChannel.inSag, hd])
      have hl := State.served_lands row ho
      have hb : (s.served b row).banks = s.banks := by simp [State.served, State.readied]
      refine hl.toTies.watch hb (fun _ => ⟨hl.active.toSagSound, hl.active.timerSound, fun _ => ?_⟩) hs
      rw [State.activeBank_congr hb, hr]
      rfl
  · rw [State.serviceOn_already hd] at h
    cases h
    exact .refl s

end Sys2Proof.Machine
end

section
/-! SUPPORT. The expiries and the moves of the time base: what an expiry takes, what a second expiry of the same timer takes
(nothing), and what the move of the time base upholds. -/

namespace Sys2Proof.Machine

/-! ## The end of a sag, as the requests and timers see it -/

theorem FirmBut.owned {i : EventIx} {s t : State} (h : FirmBut i s t) (hq : ∀ q ∈ t.pool.grantQueue, q.event ≠ i)
    (hs : s.Owned) : t.Owned := by
  intro q hm
  obtain ⟨e, he, ho, hf⟩ := hs q (h.queue.subset hm)
  obtain ⟨e', he', hb⟩ := (he ▸ h.entry q.event (hq q hm)).opens ho
  refine ⟨e', he', hb.opens.trans ho, fun hk => ?_⟩
  obtain ⟨e'', he'', hr⟩ := h.requesting q.event e (hq q hm) he (hf hk)
  rw [he'] at he''
  exact Option.some.inj he'' ▸ hr

theorem State.Owned.congr {s t : State} (hs : s.Owned) (hq : t.pool.grantQueue = s.pool.grantQueue)
    (he : ∀ i, t.entry i = s.entry i) : t.Owned := by
  intro q hm
  rw [he]
  exact hs q (hq ▸ hm)

/-- A channel's change that starts no one-shot. -/
theorem State.timers_setChannel_subset {s : State} {b : Bus} {c : BusChannel}
    (hs : ∀ n, c.silence = some n → (s.channel b).silence = some n) : ∀ x ∈ (s.setChannel b c).timers, x ∈ s.timers := by
  intro x hx
  rcases State.mem_timers_setChannel hx with h | ⟨n, hn, rfl⟩
  · exact h
  · exact State.silence_mem_timers.2 (hs n hn)

theorem State.timers_modChannel_subset {s : State} {b : Bus} {f : BusChannel → BusChannel}
    (hf : ∀ c n, (f c).silence = some n → c.silence = some n) : ∀ x ∈ (s.modChannel b f).timers, x ∈ s.timers :=
  State.timers_setChannel_subset (hf _)

theorem State.endSag_timers (s : State) (b : Bus) (cause : EndCause) : ∀ x ∈ (s.endSag b cause).timers, x ∈ s.timers := by
  have hu : ∀ x ∈ (s.endUntracked b).timers, x ∈ s.timers := by
    rw [State.endUntracked_eq]
    exact State.timers_setChannel_subset fun _ => id
  cases h : (s.channel b).openEvent with
  | none => rw [State.endSag_none cause h]; exact hu
  | some i =>
    rw [State.endSag_some cause h]
    intro x hx
    refine hu x (((s.endUntracked b).endEvent_but i cause).timers x ?_)
    generalize (s.endUntracked b).endEvent i cause = t at hx
    refine State.timers_modChannel_subset (s := t) (b := b) (fun c n h => ?_) x hx
    exact h

theorem State.endSag_queue (s : State) (b : Bus) (cause : EndCause) :
    (s.endSag b cause).pool.grantQueue.Sublist s.pool.grantQueue := by
  have hu : (s.endUntracked b).pool.grantQueue = s.pool.grantQueue := by simp
  cases h : (s.channel b).openEvent with
  | none => rw [State.endSag_none cause h, hu]
  | some i =>
    rw [State.endSag_some cause h, ← hu]
    simpa using ((s.endUntracked b).endEvent_but i cause).queue

theorem State.endSag_owned {s : State} (hs : s.Owned) (b : Bus) (cause : EndCause) : (s.endSag b cause).Owned := by
  have hu : (s.endUntracked b).Owned := hs.congr (by simp) fun i => by simp
  cases h : (s.channel b).openEvent with
  | none => rw [State.endSag_none cause h]; exact hu
  | some i =>
    rw [State.endSag_some cause h]
    exact (((s.endUntracked b).endEvent_but i cause).owned (State.endEvent_requests _ i cause) hu).congr (by simp)
      fun j => by simp

/-! ## An expiry -/

/-- An expiry starts no timer and brings no request. -/
structure Runs (s t : State) : Prop where
  now : t.now = s.now
  queue : t.pool.grantQueue.Sublist s.pool.grantQueue
  timers : ∀ x ∈ t.timers, x ∈ s.timers

theorem Runs.refl (s : State) : Runs s s := ⟨rfl, .refl _, fun _ => id⟩

theorem Runs.trans {s t u : State} (h : Runs s t) (k : Runs t u) : Runs s u :=
  ⟨k.now.trans h.now, k.queue.trans h.queue, fun x hx => h.timers x (k.timers x hx)⟩

theorem Calm.runs {s t : State} (h : Calm s t) : Runs s t := ⟨h.now, h.queue, h.timers⟩

theorem State.silenceExpires_runs (s : State) (b : Bus) : Runs s (s.silenceExpires b) := by
  unfold State.silenceExpires
  split
  · refine Runs.trans ?_ (State.report_firm _ _).toCalm.runs
    refine ⟨by simp, by simpa using s.endSag_queue b .lostSight, fun x hx => s.endSag_timers b .lostSight x ?_⟩
    generalize s.endSag b .lostSight = t at hx
    refine State.timers_modChannel_subset (b := b) (fun c n h => ?_) x
      (State.timers_modChannel_subset (b := b) (fun c n h => ?_) x hx)
    · exact h
    · cases h
  · exact .refl s

theorem State.expire_runs (s : State) (x : Timer) : Runs s (s.expire x) := by
  cases x with
  | silence b => exact s.silenceExpires_runs b
  | store => exact s.storeExpires_firm.toCalm.runs
  | acknowledgement k => exact (s.ackExpires_quiet k).toCalm.runs
  | wait kind i => cases kind with
    | first => exact (s.firstExpires_calm i).runs
    | topup => exact (s.topupExpires_firm i).toCalm.runs

theorem State.expire_owned {s : State} (hs : s.Owned) (x : Timer) : (s.expire x).Owned := by
  cases x with
  | silence b =>
    show (s.silenceExpires b).Owned
    unfold State.silenceExpires
    split
    · have h := State.endSag_owned hs b .lostSight
      refine (State.report_firm _ _).quiet.owned ?_
      exact h.congr (by simp) fun j => by simp
    · exact hs
  | store => exact s.storeExpires_firm.quiet.owned hs
  | acknowledgement k => exact (s.ackExpires_quiet k).owned hs
  | wait kind i => cases kind with
    | first => exact (State.firstExpires_quiet hs i).owned hs
    | topup => exact (s.topupExpires_firm i).quiet.owned hs

theorem State.expire_upholds {s : State} (hs : s.Owned) (x : Timer) : Upholds s (s.expire x) := by
  have hb := (s.expire_frame x)
  cases x with
  | silence b => exact s.silenceExpires_upholds b
  | store => exact s.storeExpires_firm.upholds (by simp)
  | acknowledgement k => exact (s.ackExpires_quiet k).kept.upholds (by simp)
  | wait kind i => cases kind with
    | first => exact (State.firstExpires_quiet hs i).kept.upholds (by simp)
    | topup => exact (s.topupExpires_firm i).upholds (by simp)

/-! ## What an expiry takes -/

theorem State.silenceExpires_silence {s : State} {b : Bus} (h : s.silenceDue b = true) :
    ((s.silenceExpires b).channel b).silence = none := by
  rw [State.silenceExpires, if_pos h, State.channel_congr (State.report_sheds _ _).channels]
  simp

theorem State.storeExpires_silence {s : State} (h : s.storeSilenceDue = true) : s.storeExpires.pool.storeSilence = none := by
  rw [State.storeExpires, if_pos h]
  simp

/-- A stack whose commands are flushed has no acknowledgement timer. -/
theorem State.ackExpires_untimed {s : State} {k : Station} {o : Outstanding}
    (h : (s.view k).outstanding.find? (Outstanding.due s.now) = some o) (n : Nat) :
    (⟨.acknowledgement k, n⟩ : Running) ∉ (s.ackExpires k).timers := by
  have hflush : (⟨.acknowledgement k, n⟩ : Running) ∉ (s.flush k).timers := by
    rw [State.acknowledgement_mem_timers]
    rintro ⟨o, ho, hn⟩
    have := (State.queueCommand_sheds _ k .bypass).timed k o ho n hn
    rw [State.view_congr (s := s.modView k StackView.flushed) (by simp), State.view_modView, if_pos rfl] at this
    simp [StackView.flushed] at this
  unfold State.ackExpires
  simp only [h]
  split
  · exact fun hm => hflush ((State.reportFault_firm _ _ _ _ _ _).timers _ hm)
  · exact fun hm => hflush ((State.faultEffects_quiet _ k).timers _ ((State.reportFault_firm _ _ _ _ _ _).timers _ hm))

theorem State.firstExpires_requests {s : State} {i : EventIx} (h : s.waitExpired i .first = true) :
    ∀ q ∈ (s.firstExpires i).pool.grantQueue, q.event ≠ i := by
  rw [State.firstExpires, if_pos h]
  intro q hq
  have := (s.bypass_after i .denied false).queue.subset hq
  exact s.dropRequest_none i q (by simpa [State.leavePath] using this)

theorem State.topupExpires_requests {s : State} {i : EventIx} (h : s.waitExpired i .topup = true) :
    ∀ q ∈ (s.topupExpires i).pool.grantQueue, q.event ≠ i := by
  rw [State.topupExpires, if_pos h]
  intro q hq
  exact s.dropRequest_none i q (by simpa using hq)

theorem State.requestOf_none {s : State} {i : EventIx} (h : ∀ q ∈ s.pool.grantQueue, q.event ≠ i) :
    s.requestOf i = none := by
  simpa [State.requestOf] using h

/-- Where an event has one request, it is found. -/
theorem State.requestOf_mem {s : State} (hn : (s.pool.grantQueue.map (·.event)).Nodup) {q : GrantRequest}
    (hq : q ∈ s.pool.grantQueue) : s.requestOf q.event = some q := by
  unfold State.requestOf
  cases h : s.pool.grantQueue.find? fun r => decide (r.event = q.event) with
  | none => simp only [List.find?_eq_none, decide_eq_true_eq] at h; exact absurd rfl (h q hq)
  | some r =>
    have hr : r.event = q.event := by simpa using List.find?_some h
    rw [List.inj_on_of_nodup_map hn (List.mem_of_find?_eq_some h) hq hr]

/-- An expiry that has come takes its timer. -/
theorem State.expire_gone {s : State} (hn : (s.pool.grantQueue.map (·.event)).Nodup) {x : Running} (hx : x.expiry ≤ s.now) :
    x ∉ (s.expire x.timer).timers := by
  intro hm
  have hs := (s.expire_runs x.timer).timers x hm
  obtain ⟨x, n⟩ := x
  dsimp only at hx hm
  cases x with
  | silence b =>
    rw [State.silence_mem_timers] at hs hm
    have hd : s.silenceDue b = true := by simp [State.silenceDue, hs, hx]
    rw [show s.expire (.silence b) = s.silenceExpires b from rfl, State.silenceExpires_silence hd] at hm
    cases hm
  | store =>
    rw [State.store_mem_timers] at hs hm
    have hd : s.storeSilenceDue = true := by simp [State.storeSilenceDue, hs, hx]
    rw [show s.expire .store = s.storeExpires from rfl, State.storeExpires_silence hd] at hm
    cases hm
  | acknowledgement k =>
    rw [State.acknowledgement_mem_timers] at hs
    obtain ⟨o, ho, hon⟩ := hs
    cases h : (s.view k).outstanding.find? (Outstanding.due s.now) with
    | none =>
      rw [List.find?_eq_none] at h
      exact h o ho (by simp [Outstanding.due, hon, hx])
    | some p => exact State.ackExpires_untimed h n hm
  | wait kind i =>
    rw [State.wait_mem_timers] at hs hm
    obtain ⟨q, hq, rfl, rfl, rfl⟩ := hs
    obtain ⟨p, hp, -, hpi, -⟩ := hm
    have hd : s.waitExpired q.event q.kind = true := by simp [State.waitExpired, State.requestOf_mem hn hq, hx]
    cases hk : q.kind with
    | first => rw [hk] at hd hp; exact State.firstExpires_requests hd p hp hpi
    | topup => rw [hk] at hd hp; exact State.topupExpires_requests hd p hp hpi

/-- A second expiry of one timer at one moment takes nothing. -/
theorem State.expire_expire (s : State) (x : Timer) : (s.expire x).expire x = s.expire x := by
  have hnow := (s.expire_runs x).now
  cases x with
  | silence b =>
    by_cases h : s.silenceDue b = true
    · have := State.silenceExpires_silence h
      exact if_neg (by rw [State.silenceDue, show s.expire (.silence b) = s.silenceExpires b from rfl, this]; simp)
    · have : s.expire (.silence b) = s := if_neg h
      rw [this, this]
  | store =>
    by_cases h : s.storeSilenceDue = true
    · have := State.storeExpires_silence h
      exact if_neg (by rw [State.storeSilenceDue, show s.expire .store = s.storeExpires from rfl, this]; simp)
    · have : s.expire .store = s := if_neg h
      rw [this, this]
  | acknowledgement k =>
    cases h : (s.view k).outstanding.find? (Outstanding.due s.now) with
    | none =>
      have : s.expire (.acknowledgement k) = s := by simp [State.expire, State.ackExpires, h]
      rw [this, this]
    | some o =>
      have hnone : ((s.ackExpires k).view k).outstanding.find? (Outstanding.due (s.ackExpires k).now) = none := by
        rw [List.find?_eq_none]
        intro p hp
        unfold Outstanding.due
        split
        · next n hn => exact absurd (State.acknowledgement_mem_timers.2 ⟨p, hp, hn⟩) (State.ackExpires_untimed h n)
        · simp
        · simp
      change (s.ackExpires k).ackExpires k = s.ackExpires k
      generalize s.ackExpires k = t at hnone ⊢
      simp only [State.ackExpires, hnone]
  | wait kind i =>
    cases kind with
    | first =>
      by_cases h : s.waitExpired i .first = true
      · have := State.requestOf_none (State.firstExpires_requests h)
        exact if_neg (by rw [State.waitExpired, show s.expire (.wait .first i) = s.firstExpires i from rfl, this]; simp)
      · have : s.expire (.wait .first i) = s := if_neg h
        rw [this, this]
    | topup =>
      by_cases h : s.waitExpired i .topup = true
      · have := State.requestOf_none (State.topupExpires_requests h)
        exact if_neg (by rw [State.waitExpired, show s.expire (.wait .topup i) = s.topupExpires i from rfl, this]; simp)
      · have : s.expire (.wait .topup i) = s := if_neg h
        rw [this, this]

/-! ## The move of the time base -/

/-- What the move of the time base needs of the Grant Queue: its requests are of their events, one of each event. -/
structure State.Requested (s : State) : Prop where
  owned : s.Owned
  once : (s.pool.grantQueue.map (·.event)).Nodup

theorem GrantQueueSound.requested {s : State} (h : GrantQueueSound s) : s.Requested := ⟨h.requestsOwned, h.once⟩

theorem State.Requested.now {s : State} (h : s.Requested) (n : Nat) : ({ s with now := n } : State).Requested :=
  ⟨h.owned.congr rfl fun _ => rfl, h.once⟩

theorem watchSound_now {s : State} (n : Nat) (h : WatchSound s) : WatchSound { s with now := n } :=
  ⟨h.sag, h.apart, h.suspectStart, h.suspectLowest, h.run, h.silence, h.served, h.openEvent, h.linked⟩

theorem eventsSound_now {s : State} (n : Nat) (h : EventsSound s) : EventsSound { s with now := n } :=
  ⟨h.strikes, h.claims, h.step, h.onPath, h.deepest, h.breachRun, h.outcome⟩

/-- Several expiries, each at its time: the requests and what is sound stay so, no timer is new, and those taken are gone. -/
theorem foldl_expireInTime {s : State} (hs : s.Requested) (l : List Running) :
    (l.foldl State.expireInTime s).Requested ∧ (WatchSound s → WatchSound (l.foldl State.expireInTime s)) ∧
      (EventsSound s → EventsSound (l.foldl State.expireInTime s)) ∧
      (∀ x ∈ (l.foldl State.expireInTime s).timers, x ∈ s.timers) ∧
      ∀ x ∈ l, x ∉ (l.foldl State.expireInTime s).timers := by
  induction l generalizing s with
  | nil => exact ⟨hs, id, id, fun _ => id, by simp⟩
  | cons x l ih =>
    have hn := hs.now (max s.now x.expiry)
    have hr := State.expire_runs { s with now := max s.now x.expiry } x.timer
    have hu := State.expire_upholds hn.owned x.timer
    have hq : (s.expireInTime x).Requested :=
      ⟨State.expire_owned hn.owned x.timer, (hr.queue.map _).nodup hn.once⟩
    obtain ⟨h1, h2, h3, h4, h5⟩ := ih hq
    have hsub : ∀ y ∈ (s.expireInTime x).timers, y ∈ s.timers := fun y hy => by
      simpa using hr.timers y hy
    refine ⟨h1, fun h => h2 (hu.watch (watchSound_now _ h)), fun h => h3 (hu.events (eventsSound_now _ h)),
      fun y hy => hsub y (h4 y hy), fun y hy => ?_⟩
    rcases List.mem_cons.1 hy with rfl | hy
    · exact fun hm => State.expire_gone (s := { s with now := max s.now y.expiry }) hn.once (le_max_right _ _) (h4 y hm)
    · exact h5 y hy

theorem State.mem_overdue {s : State} {time : Nat} {x : Running} :
    x ∈ s.overdue time ↔ x ∈ s.timers ∧ x.expiry + 1 < time := by
  simp [State.overdue]

/-- The move of the time base keeps the requests and what is sound, and leaves no timer late. -/
theorem State.at_requested {s : State} (hs : s.Requested) (time : Nat) : (s.at time).Requested :=
  (foldl_expireInTime hs _).1.now _

theorem State.at_upholds {s : State} (hs : s.Requested) (time : Nat) : Upholds s (s.at time) := by
  obtain ⟨-, h2, h3, h4, h5⟩ := foldl_expireInTime hs (s.overdue (max s.now time))
  refine ⟨fun h => watchSound_now _ (h2 h), fun h => eventsSound_now _ (h3 h), fun _ x hx => ?_⟩
  rw [State.at_now, max_self]
  by_contra hlate
  have hx' : x ∈ ((s.overdue (max s.now time)).foldl State.expireInTime s).timers := by
    rw [State.at, State.timers_now] at hx
    exact hx
  exact h5 x (State.mem_overdue.2 ⟨h4 x hx', by omega⟩) hx'

/-! ## One late timer -/

theorem State.now_eq {s : State} {n : Nat} (h : s.now = n) : { s with now := n } = s := by
  subst h
  rfl

theorem State.expireInTime_now (s : State) (x : Running) : (s.expireInTime x).now = max s.now x.expiry :=
  (State.expire_runs _ _).now

/-- A timer taken in time is taken once. -/
theorem State.expireInTime_again (s : State) (x : Running) : (s.expireInTime x).expireInTime x = s.expireInTime x := by
  have hn : max (s.expireInTime x).now x.expiry = (s.expireInTime x).now := by rw [State.expireInTime_now]; omega
  conv_lhs => rw [State.expireInTime, State.now_eq hn.symm]
  exact State.expire_expire _ _

theorem foldl_expireInTime_same {x : Running} {l : List Running} (h : ∀ y ∈ l, y = x) (s : State) :
    l.foldl State.expireInTime s = if l = [] then s else s.expireInTime x := by
  induction l generalizing s with
  | nil => rfl
  | cons y l ih =>
    obtain rfl := h y (by simp)
    rw [List.foldl_cons, ih fun z hz => h z (List.mem_cons_of_mem _ hz)]
    split
    · rfl
    · rw [State.expireInTime_again]; rfl

/-- The time base moved where `x` alone may be late. -/
theorem State.at_of_one {s : State} {x : Running} {time : Nat}
    (h : ∀ y ∈ s.timers, y ≠ x → max s.now time ≤ y.expiry + 1) :
    s.at time = { (if s.overdue (max s.now time) = [] then s else s.expireInTime x) with now := max s.now time } := by
  rw [State.at, foldl_expireInTime_same fun y hy => ?_]
  obtain ⟨hm, hl⟩ := State.mem_overdue.1 hy
  by_contra hne
  have := h y hm hne
  omega

/-- The one late timer taken first, at its expiry, and then the time base moved. -/
theorem State.at_after_expiry {s : State} {x : Running} {time : Nat} (hx : x ∈ s.timers) (hl : x.expiry + 1 < max s.now time)
    (h : ∀ y ∈ s.timers, y ≠ x → max s.now time ≤ y.expiry + 1) :
    ((s.at x.expiry).expire x.timer).at time = s.at time := by
  have hu : (s.at x.expiry).expire x.timer = s.expireInTime x := by
    rw [State.at_of_one (x := x) fun y hy hne => (h y hy hne).trans' (by omega)]
    split
    · rfl
    · rw [State.now_eq (State.expireInTime_now s x)]
      exact State.expire_expire _ _
  have hnow : max (s.expireInTime x).now time = max s.now time := by rw [State.expireInTime_now]; omega
  have hsub : ∀ y ∈ (s.expireInTime x).timers, y ∈ s.timers := fun y hy => by
    simpa using (State.expire_runs { s with now := max s.now x.expiry } x.timer).timers y hy
  rw [hu, State.at_of_one h, State.at_of_one (x := x) fun y hy hne => by rw [hnow]; exact h y (hsub y hy) hne, hnow,
    if_neg fun h => List.ne_nil_of_mem (State.mem_overdue.2 ⟨hx, hl⟩) h]
  split
  · rfl
  · rw [State.expireInTime_again]

end Sys2Proof.Machine
end

section
/-! SUPPORT. The management requests: each upholds what every command upholds, takes no time, and leaves the commands that wait
alone. -/

namespace Sys2Proof.Machine

/-! ## Attending a request -/

/-- What is upheld, with the time base standing and the commands that wait left alone. -/
structure Attends (s t : State) : Prop extends Upholds s t where
  now : t.now = s.now
  pending : t.pending = s.pending

theorem Attends.refl (s : State) : Attends s s := ⟨.refl s, rfl, rfl⟩

/-- The second of two changes named first. -/
theorem Attends.after {s t u : State} (k : Attends t u) (h : Attends s t) : Attends s u :=
  ⟨h.toUpholds.trans k.toUpholds, k.now.trans h.now, k.pending.trans h.pending⟩

theorem Firm.attends {s t : State} (h : Firm s t) (hb : t.banks = s.banks) (hp : t.pending = s.pending) : Attends s t :=
  ⟨h.upholds hb, h.now, hp⟩

/-- Nothing that is spoken of changes. -/
theorem Attends.of_eq {s t : State} (hn : t.now = s.now) (hp : t.pending = s.pending) (hc : t.channels = s.channels)
    (he : t.events.entries = s.events.entries) (hq : t.pool.grantQueue = s.pool.grantQueue)
    (hs : t.pool.storeSilence = s.pool.storeSilence) (hv : t.views = s.views) (hb : t.banks = s.banks) : Attends s t :=
  (Firm.of_eq hn hc he hq hs hv).attends hb hp

theorem State.unless_attends {s : State} {reason : Option Reason} {go : Handled} (h : Attends s go.1) :
    Attends s (s.unless reason go).1 := by
  cases reason with
  | none => exact h
  | some r => exact .refl s

theorem State.onBus_attends {s : State} {fields : List Byte} {go : Bus → Handled} (h : ∀ b, Attends s (go b).1) :
    Attends s (s.onBus fields go).1 := by
  unfold State.onBus
  split
  · exact .refl s
  · exact h _

theorem State.onRecorder_attends {s : State} {n : Nat} {fields : List Byte} {go : CaptureIx → Handled}
    (h : ∀ k, Attends s (go k).1) : Attends s (s.onRecorder n fields go).1 := by
  unfold State.onRecorder
  split
  · exact .refl s
  · exact h _

/-- A request answered at once, its requests' queue the rest of it. -/
theorem State.answerHead_attends {f : Request → State → Handled} (h : ∀ r s, Attends s (f r s).1) (row : RequestRow)
    (s : State) : Attends s (s.answerHead row f) := by
  unfold State.answerHead
  split
  · exact .refl s
  · split
    · next r rest _ _ =>
      have htaken : Attends s { s with management.requests := rest } :=
        .of_eq rfl rfl rfl rfl rfl rfl rfl rfl
      exact (((State.respond_sheds _ _).firm.attends (by simp) (by simp)).after (h r _)).after htaken
    · exact .refl s

theorem State.answerSettled_attends {f : Request → State → Handled} (h : ∀ r s, Attends s (f r s).1) (row : RequestRow)
    (s : State) : Attends s (s.answerSettled row f) := by
  unfold State.answerSettled
  refine (State.answerHead_attends h row _).after ?_
  split
  · exact ⟨s.settleAhead_upholds, by simp, by simp⟩
  · exact .refl s

/-! ## The tables -/

theorem BankIx.other_ne (n : BankIx) : BankIx.other n ≠ n := by
  revert n
  decide

/-- A load of the standby bank: no bus's row in the active bank changes. -/
theorem State.setStandby_attends (s : State) (b : Bank) : Attends s (s.setStandby b) := by
  have hactive : (s.setStandby b).activeBank = s.activeBank := by
    have hne := BankIx.other_ne s.banks.active
    simp [State.activeBank, State.bank, State.setStandby, State.standbyIx, Fin.val_inj, hne]
  refine ⟨⟨fun h => ⟨h.sag, h.apart, h.suspectStart, h.suspectLowest, h.run, h.silence, ?_, h.openEvent, h.linked⟩,
    fun h => ⟨h.strikes, h.claims, h.step, h.onPath, h.deepest, h.breachRun, h.outcome⟩, fun h => h⟩, rfl, rfl⟩
  rw [hactive]
  exact h.served

theorem loadBusRow_attends (r : Request) (s : State) : Attends s (loadBusRow r s).1 := by
  refine State.unless_attends (State.unless_attends ?_)
  split
  · exact .refl s
  · refine State.unless_attends ?_
    unfold State.loadRowOf
    split
    · exact s.setStandby_attends _
    · refine State.unless_attends ?_
      split
      · exact .refl s
      · exact s.setStandby_attends _

theorem loadEnvelopeRow_attends (r : Request) (s : State) : Attends s (loadEnvelopeRow r s).1 := by
  refine State.unless_attends (State.unless_attends (State.unless_attends ?_))
  split
  · exact .refl s
  · exact s.setStandby_attends _

theorem loadStoreParameters_attends (r : Request) (s : State) : Attends s (loadStoreParameters r s).1 := by
  refine State.unless_attends (State.unless_attends (State.unless_attends ?_))
  unfold State.loadStoreOf
  split
  · exact s.setStandby_attends _
  · refine State.unless_attends ?_
    split
    · exact .refl s
    · exact s.setStandby_attends _

theorem readRow_attends (r : Request) (s : State) : Attends s (readRow r s).1 := by
  refine State.unless_attends ?_
  split
  · exact .refl s
  · unfold State.readTable
    split
    · split <;> exact .refl s
    · split <;> exact .refl s
    · exact .refl s
    · exact .refl s

/-! ## COMMIT BANK -/

/-- The banks exchanged and every bus that does not defer moved to the new one (R180). -/
def State.switched (s : State) : State :=
  { s with
    banks.active := s.standbyIx
    channels := eachMember (BusChannel.committed s.standbyIx) s.channels }

theorem State.channel_switched (s : State) (b : Bus) : s.switched.channel b = (s.channel b).committed s.standbyIx := by
  exact getElem_eachMember _ s.channels b

theorem State.switched_frame (s : State) : s.switched.pool = s.pool ∧ s.switched.views = s.views ∧
    s.switched.events = s.events ∧ s.switched.now = s.now ∧ s.switched.pending = s.pending := by
  simp [State.switched]

/-- A commit changes of a channel its bank alone. -/
theorem BusChannel.committed_eq (n : BankIx) (c : BusChannel) : ∃ m, c.committed n = { c with bankInUse := m } := by
  unfold BusChannel.committed
  split
  · exact ⟨_, rfl⟩
  · exact ⟨_, rfl⟩

/-- Where every bus keeps its channel but for the bank it uses, its row in the active bank aside, what is upheld is upheld. -/
theorem upholds_of_bankInUse {s t : State} (hn : t.now = s.now) (hp : t.pool = s.pool) (hv : t.views = s.views)
    (he : t.events = s.events) (hc : ∀ b, ∃ m, t.channel b = { s.channel b with bankInUse := m })
    (hserved : ∀ b, t.Served b) : Upholds s t := by
  have hentry : ∀ i, t.entry i = s.entry i := State.entry_congr (by rw [he])
  refine ⟨fun hs => ?_, fun h => ?_, fun hs x hx => hn ▸ hs x ?_⟩
  · obtain ⟨hbus, hlinked⟩ := watchSound_iff.1 hs
    refine watchSound_iff.2 ⟨fun b => ?_, fun b i => ?_⟩
    · obtain ⟨hsag, htim, -⟩ := hbus b
      obtain ⟨m, hm⟩ := hc b
      refine ⟨?_, ?_, hserved b⟩
      · rw [hm]
        exact ⟨hsag.1, hsag.2, hsag.3, hsag.4, hsag.5⟩
      · rw [hm]
        exact htim
    · obtain ⟨m, hm⟩ := hc b
      rw [State.openBus, hentry, hm]
      exact hlinked b i
  · rw [eventsSound_iff] at h ⊢
    exact fun i e hi => h i e (hentry i ▸ hi)
  · obtain ⟨x, n⟩ := x
    cases x with
    | silence b =>
      obtain ⟨m, hm⟩ := hc b
      rw [State.silence_mem_timers, hm] at hx
      exact State.silence_mem_timers.2 hx
    | store => rwa [State.store_mem_timers, hp, ← State.store_mem_timers] at hx
    | acknowledgement k =>
      rwa [State.acknowledgement_mem_timers, State.view_congr hv k, ← State.acknowledgement_mem_timers] at hx
    | wait kind i => rwa [State.wait_mem_timers, hp, ← State.wait_mem_timers] at hx

theorem State.switched_upholds {s : State} (h : s.commitUnserved = none) : Upholds s s.switched := by
  obtain ⟨hp, hv, he, hn, -⟩ := s.switched_frame
  refine upholds_of_bankInUse hn hp hv he (fun b => ?_) fun b hd => ?_
  · rw [State.channel_switched]
    exact (s.channel b).committed_eq _
  · obtain ⟨m, hm⟩ := (s.channel b).committed_eq s.standbyIx
    rw [State.channel_switched, hm] at hd
    have hstandby := (List.find?_eq_none.1 h) b (List.mem_finRange b)
    have hbank : s.switched.activeBank = s.standbyBank := by
      simp [State.switched, State.activeBank, State.standbyBank, State.bank]
    rw [hbank]
    simpa [hd, Option.isSome_iff_ne_none] using hstandby

theorem State.commit_fst (s : State) : s.commit.1 = s.switched.storeCommitted := by
  simp only [State.commit, State.done, State.switched]

theorem State.commit_attends {s : State} (h : s.commitUnserved = none) : Attends s s.commit.1 := by
  obtain ⟨-, -, -, hn, hp⟩ := s.switched_frame
  rw [State.commit_fst]
  exact ⟨(s.switched.storeCommitted_firm.upholds (by simp)).after (State.switched_upholds h), by simp [hn], by simp [hp]⟩

theorem State.commitUnserved_of_checks {s : State} (h : s.commitChecks = none) : s.commitUnserved = none := by
  unfold State.commitChecks at h
  split at h
  · cases h
  · split at h
    · cases h
    · assumption

theorem commitBank_attends (r : Request) (s : State) : Attends s (commitBank r s).1 := by
  refine State.unless_attends ?_
  cases h : s.commitChecks with
  | some reason => exact .refl s
  | none => exact State.commit_attends (State.commitUnserved_of_checks h)

/-! ## Service -/

theorem State.serviceOn_attends {s t : State} {b : Bus} (h : s.serviceOn b = some t) : Attends s t := by
  refine ⟨State.serviceOn_upholds h, ?_, ?_⟩
  all_goals
    unfold State.serviceOn at h
    split at h
    · cases h; rfl
    · split at h
      · cases h
      · cases h; simp

theorem setServiceOff_attends (r : Request) (s : State) : Attends s (setServiceOff r s).1 :=
  State.unless_attends (State.onBus_attends fun b =>
    State.unless_attends ⟨s.serviceOff_upholds b, (s.serviceOff_frame b).1, (s.serviceOff_frame b).2.1⟩)

theorem setServiceOn_attends (r : Request) (s : State) : Attends s (setServiceOn r s).1 := by
  refine State.unless_attends (State.onBus_attends fun b => ?_)
  split
  · next t ht =>
    exact State.serviceOn_attends ht
  · exact .refl s

/-! ## Capture -/

theorem State.maskRecorder_firm (s : State) (k : CaptureIx) : Firm s (s.maskRecorder k) := by
  unfold State.maskRecorder
  refine (State.modRecorder_sheds _ k _).firm.after ?_
  split
  · exact (s.truncatePass_records k).firm
  · exact .refl s

theorem captureMask_attends (r : Request) (s : State) : Attends s (captureMask r s).1 :=
  State.unless_attends (State.onRecorder_attends fun k =>
    (s.maskRecorder_firm k).attends (by simp) (by simp))

theorem captureUnmask_attends (r : Request) (s : State) : Attends s (captureUnmask r s).1 :=
  State.unless_attends (State.onRecorder_attends fun k =>
    State.unless_attends ((s.modRecorder_sheds k _).firm.attends rfl rfl))

theorem loadCaptureChannel_attends (r : Request) (s : State) : Attends s (loadCaptureChannel r s).1 := by
  refine State.unless_attends (State.onRecorder_attends fun k =>
    State.unless_attends (State.unless_attends (State.unless_attends ?_)))
  split
  · exact .refl s
  · exact (s.modRecorder_sheds k _).firm.attends rfl rfl

theorem readCaptureRecords_attends (r : Request) (s : State) : Attends s (readCaptureRecords r s).1 :=
  State.unless_attends (State.unless_attends (State.unless_attends (State.unless_attends (State.unless_attends (.refl s)))))

theorem readCaptureChannel_attends (r : Request) (s : State) : Attends s (readCaptureChannel r s).1 :=
  State.unless_attends (State.onRecorder_attends fun _ => .refl s)

/-! ## Reads -/

theorem readIdentity_attends (r : Request) (s : State) : Attends s (readIdentity r s).1 := State.unless_attends (.refl s)

theorem readBus_attends (r : Request) (s : State) : Attends s (readBus r s).1 :=
  State.unless_attends (State.onBus_attends fun _ => .refl s)

theorem takeAlarmsBus_attends (r : Request) (s : State) : Attends s (takeAlarmsBus r s).1 :=
  State.unless_attends (State.onBus_attends fun _ => ⟨State.setChannel_upholds rfl, rfl, rfl⟩)

theorem takeAlarmsPool_attends (r : Request) (s : State) : Attends s (takeAlarmsPool r s).1 :=
  State.unless_attends (Attends.of_eq rfl rfl rfl rfl rfl rfl rfl rfl)

theorem readEvent_attends (r : Request) (s : State) : Attends s (readEvent r s).1 := by
  refine State.unless_attends ?_
  split <;> exact .refl s

theorem readPool_attends (r : Request) (s : State) : Attends s (readPool r s).1 := State.unless_attends (.refl s)

theorem readRelease_attends (r : Request) (s : State) : Attends s (readRelease r s).1 := by
  refine State.unless_attends ?_
  split <;> exact .refl s

theorem readPorts_attends (r : Request) (s : State) : Attends s (readPorts r s).1 := State.unless_attends (.refl s)

theorem latchMetering_attends (r : Request) (s : State) : Attends s (latchMetering r s).1 := by
  refine State.unless_attends ?_
  split
  · exact .refl s
  · exact .of_eq rfl rfl rfl rfl rfl rfl rfl rfl

theorem readSnapshot_attends (r : Request) (s : State) : Attends s (readSnapshot r s).1 := by
  refine State.unless_attends (State.unless_attends (State.unless_attends ?_))
  split
  · exact .refl s
  · show Attends s (if byteAt r.fields 1 = 1 then { s with management.snapshot := none } else s)
    split
    · exact .of_eq rfl rfl rfl rfl rfl rfl rfl rfl
    · exact .refl s

end Sys2Proof.Machine
end

section
/-! SUPPORT. RESTART (R189), and then every command: what it upholds, the moment it leaves, and the commands that wait. -/

namespace Sys2Proof.Machine

/-! ## A bus at a restart -/

/-- A channel at a restart (R27), under the active bank and its row there. -/
def BusChannel.restarted (now : Nat) (active : BankIx) (row : Option BusRow) (c : BusChannel) : BusChannel :=
  if c.detection = .outOfService then c
  else
    { c.tallied.cleared with
      bankInUse := active
      silence := match row with
        | none => c.silence
        | some r => some (now + r.silenceTimeout) }

theorem BusChannel.restarted_out {c : BusChannel} (h : c.detection = .outOfService) (now : Nat) (active : BankIx)
    (row : Option BusRow) : c.restarted now active row = c := by
  unfold BusChannel.restarted
  rw [if_pos h]

theorem BusChannel.restarted_in {c : BusChannel} (h : c.detection ≠ .outOfService) (now : Nat) (active : BankIx)
    (row : Option BusRow) : c.restarted now active row =
      { c.tallied.cleared with
        bankInUse := active
        silence := match row with
          | none => c.silence
          | some r => some (now + r.silenceTimeout) } := by
  unfold BusChannel.restarted
  rw [if_neg h]

theorem State.startSilence_channel (s : State) (b d : Bus) :
    (s.startSilence b).channel d = if b = d then { s.channel b with silence := match s.row b with
      | none => (s.channel b).silence
      | some r => some (s.now + r.silenceTimeout) } else s.channel d := by
  cases h : s.row b with
  | none =>
    simp only [State.startSilence, h]
    split
    · next h => subst h; rfl
    · rfl
  | some r => simp only [State.startSilence, h, State.channel_modChannel]

theorem State.restartBus_channel (s : State) (b d : Bus) :
    (s.restartBus b).channel d =
      if b = d then (s.channel b).restarted s.now s.banks.active s.activeBank.busRows[b] else s.channel d := by
  unfold State.restartBus
  split
  · next h =>
    split
    · next hd => subst hd; rw [BusChannel.restarted_out h]
    · rfl
  · next h =>
    have hactive : (s.endUntracked b).activeBank = s.activeBank := State.activeBank_congr (by simp)
    rw [State.startSilence_channel, State.row_enterNormal, hactive, State.enterNormal_channel, if_pos rfl]
    split
    · rw [State.channel_endUntracked, if_pos rfl, BusChannel.restarted_in h]
      simp [BusChannel.cleared, BusChannel.tallied]
    · next hd => rw [State.enterNormal_channel, if_neg hd, State.channel_endUntracked, if_neg hd]

theorem foldl_restartBus_channel {l : List Bus} (hl : l.Nodup) (s : State) (d : Bus) :
    (l.foldl State.restartBus s).channel d =
      if d ∈ l then (s.channel d).restarted s.now s.banks.active s.activeBank.busRows[d] else s.channel d := by
  induction l generalizing s with
  | nil => simp
  | cons b l ih =>
    obtain ⟨hb, hl⟩ := List.nodup_cons.1 hl
    have hactive : (s.restartBus b).activeBank = s.activeBank := State.activeBank_congr (by simp)
    rw [List.foldl_cons, ih hl, State.restartBus_channel, (s.restartBus_frame b).1, hactive]
    by_cases hd : b = d
    · subst hd
      simp [hb]
    · simp [hd, Ne.symm hd]

theorem State.restartBus_moves (s : State) (b : Bus) : Moves b s (s.restartBus b) := by
  unfold State.restartBus
  split
  · exact (Ties.refl b s).toMoves
  · refine (State.startSilence_timely _ b).after ((State.enterNormal_moves _ b).after ?_)
    rw [State.endUntracked_eq]
    exact State.setChannel_moves fun _ hn => .inl hn

theorem foldl_restartBus_timely (l : List Bus) (s : State) : Timely s (l.foldl State.restartBus s) :=
  foldl_relates Timely.refl Timely.trans (fun s b => (s.restartBus_moves b).timely) l s

theorem State.restartBus_free {s : State} (b : Bus) {i : EventIx} (h : s.entry i = none) :
    (s.restartBus b).entry i = none := by
  unfold State.restartBus
  split
  · exact h
  · rw [State.entry_congr (s := (s.endUntracked b).enterNormal b) (by simp), State.enterNormal_eq]
    rcases (State.tidyBus_sheds ((s.endUntracked b).setChannel b
      { ((s.endUntracked b).channel b).cleared with
        bankInUse := (s.endUntracked b).banks.active }) b).entry i with ht | ⟨ht, -⟩
    · rw [ht, State.entry_setChannel, State.entry_endUntracked, h]
    · exact ht

theorem foldl_restartBus_free (l : List Bus) (s : State) (h : ∀ i, s.entry i = none) (i : EventIx) :
    (l.foldl State.restartBus s).entry i = none :=
  foldl_relates (R := fun s t => ∀ i, s.entry i = none → t.entry i = none) (fun _ _ h => h) (fun h k i hi => k i (h i hi))
    (fun _ b _ => State.restartBus_free b) l s i (h i)

/-- A restarted channel is sound where the channel was, under a row of the active bank where it is in service. -/
theorem BusChannel.restarted_sound {c : BusChannel} (hs : c.SagSound) (ht : c.TimerSound) (now : Nat) (active : BankIx)
    {row : Option BusRow} (hr : c.detection ≠ .outOfService → row.isSome) :
    (c.restarted now active row).SagSound ∧ (c.restarted now active row).TimerSound ∧
      (c.restarted now active row).openEvent = none ∧
      ((c.restarted now active row).detection ≠ .outOfService → c.detection ≠ .outOfService) := by
  by_cases h : c.detection = .outOfService
  · rw [BusChannel.restarted_out h]
    exact ⟨hs, ht, (hs.noEvent (by simp [BusChannel.inSag, h])).1, fun h => h⟩
  · obtain ⟨r, rfl⟩ := Option.isSome_iff_exists.1 (hr h)
    rw [BusChannel.restarted_in h]
    have hactive := BusChannel.cleared_active (c := { c.tallied with silence := some (now + r.silenceTimeout) }) rfl active
    exact ⟨hactive.toSagSound, hactive.timerSound, rfl, fun _ => h⟩

/-! ## The restart -/

/-- The state of a restart after the stacks have been commanded and the maps, the pool and the drawing events emptied (R189 steps
1 to 4). -/
def State.emptied (s : State) (stations : List Station) : State :=
  (stations.foldl (fun s k => s.queueCommand k .bypass) s).emptyEvents.emptyPool.emptyInjection

theorem State.restart_fst (s : State) (force : Bool) : (s.restart force).1 =
    (allBuses.foldl State.restartBus (s.emptied s.restartStacks)).restartCapture.emptyManagement := by
  simp only [State.restart, State.emptied, State.done]

theorem State.emptied_frame (s : State) (l : List Station) : (s.emptied l).now = s.now ∧ (s.emptied l).pending = s.pending ∧
    (s.emptied l).banks = s.banks ∧ (s.emptied l).channels = s.channels ∧ (∀ i, (s.emptied l).entry i = none) := by
  refine ⟨?_, ?_, ?_, ?_, fun i => ?_⟩
  · simp [State.emptied, State.emptyInjection, State.emptyPool, State.emptyEvents]
  · simp [State.emptied, State.emptyInjection, State.emptyPool, State.emptyEvents]
  · simp [State.emptied, State.emptyInjection, State.emptyPool, State.emptyEvents]
  · simp [State.emptied, State.emptyInjection, State.emptyPool, State.emptyEvents]
  · simp [State.emptied, State.emptyInjection, State.emptyPool, State.emptyEvents, State.entry]

theorem State.emptied_timely (s : State) (l : List Station) : Timely s (s.emptied l) := by
  refine ⟨(s.emptied_frame l).1, fun x hx => .inl ?_⟩
  have hfold : Sheds s (l.foldl (fun s k => s.queueCommand k .bypass) s) :=
    foldl_relates Sheds.refl Sheds.trans (fun s k => s.queueCommand_sheds k .bypass) l s
  refine hfold.firm.timers x ?_
  unfold State.emptied at hx
  generalize l.foldl (fun s k => s.queueCommand k .bypass) s = t at hx
  obtain ⟨x, n⟩ := x
  cases x with
  | silence b => rw [State.silence_mem_timers] at hx ⊢; exact hx
  | store => rw [State.store_mem_timers] at hx; cases hx
  | acknowledgement k => rw [State.acknowledgement_mem_timers] at hx ⊢; exact hx
  | wait kind i => rw [State.wait_mem_timers] at hx; simp [State.emptyInjection, State.emptyPool] at hx

/-- What a restart ends with. -/
theorem State.restart_parts (s : State) (force : Bool) : (s.restart force).1.now = s.now ∧
    (s.restart force).1.pending = s.pending ∧ (s.restart force).1.banks = s.banks ∧
    (∀ i, (s.restart force).1.entry i = none) ∧
    ∀ b, (s.restart force).1.channel b = (s.channel b).restarted s.now s.banks.active s.activeBank.busRows[b] := by
  obtain ⟨hn, hp, hb, hc, he⟩ := s.emptied_frame s.restartStacks
  rw [State.restart_fst]
  have hfold := foldl_restartBus_channel (List.nodup_finRange 24) (s.emptied s.restartStacks)
  have hfree := foldl_restartBus_free allBuses _ he
  obtain ⟨hn', hp', hb'⟩ : (allBuses.foldl State.restartBus (s.emptied s.restartStacks)).now = s.now ∧
      (allBuses.foldl State.restartBus (s.emptied s.restartStacks)).pending = s.pending ∧
      (allBuses.foldl State.restartBus (s.emptied s.restartStacks)).banks = s.banks := by
    simp [hn, hp, hb]
  rw [hn, hb, State.activeBank_congr hb] at hfold
  change ∀ d, (allBuses.foldl State.restartBus (s.emptied s.restartStacks)).channel d = _ at hfold
  generalize allBuses.foldl State.restartBus (s.emptied s.restartStacks) = t at *
  refine ⟨hn', hp', hb', hfree, fun b => (hfold b).trans ?_⟩
  rw [if_pos (List.mem_finRange b), State.channel_congr hc]

theorem State.restart_attends (s : State) (force : Bool) : Attends s (s.restart force).1 := by
  obtain ⟨hn, hp, hb, he, hc⟩ := s.restart_parts force
  refine ⟨⟨fun hs => ?_, fun _ => ?_, ?_⟩, hn, hp⟩
  · obtain ⟨hbus, -⟩ := watchSound_iff.1 hs
    have hsound := fun b => BusChannel.restarted_sound (hbus b).1 (hbus b).2.1 s.now s.banks.active (hbus b).2.2
    refine watchSound_iff.2 ⟨fun b => ?_, fun b i => ?_⟩
    · obtain ⟨hsag, htim, -, hd⟩ := hsound b
      unfold State.Served
      rw [hc, State.activeBank_congr hb]
      exact ⟨hsag, htim, fun h => (hbus b).2.2 (hd h)⟩
    · rw [hc, (hsound b).2.2.1, State.openBus, he]
      simp
  · rw [eventsSound_iff]
    intro i e hi
    rw [he] at hi
    cases hi
  · rw [State.restart_fst]
    have h := (s.emptied_timely s.restartStacks).trans (foldl_restartBus_timely allBuses _)
    generalize allBuses.foldl State.restartBus (s.emptied s.restartStacks) = t at h ⊢
    have ht : t.restartCapture.emptyManagement.timers = t.timers := State.timers_congr rfl rfl rfl rfl
    intro hs x hx
    exact h.inTime hs x (ht ▸ hx)

theorem restart_attends (r : Request) (s : State) : Attends s (restart r s).1 := by
  refine State.unless_attends (State.unless_attends ?_)
  split
  · exact .refl s
  · exact s.restart_attends _

end Sys2Proof.Machine
end

section
/-! SUPPORT. The power-on values. -/

namespace Sys2Proof.Machine

/-! ## The state after reset, by its readers -/

@[simp] theorem reset_channel (b : Bus) : State.reset.channel b = .reset := by simp [State.channel, State.reset]

@[simp] theorem reset_entry (i : EventIx) : State.reset.entry i = none := by
  simp [State.entry, State.reset, EventMap.reset]

@[simp] theorem reset_release (r : ReleaseIx) : State.reset.release r = none := by
  simp [State.release, State.reset, Pool.reset]

@[simp] theorem reset_view (k : Station) : State.reset.view k = .reset := by simp [State.view, State.reset]

@[simp] theorem reset_recorder (k : CaptureIx) : State.reset.recorder k = .reset := by simp [State.recorder, State.reset]

@[simp] theorem reset_timers : State.reset.timers = [] := by
  rw [List.eq_nil_iff_forall_not_mem]
  rintro ⟨x, n⟩ hx
  cases x with
  | silence b => simp [BusChannel.reset] at hx
  | store => simp [State.reset, Pool.reset] at hx
  | acknowledgement k => simp [StackView.reset] at hx
  | wait kind i => simp [State.reset, Pool.reset] at hx

theorem reset_energySound : EnergySound State.reset where
  bounded := by simp
  accounted := by simp
  settled := by simp
  balance := by decide

theorem reset_grantQueueSound : GrantQueueSound State.reset where
  once := by simp [State.reset, Pool.reset]
  sorted := by simp [State.reset, Pool.reset]
  owned := by simp [State.reset, Pool.reset]
  waiting := by simp

theorem reset_eventsSound : EventsSound State.reset := by
  rw [eventsSound_iff]
  simp

theorem reset_watchSound : WatchSound State.reset where
  sag := by simp [BusChannel.inSag, BusChannel.reset]
  apart := by simp [BusChannel.reset]
  suspectStart := by simp [BusChannel.reset]
  suspectLowest := by simp [BusChannel.reset]
  run := by simp [BusChannel.reset]
  silence := by simp [BusChannel.reset]
  served := by simp [BusChannel.reset]
  openEvent := by simp [BusChannel.reset]
  linked := by simp

theorem reset_captureSound : CaptureSound State.reset where
  memory := Memory.wf_reset
  window := by simp [CaptureChannel.reset]
  page := by simp [CaptureChannel.reset]
  written := by simp [CaptureChannel.reset]
  running := by simp [CaptureChannel.reset]

theorem reset_queuesBounded : QueuesBounded State.reset :=
  ⟨Nat.zero_le _, Nat.zero_le _, Nat.zero_le _, Nat.zero_le _⟩

theorem reset_portServed : PortServed State.reset := fun _ => ⟨rfl, rfl, rfl, rfl⟩

theorem reset_channelSound : ChannelSound State.reset where
  outstanding := by simp [StackView.reset]
  sequences := by simp [StackView.liveSequences, StackView.reset, consecutive]
  oneFrame := List.nodup_nil
  parts := fun f hf => absurd hf List.not_mem_nil
  commands := fun f hf => absurd hf List.not_mem_nil

/-- Settles O4. -/
theorem resetIsSound : Obligations.ResetIsSound :=
  ⟨reset_energySound, reset_grantQueueSound, reset_eventsSound, reset_watchSound, reset_captureSound, reset_queuesBounded,
    reset_portServed, reset_channelSound, reset_timers⟩

/-- Settles O3, by the power-on value of each table. -/
theorem powerOnValues : Obligations.PowerOnValues := by
  refine ⟨fun s => ⟨{ State.reset with pending := s.pending }, rfl, fun b => ?_⟩,
    fun s => ⟨{ State.reset with pending := s.pending }, rfl, ?_⟩⟩
  · rw [show State.channel { State.reset with pending := s.pending } b = State.reset.channel b from rfl, reset_channel]
    exact ⟨rfl, rfl, rfl, rfl, rfl, rfl, rfl, rfl, rfl, rfl, rfl⟩
  · refine ⟨fun i => ⟨reset_entry i, ?_⟩, rfl, rfl, reset_release, rfl, rfl, rfl, rfl, rfl, rfl, rfl, rfl, rfl, rfl, rfl, rfl,
      fun k => ⟨?_, reset_view k⟩, reset_recorder, fun _ => rfl, rfl, fun n b e => ?_, rfl, rfl⟩
    · simp [State.rate, State.reset, Injection.reset]
    · simp [State.record, State.reset, Injection.reset]
    · simp [State.bank, State.reset, Bank.reset]

end Sys2Proof.Machine
end

section
/-! SUPPORT. Every command: the state it leaves, what it upholds, and the timer that is taken before it. -/

open Sys2Proof Sys2Proof.Machine

namespace Sys2Proof.Machine

/-! ## The state a command leaves -/

/-- The state a command leaves: its moment, and the commands that wait. -/
structure Leaves (time : Option Nat) (s t : State) : Prop where
  now : t.now = max s.now (time.getD 0)
  pending : t.pending = s.pending

theorem Attends.leaves {s t : State} (h : Attends s t) : Leaves none s t := ⟨h.now.trans (by simp), h.pending⟩

theorem State.at_leaves (s : State) (time : Nat) : Leaves (some time) s (s.at time) := ⟨rfl, (s.at_frame time).1⟩

theorem Leaves.then {o : Option Nat} {s t u : State} (h : Leaves o s t) (hn : u.now = t.now) (hp : u.pending = t.pending) :
    Leaves o s u := ⟨hn.trans h.now, hp.trans h.pending⟩

theorem Leaves.of_eq {s t : State} (hn : t.now = s.now) (hp : t.pending = s.pending) : Leaves none s t :=
  ⟨hn.trans (by simp), hp⟩

/-- A management request's command attends the request. -/
theorem exec_request_attends (row : RequestRow) (s : State) : ∃ t, exec row.command s = .next t ∧ Attends s t := by
  cases row with
  | readIdentity => exact ⟨_, rfl, State.answerHead_attends readIdentity_attends _ s⟩
  | loadBusRow => exact ⟨_, rfl, State.answerHead_attends loadBusRow_attends _ s⟩
  | loadEnvelopeRow => exact ⟨_, rfl, State.answerHead_attends loadEnvelopeRow_attends _ s⟩
  | loadStoreParameters => exact ⟨_, rfl, State.answerHead_attends loadStoreParameters_attends _ s⟩
  | readRow => exact ⟨_, rfl, State.answerHead_attends readRow_attends _ s⟩
  | commitBank => exact ⟨_, rfl, State.answerSettled_attends commitBank_attends _ s⟩
  | setServiceOff => exact ⟨_, rfl, State.answerSettled_attends setServiceOff_attends _ s⟩
  | setServiceOn => exact ⟨_, rfl, State.answerHead_attends setServiceOn_attends _ s⟩
  | captureMask => exact ⟨_, rfl, State.answerHead_attends captureMask_attends _ s⟩
  | captureUnmask => exact ⟨_, rfl, State.answerHead_attends captureUnmask_attends _ s⟩
  | loadCaptureChannel => exact ⟨_, rfl, State.answerHead_attends loadCaptureChannel_attends _ s⟩
  | readBus => exact ⟨_, rfl, State.answerHead_attends readBus_attends _ s⟩
  | takeAlarmsBus => exact ⟨_, rfl, State.answerHead_attends takeAlarmsBus_attends _ s⟩
  | takeAlarmsPool => exact ⟨_, rfl, State.answerHead_attends takeAlarmsPool_attends _ s⟩
  | readEvent => exact ⟨_, rfl, State.answerHead_attends readEvent_attends _ s⟩
  | readPool => exact ⟨_, rfl, State.answerHead_attends readPool_attends _ s⟩
  | readRelease => exact ⟨_, rfl, State.answerHead_attends readRelease_attends _ s⟩
  | readPorts => exact ⟨_, rfl, State.answerHead_attends readPorts_attends _ s⟩
  | latchMetering => exact ⟨_, rfl, State.answerHead_attends latchMetering_attends _ s⟩
  | readSnapshot => exact ⟨_, rfl, State.answerHead_attends readSnapshot_attends _ s⟩
  | readCaptureRecords => exact ⟨_, rfl, State.answerHead_attends readCaptureRecords_attends _ s⟩
  | readCaptureChannel => exact ⟨_, rfl, State.answerHead_attends readCaptureChannel_attends _ s⟩
  | restart => exact ⟨_, rfl, State.answerSettled_attends restart_attends _ s⟩
  | unknownRequest => exact ⟨_, rfl, State.answerHead_attends (fun _ s => .refl s) _ s⟩

/-- What a command leaves and upholds. -/
def Serves (c : Instr) (s : State) : Prop :=
  ∃ t, exec c s = .next t ∧ Leaves (commandTime c) s t ∧ (s.Requested → Upholds s t)

theorem Attends.serves {c : Instr} {s t : State} (h : Attends s t) (he : exec c s = .next t) (hc : commandTime c = none) :
    Serves c s := ⟨t, he, hc ▸ h.leaves, fun _ => h.toUpholds⟩

theorem Serves.request (row : RequestRow) (hc : commandTime row.command = none) (s : State) : Serves row.command s := by
  obtain ⟨t, he, ht⟩ := exec_request_attends row s
  exact ht.serves he hc

/-- A command that carries a moment: the time base moved, and then an operation. -/
theorem Serves.timed {c : Instr} {s t : State} {time : Nat} (he : exec c s = .next t) (hc : commandTime c = some time)
    (hn : t.now = (s.at time).now) (hp : t.pending = (s.at time).pending)
    (hu : (s.at time).Requested → Upholds (s.at time) t) : Serves c s :=
  ⟨t, he, hc ▸ (s.at_leaves time).then hn hp, fun hs => (State.at_upholds hs time).trans (hu (State.at_requested hs time))⟩

theorem State.markAhead_attends (s : State) (mark : TakenAhead → TakenAhead) : Attends s (s.markAhead mark) := by
  unfold State.markAhead
  split
  · exact .refl s
  · exact .of_eq rfl rfl rfl rfl rfl rfl rfl rfl

/-- A unit's frame command: the unit takes the frame at the head of its own frames, or one ahead of Bus Watch. -/
theorem frameCommand_attends {take : State → AcceptedFrame → State} (ht : ∀ s f, Attends s (take s f)) (s : State) :
    (∀ f rest, Attends s (take { s with handed.injection := rest } f)) ∧
    (∀ f rest, Attends s (take { s with handed.envelope := rest } f)) ∧
    (∀ f rest, Attends s (take { s with handed.capture := rest } f)) ∧
    (∀ f mark, Attends s (take (s.markAhead mark) f)) :=
  ⟨fun _ _ => (ht _ _).after (.of_eq rfl rfl rfl rfl rfl rfl rfl rfl),
    fun _ _ => (ht _ _).after (.of_eq rfl rfl rfl rfl rfl rfl rfl rfl),
    fun _ _ => (ht _ _).after (.of_eq rfl rfl rfl rfl rfl rfl rfl rfl),
    fun _ _ => (ht _ _).after (s.markAhead_attends _)⟩

theorem injectionFrame_serves (turn : FrameTurn) (s : State) : Serves (.injectionFrame turn) s := by
  obtain ⟨h, -, -, hahead⟩ := frameCommand_attends (take := State.injectionTakes)
    (fun s f => (s.injectionTakes_firm f).attends (by simp) (by simp)) s
  cases turn with
  | passedOn =>
    cases hq : s.handed.injection with
    | nil => exact (Attends.refl s).serves (by simp [exec, execInjectionFrame, hq]) rfl
    | cons f rest => exact (h f rest).serves (by simp [exec, execInjectionFrame, hq]) rfl
  | ahead =>
    cases hq : s.frameAhead s.handed.injection (·.injection) with
    | none => exact (Attends.refl s).serves (by simp [exec, execInjectionFrame, hq]) rfl
    | some f => exact (hahead f fun t => { t with injection := true }).serves (by simp [exec, execInjectionFrame, hq]) rfl

theorem envelopeJudge_serves (turn : FrameTurn) (s : State) : Serves (.envelopeJudge turn) s := by
  obtain ⟨-, h, -, hahead⟩ := frameCommand_attends (take := State.envelopeTakes)
    (fun s f => (s.envelopeTakes_firm f).attends (by simp) (by simp)) s
  cases turn with
  | passedOn =>
    cases hq : s.handed.envelope with
    | nil => exact (Attends.refl s).serves (by simp [exec, execEnvelopeJudge, hq]) rfl
    | cons f rest => exact (h f rest).serves (by simp [exec, execEnvelopeJudge, hq]) rfl
  | ahead =>
    cases hq : s.frameAhead s.handed.envelope (·.envelope) with
    | none => exact (Attends.refl s).serves (by simp [exec, execEnvelopeJudge, hq]) rfl
    | some f => exact (hahead f fun t => { t with envelope := true }).serves (by simp [exec, execEnvelopeJudge, hq]) rfl

theorem captureFrame_serves (turn : FrameTurn) (s : State) : Serves (.captureFrame turn) s := by
  obtain ⟨-, -, h, hahead⟩ := frameCommand_attends (take := State.captureTakes)
    (fun s f => (s.captureTakes_sheds f).firm.attends (by simp) (by simp)) s
  cases turn with
  | passedOn =>
    cases hq : s.handed.capture with
    | nil => exact (Attends.refl s).serves (by simp [exec, execCaptureFrame, hq]) rfl
    | cons f rest => exact (h f rest).serves (by simp [exec, execCaptureFrame, hq]) rfl
  | ahead =>
    cases hq : s.frameAhead s.handed.capture (·.capture) with
    | none => exact (Attends.refl s).serves (by simp [exec, execCaptureFrame, hq]) rfl
    | some f => exact (hahead f fun t => { t with capture := true }).serves (by simp [exec, execCaptureFrame, hq]) rfl

/-- A command that takes the front of what is handed to its block. -/
theorem Kept.attends {s t : State} (h : Kept s t) (hb : t.banks = s.banks) (hp : t.pending = s.pending) : Attends s t :=
  ⟨h.upholds hb, h.now, hp⟩

theorem storeFrame_serves (s : State) : Serves .storeFrame s := by
  cases hq : s.handed.store with
  | nil => exact (Attends.refl s).serves (by simp [exec, execStoreFrame, hq]) rfl
  | cons x rest =>
    have h : Attends s { s with handed.store := rest } := .of_eq rfl rfl rfl rfl rfl rfl rfl rfl
    exact ((((State.takeStore_kept _ x).attends (by simp) (by simp)).after h).serves (by simp [exec, execStoreFrame, hq]) rfl)

theorem stackStatus_serves (turn : NoticeTurn) (s : State) : Serves (.stackStatus turn) s := by
  cases hq : s.handed.status with
  | nil => exact (Attends.refl s).serves (by simp [exec, execStackStatus, hq]) rfl
  | cons x rest =>
    have h : Attends s { s with handed.status := rest } := .of_eq rfl rfl rfl rfl rfl rfl rfl rfl
    exact (((State.takeStatus_kept _ x turn).attends (by simp) (by simp)).after h).serves
      (by simp [exec, execStackStatus, hq]) rfl

theorem stackNotice_serves (s : State) : Serves .stackNotice s := by
  cases hq : s.handed.notices with
  | nil => exact (Attends.refl s).serves (by simp [exec, execStackNotice, hq]) rfl
  | cons x rest =>
    have h : Attends s { s with handed.notices := rest } := .of_eq rfl rfl rfl rfl rfl rfl rfl rfl
    exact ((((State.takeNotice_firm _ x).attends (by simp) (by simp)).after h).serves (by simp [exec, execStackNotice, hq]) rfl)

theorem topupRequest_serves (s : State) : Serves .topupRequest s := by
  cases hq : s.handed.topups with
  | nil => exact (Attends.refl s).serves (by simp [exec, execTopupRequest, hq]) rfl
  | cons x rest =>
    have h : Attends s { s with handed.topups := rest } := .of_eq rfl rfl rfl rfl rfl rfl rfl rfl
    exact ((((State.takeTopup_kept _ x).attends (by simp) (by simp)).after h).serves (by simp [exec, execTopupRequest, hq]) rfl)

theorem silenceExpiry_serves (time bus : Nat) (s : State) : Serves (.silenceExpiry time bus) s := by
  cases hb : busAt? bus with
  | none => exact .timed (t := s.at time) (by simp [exec, execSilenceExpiry, hb]) rfl rfl rfl fun _ => .refl _
  | some b =>
    exact .timed (t := (s.at time).silenceExpires b) (by simp [exec, execSilenceExpiry, hb]) rfl (by simp) (by simp)
      fun _ => State.silenceExpires_upholds _ b

theorem ackTimerExpiry_serves (time stack : Nat) (s : State) : Serves (.ackTimerExpiry time stack) s := by
  cases hk : stationAt? stack with
  | none => exact .timed (t := s.at time) (by simp [exec, execAckTimerExpiry, hk]) rfl rfl rfl fun _ => .refl _
  | some k =>
    exact .timed (t := (s.at time).ackExpires k) (by simp [exec, execAckTimerExpiry, hk]) rfl (by simp) (by simp)
      fun _ => (State.ackExpires_quiet _ k).kept.upholds (by simp)

theorem firstWaitExpiry_serves (time event : Nat) (s : State) : Serves (.firstWaitExpiry time event) s := by
  cases hi : eventAt? event with
  | none => exact .timed (t := s.at time) (by simp [exec, execFirstWaitExpiry, hi]) rfl rfl rfl fun _ => .refl _
  | some i =>
    exact .timed (t := (s.at time).firstExpires i) (by simp [exec, execFirstWaitExpiry, hi]) rfl (by simp) (by simp)
      fun h => (State.firstExpires_quiet h.owned i).kept.upholds (by simp)

theorem topupWaitExpiry_serves (time event : Nat) (s : State) : Serves (.topupWaitExpiry time event) s := by
  cases hi : eventAt? event with
  | none => exact .timed (t := s.at time) (by simp [exec, execTopupWaitExpiry, hi]) rfl rfl rfl fun _ => .refl _
  | some i =>
    exact .timed (t := (s.at time).topupExpires i) (by simp [exec, execTopupWaitExpiry, hi]) rfl (by simp) (by simp)
      fun _ => (State.topupExpires_firm _ i).upholds (by simp)

theorem reset_upholds (s : State) : Upholds s { State.reset with pending := s.pending } := by
  have h := reset_watchSound
  refine ⟨fun _ => ⟨h.sag, h.apart, h.suspectStart, h.suspectLowest, h.run, h.silence, h.served, h.openEvent, h.linked⟩,
    fun _ => ?_, fun _ x hx => ?_⟩
  · have h := reset_eventsSound
    exact ⟨h.strikes, h.claims, h.step, h.onPath, h.deepest, h.breachRun, h.outcome⟩
  · have hx : x ∈ State.reset.timers := hx
    rw [reset_timers] at hx
    cases hx

/-- Every command but POWER_ON leaves a next state with the moment it carries, and upholds what is to be upheld. -/
theorem exec_serves (c : Instr) (s : State) (hc : c ≠ .powerOn) : Serves c s := by
  cases c with
  | powerOn => exact absurd rfl hc
  | frameArrival time bytes =>
    exact .timed (t := (s.at time).arrive bytes) rfl rfl (by simp) (by simp) fun _ => (State.arrive_firm _ _).upholds (by simp)
  | senseFrame => exact Attends.serves (t := s.takeNextSense) ⟨s.takeNextSense_upholds, by simp, by simp⟩ rfl rfl
  | injectionFrame turn => exact injectionFrame_serves turn s
  | envelopeJudge turn => exact envelopeJudge_serves turn s
  | captureFrame turn => exact captureFrame_serves turn s
  | silenceExpiry time bus => exact silenceExpiry_serves time bus s
  | storeFrame => exact storeFrame_serves s
  | storeSilenceExpiry time =>
    exact .timed (t := (s.at time).storeExpires) rfl rfl (by simp) (by simp) fun _ =>
      (State.storeExpires_firm _).upholds (by simp)
  | stackStatus turn => exact stackStatus_serves turn s
  | stackNotice => exact stackNotice_serves s
  | ackTimerExpiry time stack => exact ackTimerExpiry_serves time stack s
  | topupRequest => exact topupRequest_serves s
  | servicePass =>
    exact ⟨s.servicePass, rfl, .of_eq (by simp) (by simp), fun h => (State.servicePass_quiet h.owned).kept.upholds (by simp)⟩
  | firstWaitExpiry time event => exact firstWaitExpiry_serves time event s
  | topupWaitExpiry time event => exact topupWaitExpiry_serves time event s
  | frameCompletion time =>
    exact .timed (t := (s.at time).complete) rfl rfl (by simp) (by simp) fun _ => (State.complete_kept _).upholds (by simp)
  | readIdentity => exact .request .readIdentity rfl s
  | loadBusRow => exact .request .loadBusRow rfl s
  | loadEnvelopeRow => exact .request .loadEnvelopeRow rfl s
  | loadStoreParameters => exact .request .loadStoreParameters rfl s
  | readRow => exact .request .readRow rfl s
  | commitBank => exact .request .commitBank rfl s
  | setServiceOff => exact .request .setServiceOff rfl s
  | setServiceOn => exact .request .setServiceOn rfl s
  | captureMask => exact .request .captureMask rfl s
  | captureUnmask => exact .request .captureUnmask rfl s
  | loadCaptureChannel => exact .request .loadCaptureChannel rfl s
  | readBus => exact .request .readBus rfl s
  | takeAlarmsBus => exact .request .takeAlarmsBus rfl s
  | takeAlarmsPool => exact .request .takeAlarmsPool rfl s
  | readEvent => exact .request .readEvent rfl s
  | readPool => exact .request .readPool rfl s
  | readRelease => exact .request .readRelease rfl s
  | readPorts => exact .request .readPorts rfl s
  | latchMetering => exact .request .latchMetering rfl s
  | readSnapshot => exact .request .readSnapshot rfl s
  | readCaptureRecords => exact .request .readCaptureRecords rfl s
  | readCaptureChannel => exact .request .readCaptureChannel rfl s
  | restart => exact .request .restart rfl s
  | unknownRequest => exact .request .unknownRequest rfl s

theorem exec_upholds {c : Instr} {s t : State} (hs : s.Requested) (he : exec c s = .next t) : Upholds s t := by
  by_cases hc : c = .powerOn
  · subst hc
    cases he
    exact reset_upholds s
  · obtain ⟨u, hu, -, h⟩ := exec_serves c s hc
    rw [hu] at he
    cases he
    exact h hs

/-! ## One step -/

/-- Every step upholds what is to be upheld. -/
theorem step_upholds {s t : State} (hs : GrantQueueSound s) (h : step s = .next t) : Upholds s t := by
  cases hp : s.pending with
  | nil =>
    rw [step, hp] at h
    cases h
    exact State.at_upholds hs.requested _
  | cons c rest =>
    rw [step, hp] at h
    have hrest : Upholds s { s with pending := rest } :=
      Firm.upholds (.of_eq rfl rfl rfl rfl rfl rfl) rfl
    have hrequested : State.Requested { s with pending := rest } :=
      ⟨hs.requested.owned.congr rfl fun _ => rfl, hs.once⟩
    exact hrest.trans (exec_upholds hrequested h)

/-! ## The timer that is taken before a command -/

theorem busAt?_val (b : Bus) : busAt? b.val = some b := by simp [busAt?]

theorem stationAt?_address (k : Station) : stationAt? k.address = some k := by
  obtain ⟨n, hn⟩ := k
  simp [stationAt?, Station.address]
  omega

theorem eventAt?_val (i : EventIx) : eventAt? i.val = some i := by simp [eventAt?]

/-- A timer's command moves the time base and takes the timer's expiry. -/
theorem exec_timer_command (x : Timer) (time : Nat) (s : State) :
    exec (x.command time) s = .next ((s.at time).expire x) := by
  cases x with
  | silence b => simp [Timer.command, exec, execSilenceExpiry, busAt?_val, State.expire]
  | store => rfl
  | acknowledgement k => simp [Timer.command, exec, execAckTimerExpiry, stationAt?_address, State.expire]
  | wait kind i =>
    cases kind with
    | first => simp [Timer.command, exec, execFirstWaitExpiry, eventAt?_val, State.expire]
    | topup => simp [Timer.command, exec, execTopupWaitExpiry, eventAt?_val, State.expire]

/-- A command that carries a moment depends on the state at that moment alone. -/
theorem exec_congr_at {c : Instr} {s u : State} {time : Nat} (hc : commandTime c = some time) (h : s.at time = u.at time) :
    exec c s = exec c u := by
  cases c with
  | frameArrival n bytes => cases hc; simp only [exec, execFrameArrival, h]
  | silenceExpiry n bus => cases hc; simp only [exec, execSilenceExpiry, h]
  | storeSilenceExpiry n => cases hc; simp only [exec, execStoreSilenceExpiry, h]
  | ackTimerExpiry n stack => cases hc; simp only [exec, execAckTimerExpiry, h]
  | firstWaitExpiry n event => cases hc; simp only [exec, execFirstWaitExpiry, h]
  | topupWaitExpiry n event => cases hc; simp only [exec, execTopupWaitExpiry, h]
  | frameCompletion n => cases hc; simp only [exec, execFrameCompletion, h]
  | _ => cases hc

/-! ## The statements -/

/-- Settles O7, by what every step upholds. -/
theorem eventsKept : Obligations.EventsKept := fun _ _ hq hs h => (step_upholds hq h).events hs

/-- Settles O8, by what every step upholds. -/
theorem watchKept : Obligations.WatchKept := fun _ _ hq hs h => (step_upholds hq h).watch hs

/-- Settles O1: the step as it is defined, and a move of the time base that takes no timer. -/
theorem stepTakesTheFront : Obligations.StepTakesTheFront := by
  refine ⟨fun c rest s => rfl, fun s hs => ⟨s.tick, by rw [step, hs], by simp [State.tick], ?_, fun h => ?_⟩⟩
  · exact ((s.at_frame _).1).trans hs
  · rw [State.tick, State.at_of_inTime h, Nat.max_eq_right (Nat.le_succ _)]

/-- Settles O2: the moments and the commands that wait, command by command; the timers, by what every step upholds; and the
expiry taken first, as the move of the time base takes it. -/
theorem everyCommandCompletes : Obligations.EveryCommandCompletes := by
  refine ⟨fun c s => ?_, fun s t hq hs h => (step_upholds hq h).inTime hs, fun c s u time x hc hx hl ho hu => ?_⟩
  · by_cases hc : c = .powerOn
    · subst hc
      exact ⟨_, rfl, rfl, fun h => absurd rfl h⟩
    · obtain ⟨t, he, ht, -⟩ := exec_serves c s hc
      exact ⟨t, he, ht.pending, fun _ => ht.now⟩
  · rw [exec_timer_command] at hu
    cases hu
    exact exec_congr_at hc (State.at_after_expiry hx hl ho).symm

end Sys2Proof.Machine
end

section
/-! SUPPORT. Requests as their fields name them, and the units that take a frame ahead of Bus Watch. -/

namespace Sys2Proof.Machine

/-! ## Checks that pass -/

@[simp] theorem State.unless_none (s : State) (go : Handled) : s.unless none go = go := rfl

@[simp] theorem State.unless_some (s : State) (reason : Reason) (go : Handled) :
    s.unless (some reason) go = (s, .refused reason) := rfl

theorem checkRange_of_le {place value low high : Nat} (h : low ≤ value ∧ value ≤ high) :
    checkRange place value low high = none := by
  simp [checkRange, h]

theorem checkRange_of_lt {place value high : Nat} (h : high < value) :
    checkRange place value 0 high = some (.range place value) := by
  simp [checkRange, h]

theorem busAt?_of_val {b : Bus} {n : Nat} (h : b.val = n) : busAt? n = some b := h ▸ busAt?_val b

theorem busAt?_of_lt {n : Nat} (h : 23 < n) : busAt? n = none := by
  simp [busAt?]
  omega

/-- A request answered, by what its handler makes of it. -/
theorem answers_of_head {c : Instr} {s : State} {r : Request} {rest : List Request} {f : Request → State → Handled}
    {t : State} {result : Result} (hc : exec c s = .next (s.answerHead r.row f)) (h : s.Heads r rest)
    (hf : f r (s.taken rest) = (t, result)) : Answers c s r t result := by
  rw [Answers, hc, State.answerHead_of_heads h, hf]

/-- The same where Bus Watch's frames are settled first. -/
theorem answers_of_settled {c : Instr} {s : State} {r : Request} {rest : List Request} {f : Request → State → Handled}
    {t : State} {result : Result} (hc : exec c s = .next (s.answerSettled r.row f)) (h : s.Heads r rest)
    (ha : s.NothingAhead) (hf : f r (s.taken rest) = (t, result)) : Answers c s r t result := by
  rw [Answers, hc, State.answerSettled_of_heads h ha, hf]

/-! ## Alarms and the snapshot -/

theorem takeAlarmsBus_of_bus {r : Request} {x : Byte} {b : Bus} (s : State) (hf : r.fields = [x]) (hb : b.val = x.toNat) :
    takeAlarmsBus r s = ((s.setChannel b { s.channel b with alarms := .empty }).done (.busAlarms (s.channel b).alarms)) := by
  simp only [takeAlarmsBus, hf, State.onBus, byteAt, List.getD_cons_zero, busAt?_of_val hb]
  rfl

theorem byteAt_zero (x : Byte) (l : List Byte) : byteAt (x :: l) 0 = x.toNat := rfl

theorem byteAt_one (x y : Byte) (l : List Byte) : byteAt (x :: y :: l) 1 = y.toNat := rfl

theorem readSnapshot_held {r : Request} {x y : Byte} {s : State} {held : Snapshot} (hf : r.fields = [x, y])
    (hs : s.management.snapshot = some held) (hx : x.toNat ≤ 2) (hy : y.toNat ≤ 1) :
    readSnapshot r s =
      (if y = 1 then { s with management.snapshot := none } else s).done (held.part x.toNat) := by
  have hone : y.toNat = 1 ↔ y = 1 := by
    rw [← BitVec.toNat_inj]
    rfl
  simp [readSnapshot, hf, byteAt_zero, byteAt_one, checkLength, checkRange_of_le ⟨Nat.zero_le _, hx⟩,
    checkRange_of_le ⟨Nat.zero_le _, hy⟩, hs, hone]

/-- Settles O59, request by request. -/
theorem alarmsAndSnapshotTaken : Obligations.AlarmsAndSnapshotTaken := by
  intro s r rest hh
  refine ⟨fun x hr hf => ⟨fun b hb => ?_, fun hx => ?_⟩, fun hr hf => ?_, fun hr hf => ⟨fun x hs => ?_, fun hs => ?_⟩,
    fun x y hr hf => ⟨fun hx => ?_, fun hx hy hs => ?_, fun held hs hy => ⟨fun hx => ?_, fun hx => ?_, fun hx => ?_⟩⟩⟩
  · exact answers_of_head (f := takeAlarmsBus) (by rw [hr]; rfl) hh (takeAlarmsBus_of_bus _ hf hb)
  · refine answers_of_head (f := takeAlarmsBus) (by rw [hr]; rfl) hh ?_
    simp [takeAlarmsBus, hf, State.onBus, byteAt_zero, busAt?_of_lt hx, checkLength, State.refuse]
  · exact answers_of_head (f := takeAlarmsPool) (by rw [hr]; rfl) hh (by simp only [takeAlarmsPool, hf]; rfl)
  · refine answers_of_head (f := latchMetering) (by rw [hr]; rfl) hh ?_
    have hs : (s.taken rest).management.snapshot = some x := hs
    simp only [latchMetering, hf, hs]
    rfl
  · refine answers_of_head (f := latchMetering) (by rw [hr]; rfl) hh ?_
    have hs : (s.taken rest).management.snapshot = none := hs
    simp only [latchMetering, hf, hs]
    rfl
  · refine answers_of_head (f := readSnapshot) (by rw [hr]; rfl) hh ?_
    simp [readSnapshot, hf, byteAt_zero, checkLength, checkRange_of_lt hx]
  · refine answers_of_head (f := readSnapshot) (by rw [hr]; rfl) hh ?_
    have hs : (s.taken rest).management.snapshot = none := hs
    simp [readSnapshot, hf, byteAt_zero, byteAt_one, checkLength, checkRange_of_le ⟨Nat.zero_le _, hx⟩,
      checkRange_of_le ⟨Nat.zero_le _, hy⟩, hs, State.refuse]
  all_goals
    subst hx
    exact answers_of_head (f := readSnapshot) (by rw [hr]; rfl) hh
      (readSnapshot_held (s := s.taken rest) hf hs (by decide) hy)

/-! ## Frames taken ahead of Bus Watch -/

/-- Settles O36: what a unit takes ahead is what it would find passed on. -/
theorem frameTakenAhead : Obligations.FrameTakenAhead := by
  intro s x rest b r ha
  obtain ⟨hfront, hv⟩ := ha
  have hahead : ∀ (waiting : List AcceptedFrame) (has : TakenAhead → Bool), has x.taken = false →
      (∀ g ∈ waiting, g.bus ≠ b) → s.frameAhead waiting has = some (s.frameOf b r x) := by
    intro waiting has hx hw
    simp only [State.frameAhead, hfront, hv, State.frameOf, hx]
    simpa using hw
  refine ⟨fun hx hw => ?_, fun hx hw => ?_, fun hx hw => ?_⟩
  · simp [exec, execInjectionFrame, hahead _ (·.injection) hx hw, State.markAhead, hfront]
  · simp [exec, execEnvelopeJudge, hahead _ (·.envelope) hx hw, State.markAhead, hfront]
  · simp [exec, execCaptureFrame, hahead _ (·.capture) hx hw, State.markAhead, hfront]

end Sys2Proof.Machine
end

section
/-! SUPPORT. A bus taken out of service and put in service, by a request (R20, R21). -/

namespace Sys2Proof.Machine

/-! ## The end of a sag, as the other buses see it -/

/-- Disposal changes the channel of the event's own bus at most: RELEASE-WAIT is the bus's alarm. -/
theorem State.dispose_channel {s : State} {i : EventIx} {b d : Bus} (hb : ∀ e, s.entry i = some e → e.bus = b)
    (hd : d ≠ b) : (s.dispose i).channel d = s.channel d := by
  unfold State.dispose
  split
  · rfl
  · next e he =>
    split
    · rfl
    · split
      · exact State.channel_congr (by simp) d
      · split
        · exact State.channel_congr (by simp) d
        · have hne : ¬ e.bus = d := fun h => hd (h ▸ hb e he)
          unfold State.beginWait
          rw [he]
          dsimp only
          split
          · rw [State.channel_congr (State.queueCommand_sheds _ _ _).channels, State.addAlarm, State.channel_modChannel,
              if_neg hne]
            rfl
          · rw [State.addAlarm, State.channel_modChannel, if_neg hne]
            rfl

/-- Steps 1 to 5 of R43 leave the entry's bus. -/
theorem State.closeEvent_bus {s : State} {i : EventIx} {b : Bus} (cause : EndCause)
    (hb : ∀ e, s.entry i = some e → e.bus = b) : ∀ e, ((s.endStack i cause).closeEvent i).entry i = some e → e.bus = b := by
  intro e' he'
  rw [State.closeEvent_entry, Option.map_eq_some_iff] at he'
  obtain ⟨e, he, rfl⟩ := he'
  cases hs : s.entry i with
  | none => rw [State.endStack_free cause hs, hs] at he; cases he
  | some e0 =>
    rcases State.endStack_entry cause hs with h | ⟨order, h, -⟩
    · rw [h] at he; cases he
    · rw [h] at he
      cases he
      exact hb e0 hs

theorem State.endEvent_channel {s : State} {i : EventIx} {b d : Bus} (cause : EndCause)
    (hb : ∀ e, s.entry i = some e → e.bus = b) (hd : d ≠ b) : (s.endEvent i cause).channel d = s.channel d := by
  unfold State.endEvent
  dsimp only
  rw [State.channel_congr (State.settleClosing_frame _ i).2.2.1, State.dispose_channel (State.closeEvent_bus cause ?_) hd]
  · exact State.channel_congr (by simp) d
  · intro e' he'
    rw [State.entry_modEvent, if_pos rfl, Option.map_eq_some_iff] at he'
    obtain ⟨e, he, rfl⟩ := he'
    exact hb e he

theorem State.endSag_channel_other {s : State} {b d : Bus} (cause : EndCause)
    (hb : ∀ i e, (s.channel b).openEvent = some i → s.entry i = some e → e.bus = b) (hd : d ≠ b) :
    (s.endSag b cause).channel d = s.channel d := by
  have hu : (s.endUntracked b).channel d = s.channel d := by rw [State.channel_endUntracked, if_neg (Ne.symm hd)]
  cases h : (s.channel b).openEvent with
  | none => rw [State.endSag_none cause h, hu]
  | some i =>
    rw [State.endSag_some cause h, State.channel_modChannel, if_neg (Ne.symm hd),
      State.endEvent_channel cause (fun e he => hb i e h (by rwa [State.entry_endUntracked] at he)) hd, hu]

/-- Where no sag is under way, nothing is ended. -/
theorem State.endSag_idle {s : State} {b : Bus} (cause : EndCause) (ho : (s.channel b).openEvent = none)
    (hu : (s.channel b).untracked = false) : s.endSag b cause = s := by
  rw [State.endSag_none cause ho, State.endUntracked_eq, BusChannel.tallied_eq hu, State.setChannel_channel]

theorem State.endSag_channel_none {s : State} {b : Bus} (cause : EndCause) (ho : (s.channel b).openEvent = none) :
    (s.endSag b cause).channel b = (s.channel b).tallied := by
  rw [State.endSag_none cause ho, State.channel_endUntracked, if_pos rfl]

/-- A channel set and a report queued, as the entries see it. -/
theorem State.setChannel_report_evolves (s : State) (b : Bus) (c : BusChannel) (n : Report) (i : EventIx) :
    Evolves (s.entry i) (((s.setChannel b c).report n).entry i) :=
  (State.report_sheds (s.setChannel b c) n).firm.entry i

/-! ## Out of service -/

theorem State.serviceOff_already {s : State} {b : Bus} (h : (s.channel b).detection = .outOfService) :
    s.serviceOff b = s := by
  simp [State.serviceOff, h]

theorem State.serviceOff_eq {s : State} {b : Bus} (h : (s.channel b).detection ≠ .outOfService) :
    s.serviceOff b = ((s.endSag b .withdrawn).setChannel b
      { ((s.endSag b .withdrawn).channel b).leaveSag .outOfService with silence := none }).report
        (.busState b (s.channel b).detection .outOfService .management none) := by
  simp [State.serviceOff, h, State.modChannel]

theorem State.serviceOff_channel {s : State} {b : Bus} (h : (s.channel b).detection ≠ .outOfService) (d : Bus) :
    (s.serviceOff b).channel d = if b = d then
      { ((s.endSag b .withdrawn).channel b).leaveSag .outOfService with silence := none }
      else (s.endSag b .withdrawn).channel d := by
  rw [State.serviceOff_eq h, State.channel_congr (State.report_sheds _ _).channels, State.channel_setChannel]

theorem State.serviceOff_ended {s : State} {b : Bus} (h : (s.channel b).detection ≠ .outOfService) :
    SagEnded .withdrawn b s (s.serviceOff b) := by
  obtain ⟨x, y, z, hc⟩ := s.endSag_channel b .withdrawn
  have hb := State.serviceOff_channel h b
  rw [if_pos rfl] at hb
  refine State.endSag_sagEnded (u := s) .withdrawn (fun _ => rfl) rfl rfl rfl rfl (fun i => ?_) ?_ ?_ ?_ ?_
  · rw [State.serviceOff_eq h]
    exact State.setChannel_report_evolves _ b _ _ i
  · rw [hb, hc]; rfl
  · rw [hb, hc]; rfl
  · rw [hb]; rfl
  · rw [State.serviceOff_eq h]; simp

theorem setServiceOff_eq {r : Request} {x y : Byte} {b : Bus} (s : State) (hf : r.fields = [x, y]) (hb : b.val = x.toNat) :
    setServiceOff r s = s.unless (checkRange 1 y.toNat 0 1) ((s.serviceOff b).done .nothing) := by
  simp [setServiceOff, hf, State.onBus, byteAt_zero, byteAt_one, checkLength, busAt?_of_val hb]

theorem setServiceOn_eq {r : Request} {x y : Byte} {b : Bus} {s t : State} (hf : r.fields = [x, y]) (hb : b.val = x.toNat)
    (ht : s.serviceOn b = some t) : setServiceOn r s = t.done .nothing := by
  simp [setServiceOn, hf, State.onBus, byteAt_zero, checkLength, busAt?_of_val hb, ht]

theorem setServiceOn_refused {r : Request} {x y : Byte} {b : Bus} {s : State} (hf : r.fields = [x, y])
    (hb : b.val = x.toNat) (ht : s.serviceOn b = none) : setServiceOn r s = s.refuse (.state none) := by
  simp [setServiceOn, hf, State.onBus, byteAt_zero, checkLength, busAt?_of_val hb, ht]

theorem State.served_channel (s : State) (b d : Bus) (row : BusRow) :
    (s.served b row).channel d = if b = d then
      { (s.channel b).cleared with
        baseline := none
        bankInUse := s.banks.active
        silence := some (s.now + row.silenceTimeout) } else s.channel d := by
  rw [State.served, State.channel_congr (State.report_sheds _ _).channels, State.channel_setChannel, State.readied_channel]
  split
  · rfl
  · next h => rw [State.readied, State.enterNormal_channel, if_neg h, State.channel_setChannel, if_neg h]

theorem State.served_entry (s : State) (b : Bus) (row : BusRow) {i : EventIx} {e : Event}
    (h : (s.served b row).entry i = some e) : s.entry i = some e := by
  have h1 := (State.report_sheds _ _).held h
  rw [State.entry_setChannel, State.readied, State.enterNormal_eq] at h1
  have h2 := (State.tidyBus_sheds _ b).held h1
  rwa [State.entry_setChannel, State.entry_setChannel] at h2

/-- Settles O57, request by request. -/
theorem serviceTaken : Obligations.ServiceTaken := by
  intro s r rest x y hh ha hf
  refine ⟨fun hr hx => ?_, fun b hb => ⟨fun hr hy => ?_, fun hr hy => ⟨fun hd => ?_, fun hd => ?_⟩,
    fun hr hy => ⟨fun hd => ?_, fun hd hrow => ?_, fun row hd hrow => ?_⟩⟩⟩
  · rcases hr with hr | hr
    · refine answers_of_settled (f := setServiceOff) (by rw [hr]; rfl) hh ha ?_
      simp [setServiceOff, hf, State.onBus, byteAt_zero, checkLength, busAt?_of_lt hx, State.refuse]
    · refine answers_of_head (f := setServiceOn) (by rw [hr]; rfl) hh ?_
      simp [setServiceOn, hf, State.onBus, byteAt_zero, checkLength, busAt?_of_lt hx, State.refuse]
  · exact answers_of_settled (f := setServiceOff) (by rw [hr]; rfl) hh ha
      (by rw [setServiceOff_eq _ hf hb, checkRange_of_lt hy]; rfl)
  · refine answers_of_settled (f := setServiceOff) (by rw [hr]; rfl) hh ha ?_
    rw [setServiceOff_eq _ hf hb, hy, State.serviceOff_already (s := s.taken rest) hd]
    rfl
  · refine ⟨(s.taken rest).serviceOff b, ?_, ?_⟩
    · refine answers_of_settled (f := setServiceOff) (by rw [hr]; rfl) hh ha ?_
      rw [setServiceOff_eq _ hf hb, hy]
      rfl
    · have hd' : ((s.taken rest).channel b).detection ≠ .outOfService := hd
      have hc := State.serviceOff_channel hd' b
      obtain ⟨p, q, z, hsag⟩ := (s.taken rest).endSag_channel b .withdrawn
      rw [if_pos rfl] at hc
      have he := State.serviceOff_ended hd'
      refine ⟨by rw [hc]; rfl, by rw [hc], by rw [hc]; rfl, by rw [hc]; rfl, by rw [hc]; rfl, by rw [hc, hsag]; rfl,
        by rw [hc, hsag]; rfl, fun ho => ?_, ⟨he.1, he.2, he.3, he.4, he.5⟩, fun hbus d hdb => ?_, fun ho hu => ?_⟩
      · rw [hc, State.endSag_channel_none .withdrawn (s := s.taken rest) ho]
        rfl
      · rw [State.serviceOff_channel hd', if_neg (Ne.symm hdb),
          State.endSag_channel_other (s := s.taken rest) .withdrawn hbus hdb]
        rfl
      · rw [State.serviceOff_eq hd', State.endSag_idle .withdrawn (s := s.taken rest) ho hu]
        rfl
  · exact answers_of_head (f := setServiceOn) (by rw [hr]; rfl) hh
      (setServiceOn_eq hf hb (State.serviceOn_already (s := s.taken rest) hd))
  · exact answers_of_head (f := setServiceOn) (by rw [hr]; rfl) hh
      (setServiceOn_refused hf hb (State.serviceOn_invalid (s := s.taken rest) hd hrow))
  · refine ⟨(s.taken rest).served b row, ?_, ?_, fun d hdb => ?_, fun i e h => State.served_entry (s.taken rest) b row h, ?_⟩
    · exact answers_of_head (f := setServiceOn) (by rw [hr]; rfl) hh
        (setServiceOn_eq hf hb (State.serviceOn_valid (s := s.taken rest) hd hrow))
    · rw [State.served_channel, if_pos rfl]
      rfl
    · rw [State.served_channel, if_neg (Ne.symm hdb)]
      rfl
    · rfl

end Sys2Proof.Machine
end

section
/-! SUPPORT. The frames of Bus Watch: what it makes of the oldest SENSE frame handed to it (R2 to R5), and the evaluation of an
accepted frame in each detection state (R7 to R16, R19, R23). -/

namespace Sys2Proof.Machine

/-! ## Entering NORMAL -/

theorem State.releaseOf_isNone {s : State} {k : Station} :
    (s.releaseOf k).isNone = true ↔ ∀ q y, s.release q = some y → y.stack ≠ k := by
  simp only [State.releaseOf, Option.isNone_iff_eq_none, List.find?_eq_none]
  constructor
  · intro h q y hq hk
    have := h q (List.mem_finRange q)
    simp [hq, hk] at this
  · intro h q _
    cases hq : s.release q with
    | none => simp
    | some y => simpa using h q y hq

/-- Settles O27: the channel set, and the tidy RELEASE on its five conditions. -/
theorem enteringNormal : Obligations.EnteringNormal := by
  intro s b u
  have hu : s.enterNormal b = u.tidyBus b := s.enterNormal_eq b
  have hrow : u.row b = s.activeBank.busRows[b] := by
    simp only [u, State.row, State.channel_setChannel, if_pos]
    rfl
  refine ⟨fun h => ?_, ?_⟩
  · rw [hu, State.tidyBus, hrow, h]
  · intro r h v idle
    have hidle : (u.view r.stack).reported = .bypassed ∧ ¬ (u.view r.stack).unresponsive ∧ (u.releaseOf r.stack).isNone ∧
        (u.view r.stack).unsent = none ∧ (u.view r.stack).outstanding = [] ↔ idle := by
      rw [State.releaseOf_isNone]
      simp [u, v, idle]
    refine ⟨fun hi => ?_, fun hi => ?_⟩
    · rw [hu, State.tidyBus, hrow, h]
      exact if_pos (hidle.2 hi)
    · rw [hu, State.tidyBus, hrow, h]
      exact if_neg fun k => hi (hidle.1 k)

/-! ## The oldest frame -/

theorem State.verdict_handed (s : State) (x : HandedSense) (l : List HandedSense) :
    ({ s with handed.sense := l } : State).verdict x = s.verdict x := rfl

/-- The bus whose row names the source as its head, where it is the only one. -/
theorem State.busOfHead_of_unique {s : State} {n : Nat} {b : Bus} {r : BusRow} (hr : s.row b = some r)
    (hn : r.head.address = n) (hu : ∀ b' r', s.row b' = some r' → r'.head.address = n → b' = b) :
    s.busOfHead n = some b := by
  cases h : s.busOfHead n with
  | none =>
    have := List.find?_eq_none.1 h b (List.mem_finRange b)
    simp [hr, hn] at this
  | some d =>
    have hd := List.find?_some h
    cases hrd : s.row d with
    | none => simp [hrd] at hd
    | some r' => rw [hu d r' hrd (by simpa [hrd] using hd)]

theorem State.busOfHead_none {s : State} {n : Nat} (h : ∀ b r, s.row b = some r → r.head.address ≠ n) :
    s.busOfHead n = none := by
  refine List.find?_eq_none.2 fun b _ => ?_
  cases hr : s.row b with
  | none => simp
  | some r => simpa using h b r hr

/-- The verdict on a frame of one bus's head. -/
theorem State.verdict_of_bus {s : State} {x : HandedSense} {b : Bus} {r : BusRow} (hr : s.row b = some r)
    (hb : s.busOfHead x.source = some b) :
    s.verdict x = if (s.channel b).detection = .outOfService then .ignored b else (s.channel b).judge b r x := by
  simp [State.verdict, hb, hr]

theorem exec_senseFrame_of_front {s : State} {x : HandedSense} {rest : List HandedSense} (h : s.handed.sense = x :: rest) :
    exec .senseFrame s = .next (({ s with handed.sense := rest } : State).takeSense x) := by
  simp [exec, execSenseFrame, State.takeNextSense, h]

/-- Settles O19, verdict by verdict. -/
theorem senseFramesSorted : Obligations.SenseFramesSorted := by
  intro s x rest hfront u
  have hexec := exec_senseFrame_of_front hfront
  have htake : ∀ v, s.verdict x = v → u.verdict x = v := fun v h => h
  refine ⟨fun hnone => ?_, fun b r hr hx hu => ?_⟩
  · have hv : u.verdict x = .stray := htake _ (by rw [State.verdict, State.busOfHead_none hnone])
    rw [hexec, State.takeSense, hv]
    rfl
  · have hverdict := State.verdict_of_bus (x := x) hr (State.busOfHead_of_unique hr hx hu)
    refine ⟨fun hd => ?_, fun hd => ?_⟩
    · rw [if_pos hd] at hverdict
      rw [hexec, State.takeSense, htake _ hverdict]
      rfl
    · rw [if_neg hd] at hverdict
      refine ⟨fun hbase => ⟨hfront, ?_⟩, fun base hbase => ⟨fun hs => ?_, fun hs ht => ?_, fun hs ht => ⟨hfront, ?_⟩⟩⟩
      · simp [hverdict, BusChannel.judge, hbase]
      · have hv : u.verdict x = .duplicate b := htake _ (by simp [hverdict, BusChannel.judge, hbase, hs])
        rw [hexec, State.takeSense, hv]
        rfl
      · have hstale : isStale x.frame.timestamp base.timestamp = true := decide_eq_true ht
        have hv : u.verdict x = .stale b :=
          htake _ (by simp [hverdict, BusChannel.judge, hbase, hs, hstale])
        rw [hexec, State.takeSense, hv]
        rfl
      · have hstale : isStale x.frame.timestamp base.timestamp = false := decide_eq_false (not_lt.2 ht)
        simp [hverdict, BusChannel.judge, hbase, hs, hstale]

/-! ## An accepted frame -/

section Accepted
variable {s : State} {x : HandedSense} {rest : List HandedSense} {b : Bus} {r : BusRow}

theorem exec_senseFrame_of_accepts (h : s.Accepts x rest b r) :
    exec .senseFrame s =
      .next (((s.accepting x rest b r).evaluate b r (s.frameOf b r x)).passOn (s.frameOf b r x) x.taken) := by
  rw [exec_senseFrame_of_front h.front, State.takeSense, State.verdict_handed, h.verdict]
  rfl

theorem State.Accepts.evaluates {t : State} (h : s.Accepts x rest b r)
    (ht : (s.accepting x rest b r).evaluate b r (s.frameOf b r x) = t) :
    exec .senseFrame s = .next (t.passOn (s.frameOf b r x) x.taken) := by
  rw [exec_senseFrame_of_accepts h, ht]

theorem State.accepting_channel (s : State) (x : HandedSense) (rest : List HandedSense) (b : Bus) (r : BusRow) :
    (s.accepting x rest b r).channel b = (s.channel b).accept s.now r x := by
  rw [State.accepting, State.channel_modChannel, if_pos rfl]
  rfl

@[simp] theorem State.frameOf_below (s : State) (b : Bus) (r : BusRow) (x : HandedSense) (n : Nat) :
    (s.frameOf b r x).frame.below n = decide (x.low < n * n) := rfl

@[simp] theorem State.frameOf_lowest (s : State) (b : Bus) (r : BusRow) (x : HandedSense) :
    (s.frameOf b r x).frame.lowest = isqrt x.low := rfl

@[simp] theorem State.frameOf_timestamp (s : State) (b : Bus) (r : BusRow) (x : HandedSense) :
    (s.frameOf b r x).frame.timestamp = x.frame.timestamp := rfl

theorem State.frameOf_anyAbove (s : State) (b : Bus) (r : BusRow) (x : HandedSense) :
    (s.frameOf b r x).frame.amps.anyAbove r.faultLimit = true ↔ x.overCurrent r := by
  simp [Currents.anyAbove, HandedSense.overCurrent, State.frameOf, BusChannel.acceptedFrame, SenseFrame.clamped]

end Accepted

end Sys2Proof.Machine
end

section
/-! SUPPORT. An accepted frame evaluated, state by state (R7 to R9, R11, R12, R15, R16, R18, R19). -/

namespace Sys2Proof.Machine

section Evaluated
variable {s : State} {x : HandedSense} {rest : List HandedSense} {b : Bus} {r : BusRow}

/-! ## The evaluation, by the state the frame finds -/

theorem State.evaluate_normal {f : AcceptedFrame} (hd : (s.channel b).detection = .normal)
    (hf : f.frame.amps.anyAbove r.faultLimit = false) : s.evaluate b r f = s.evaluateNormal b r f := by
  simp [State.evaluate, hd, hf]

theorem State.evaluate_suspect {f : AcceptedFrame} (hd : (s.channel b).detection = .suspect)
    (hf : f.frame.amps.anyAbove r.faultLimit = false) : s.evaluate b r f = s.evaluateSuspect b r f := by
  simp [State.evaluate, hd, hf]

theorem State.evaluate_sag {f : AcceptedFrame} (hd : (s.channel b).detection = .sag)
    (hf : f.frame.amps.anyAbove r.faultLimit = false) : s.evaluate b r f = s.evaluateSag b r f := by
  simp [State.evaluate, hd, hf]

theorem State.evaluate_recovering {f : AcceptedFrame} (hd : (s.channel b).detection = .recovering)
    (hf : f.frame.amps.anyAbove r.faultLimit = false) : s.evaluate b r f = s.evaluateRecovering b r f := by
  simp [State.evaluate, hd, hf]

theorem State.evaluate_faulted {f : AcceptedFrame} (hd : (s.channel b).detection = .faulted) :
    s.evaluate b r f = s.evaluateFaulted b r f := by
  simp [State.evaluate, hd]

theorem State.evaluate_silent {f : AcceptedFrame} (hd : (s.channel b).detection = .silent) :
    s.evaluate b r f = (s.enterNormal b).reportByFrame b .silent .normal f := by
  simp [State.evaluate, hd]

/-- A fault current in one of the four states in which it is not awaited. -/
theorem State.evaluate_over {f : AcceptedFrame} (hd : (s.channel b).detection = .normal ∨
    (s.channel b).detection = .suspect ∨ (s.channel b).detection = .sag ∨ (s.channel b).detection = .recovering)
    (hf : f.frame.amps.anyAbove r.faultLimit = true) : s.evaluate b r f = s.enterFaulted b f := by
  rcases hd with hd | hd | hd | hd <;> simp [State.evaluate, hd, hf]

theorem State.frameOf_notAbove (h : ¬ x.overCurrent r) : (s.frameOf b r x).frame.amps.anyAbove r.faultLimit = false := by
  rw [← State.frameOf_anyAbove s b r x] at h
  simpa using h

theorem State.accepting_detection (s : State) (x : HandedSense) (rest : List HandedSense) (b : Bus) (r : BusRow) :
    ((s.accepting x rest b r).channel b).detection = (s.channel b).detection := by
  rw [State.accepting_channel]
  rfl

theorem State.accepting_runCount (s : State) (x : HandedSense) (rest : List HandedSense) (b : Bus) (r : BusRow) :
    ((s.accepting x rest b r).channel b).runCount = (s.channel b).runCount := by
  rw [State.accepting_channel]
  rfl

theorem State.accepting_openEvent (s : State) (x : HandedSense) (rest : List HandedSense) (b : Bus) (r : BusRow) :
    ((s.accepting x rest b r).channel b).openEvent = (s.channel b).openEvent := by
  rw [State.accepting_channel]
  rfl

theorem State.accepting_untracked (s : State) (x : HandedSense) (rest : List HandedSense) (b : Bus) (r : BusRow) :
    ((s.accepting x rest b r).channel b).untracked = (s.channel b).untracked := by
  rw [State.accepting_channel]
  rfl

theorem State.accepting_suspectLowest (s : State) (x : HandedSense) (rest : List HandedSense) (b : Bus) (r : BusRow) :
    ((s.accepting x rest b r).channel b).suspectLowest = (s.channel b).suspectLowest := by
  rw [State.accepting_channel]
  rfl

@[simp] theorem State.accepting_entry (s : State) (x : HandedSense) (rest : List HandedSense) (b : Bus) (r : BusRow)
    (i : EventIx) : (s.accepting x rest b r).entry i = s.entry i := by
  rw [State.accepting, State.entry_modChannel]
  rfl

theorem BusChannel.nextRun_eq {c : BusChannel} (h : c.runCount < 64) : c.nextRun = c.runCount + 1 :=
  Nat.min_eq_left (Nat.succ_le_of_lt h)

/-! ## NORMAL and SUSPECT -/

/-- Settles O21: the swell first, then the suspect sag. -/
theorem normalFrameEvaluated : Obligations.NormalFrameEvaluated := by
  intro s x rest b r ha hd hover hone
  refine ha.evaluates ?_
  rw [State.evaluate_normal ((s.accepting_detection x rest b r).trans hd) (State.frameOf_notAbove hover)]
  generalize s.accepting x rest b r = u
  rw [State.evaluateNormal, State.evaluateSwell_eq, State.frameOf_below]
  by_cases hlow : x.low < r.sagThreshold * r.sagThreshold
  · simp [hlow, hone hlow]
    rfl
  · simp [hlow]
    rfl

/-- Settles O22: a frame below the threshold is counted, and one at or above it is a dip. -/
theorem suspectFrameEvaluated : Obligations.SuspectFrameEvaluated := by
  intro s x rest b r lowest ha hd hlowest hrun hover u c
  have heval : u.evaluate b r (s.frameOf b r x) = u.evaluateSuspect b r (s.frameOf b r x) :=
    State.evaluate_suspect ((s.accepting_detection x rest b r).trans hd) (State.frameOf_notAbove hover)
  have hc : c.runCount = (s.channel b).runCount := s.accepting_runCount x rest b r
  have hsl : c.suspectLowest = some lowest := (s.accepting_suspectLowest x rest b r).trans hlowest
  refine ⟨fun hlow hne => ha.evaluates (heval.trans ?_), fun hhigh => ha.evaluates (heval.trans ?_)⟩
  · have hnext : c.nextRun = c.runCount + 1 := BusChannel.nextRun_eq (hc ▸ hrun)
    have hne' : c.runCount + 1 ≠ r.confirmCount := hc ▸ hne
    simp [State.evaluateSuspect, hlow, State.modChannel, hnext, hne', hsl, c, u]
  · rw [State.evaluateSuspect, State.frameOf_below, decide_eq_false (not_lt.2 hhigh), if_neg (by simp)]
    rfl

end Evaluated

end Sys2Proof.Machine
end

section
/-! SUPPORT. An accepted frame that finds a sag, a recovery or a fault (R11 to R16), and silence (R17 to R19). -/

namespace Sys2Proof.Machine

section Evaluated
variable {s : State} {x : HandedSense} {rest : List HandedSense} {b : Bus} {r : BusRow}

/-! ## Strikes -/

@[simp] theorem State.setEntry_entry {s : State} {i : EventIx} {e : Event} (h : s.entry i = some e) :
    s.setEntry i (some e) = s := by
  rw [← h]
  simp [State.setEntry, State.entry]

theorem State.setChannel_setEntry (s : State) (b : Bus) (c : BusChannel) (i : EventIx) (o : Option Event) :
    (s.setChannel b c).setEntry i o = (s.setEntry i o).setChannel b c := rfl

theorem lowerLast_append (m : Nat) (before : List Strike) (last : Strike) :
    lowerLast m (before ++ [last]) = before ++ [⟨last.offset, min last.lowest m⟩] := by
  induction before with
  | nil => rfl
  | cons y l ih =>
    cases l with
    | nil => rfl
    | cons z l => exact congrArg (y :: ·) ih

theorem State.lowerStrike_none {f : AcceptedFrame} (h : (s.channel b).openEvent = none) : s.lowerStrike b f = s := by
  simp [State.lowerStrike, h]

theorem State.lowerStrike_some {f : AcceptedFrame} {i : EventIx} {e : Event} (h : (s.channel b).openEvent = some i)
    (he : s.entry i = some e) : s.lowerStrike b f = s.setEntry i (some (e.lowerStrike f.frame.lowest)) := by
  simp [State.lowerStrike, h, State.modEvent_eq _ he]

theorem State.renewStrike_none {f : AcceptedFrame} (h : (s.channel b).openEvent = none) : s.renewStrike b f = s := by
  simp [State.renewStrike, h]

theorem State.renewStrike_some {f : AcceptedFrame} {i : EventIx} {e : Event} (h : (s.channel b).openEvent = some i)
    (he : s.entry i = some e) : s.renewStrike b f =
      s.setEntry i (some (e.addStrike (elapsedMillis f.frame.timestamp e.start) f.frame.lowest)) := by
  simp [State.renewStrike, h, State.modEvent_eq _ he]

/-- A frame in SAG that does not complete a recovery: the strike lowered, and the state of its band. -/
theorem State.evaluateSag_eq (hn : r.recoverCount ≠ 1) (f : AcceptedFrame) : s.evaluateSag b r f =
    if f.frame.below r.recoveryThreshold then s.lowerStrike b f
    else (s.lowerStrike b f).setChannel b { s.channel b with detection := .recovering, runCount := 1 } := by
  unfold State.evaluateSag
  dsimp only
  split
  · rfl
  · simp only [State.modChannel, State.channel_lowerStrike]

/-- Settles O24, band by band. -/
theorem sagFramesEvaluated : Obligations.SagFramesEvaluated := by
  refine ⟨fun s x rest b r ha hd hover hone => ?_, fun s x rest b r ha hd hover hrun => ?_⟩
  · intro u moved
    have heval : u.evaluate b r (s.frameOf b r x) = moved (u.lowerStrike b (s.frameOf b r x)) := by
      rw [State.evaluate_sag ((s.accepting_detection x rest b r).trans hd) (State.frameOf_notAbove hover),
        State.evaluateSag_eq hone]
      simp only [State.frameOf_below, decide_eq_true_eq, moved, u]
    have hopen : (u.channel b).openEvent = (s.channel b).openEvent := s.accepting_openEvent x rest b r
    have hentry : ∀ i, u.entry i = s.entry i := s.accepting_entry x rest b r
    refine ⟨fun ho => ha.evaluates (heval.trans ?_), fun i e ho he hover => ha.evaluates (heval.trans ?_),
      fun i e before last ho he hzero hl => ha.evaluates (heval.trans ?_)⟩
    · rw [State.lowerStrike_none (hopen.trans ho)]
    · rw [State.lowerStrike_some (hopen.trans ho) ((hentry i).trans he), Event.lowerStrike, if_pos hover,
        State.setEntry_entry ((hentry i).trans he)]
    · rw [State.lowerStrike_some (hopen.trans ho) ((hentry i).trans he), Event.lowerStrike, if_neg (by omega), hl,
        lowerLast_append]
      rfl
  · intro u c back
    have heval : u.evaluate b r (s.frameOf b r x) = u.evaluateRecovering b r (s.frameOf b r x) :=
      State.evaluate_recovering ((s.accepting_detection x rest b r).trans hd) (State.frameOf_notAbove hover)
    have hc : c.runCount = (s.channel b).runCount := s.accepting_runCount x rest b r
    have hopen : c.openEvent = (s.channel b).openEvent := s.accepting_openEvent x rest b r
    have hentry : ∀ i, back.entry i = s.entry i := s.accepting_entry x rest b r
    have hback : ∀ o, (s.channel b).openEvent = o → (back.channel b).openEvent = o := fun o ho => by
      simp [back, hopen, ho]
    refine ⟨fun hhigh hne => ha.evaluates (heval.trans ?_), fun hlow hhigh => ha.evaluates (heval.trans ?_),
      fun hlow hsag => ?_⟩
    · have hnext : c.nextRun = c.runCount + 1 := BusChannel.nextRun_eq (hc ▸ hrun)
      have hne' : c.runCount + 1 ≠ r.recoverCount := hc ▸ hne
      simp [State.evaluateRecovering, not_lt.2 hhigh, State.modChannel, hnext, hne', c, u]
    · simp [State.evaluateRecovering, hlow, not_lt.2 hhigh, State.modChannel, c, u]
    · have hrenew : u.evaluateRecovering b r (s.frameOf b r x) = back.renewStrike b (s.frameOf b r x) := by
        simp [State.evaluateRecovering, hlow, hsag, State.modChannel, back, c, u]
      refine ⟨fun ho => ha.evaluates ((heval.trans hrenew).trans ?_),
        fun i e ho he => ha.evaluates ((heval.trans hrenew).trans ?_)⟩
      · exact State.renewStrike_none (hback none ho)
      · exact State.renewStrike_some (hback (some i) ho) ((hentry i).trans he)

/-! ## The sag that a transition ends -/

/-- A sag ended, the channel set with nothing of it, and a report queued. -/
theorem sagEnded_of_report {u : State} (cause : EndCause) (hf : ∀ i, u.entry i = s.entry i)
    (ho : (u.channel b).openEvent = (s.channel b).openEvent) (hu : (u.channel b).untracked = (s.channel b).untracked)
    (hk : (u.channel b).counters.untrackedSags = (s.channel b).counters.untrackedSags)
    (hcc : u.events.closeCounter = s.events.closeCounter) {c : BusChannel} (n : Report)
    (hc : c.openEvent = ((u.endSag b cause).channel b).openEvent)
    (hcu : c.untracked = ((u.endSag b cause).channel b).untracked)
    (hck : c.counters = ((u.endSag b cause).channel b).counters) :
    SagEnded cause b s (((u.endSag b cause).setChannel b c).report n) := by
  obtain ⟨p, q, z, hsag⟩ := u.endSag_channel b cause
  have hch : (((u.endSag b cause).setChannel b c).report n).channel b = c := by
    rw [State.channel_congr (State.report_sheds _ _).channels, State.channel_setChannel, if_pos rfl]
  refine State.endSag_sagEnded cause hf ho hu hk hcc (State.setChannel_report_evolves _ b c n) ?_ ?_ ?_ (by simp)
  · rw [hch, hc, hsag]
    rfl
  · rw [hch, hcu, hsag]
    rfl
  · rw [hch, hck]

theorem SagEnded.passOn {cause : EndCause} {t : State} (h : SagEnded cause b s t) (f : AcceptedFrame) (k : TakenAhead) :
    SagEnded cause b s (t.passOn f k) := ⟨h.1, h.2, h.3, h.4, h.5⟩

/-! ## Fault current -/

theorem State.enterFaulted_eq (s : State) (b : Bus) (f : AcceptedFrame) : s.enterFaulted b f =
    ((s.endSag b .downstreamFault).setChannel b (((s.endSag b .downstreamFault).channel b).leaveSag .faulted)).report
      (.busState b (s.channel b).detection .faulted .frame (some f.frame.timestamp)) := rfl

theorem State.enterFaulted_channel (s : State) (b : Bus) (f : AcceptedFrame) :
    (s.enterFaulted b f).channel b = ((s.endSag b .downstreamFault).channel b).leaveSag .faulted := by
  rw [State.enterFaulted_eq, State.channel_congr (State.report_sheds _ _).channels, State.channel_setChannel, if_pos rfl]

theorem State.accepting_ended {cause : EndCause} {c : BusChannel} (n : Report)
    (hc : c.openEvent = (((s.accepting x rest b r).endSag b cause).channel b).openEvent)
    (hcu : c.untracked = (((s.accepting x rest b r).endSag b cause).channel b).untracked)
    (hck : c.counters = (((s.accepting x rest b r).endSag b cause).channel b).counters) :
    SagEnded cause b s ((((s.accepting x rest b r).endSag b cause).setChannel b c).report n) := by
  refine sagEnded_of_report cause (s.accepting_entry x rest b r) (s.accepting_openEvent x rest b r)
    (s.accepting_untracked x rest b r) ?_ ?_ n hc hcu hck
  · rw [State.accepting_channel]
    rfl
  · simp [State.accepting]

/-- Settles O26: the fault current's transition, and the count in FAULTED. -/
theorem faultCurrentTaken : Obligations.FaultCurrentTaken := by
  refine ⟨fun s x rest b r ha hover hd => ?_, fun s x rest b r ha hd hrun => ?_⟩
  · have heval := State.evaluate_over (s := s.accepting x rest b r) (r := r) (f := s.frameOf b r x)
      ((s.accepting_detection x rest b r).symm ▸ hd) ((s.frameOf_anyAbove b r x).2 hover)
    have hleft : ((s.accepting x rest b r).channel b).detection = (s.channel b).detection := s.accepting_detection x rest b r
    refine ⟨⟨_, ha.evaluates heval, ?_⟩, fun ho hu => ?_⟩
    · obtain ⟨p, q, z, hsag⟩ := (s.accepting x rest b r).endSag_channel b .downstreamFault
      have hch : (((s.accepting x rest b r).enterFaulted b (s.frameOf b r x)).passOn (s.frameOf b r x) x.taken).channel b =
          (((s.accepting x rest b r).endSag b .downstreamFault).channel b).leaveSag .faulted :=
        State.enterFaulted_channel _ b _
      refine ⟨by rw [hch]; rfl, by rw [hch]; rfl, by rw [hch]; rfl, by rw [hch]; rfl, ?_, ?_⟩
      · rw [hch, hsag, State.accepting_channel]
        rfl
      · rw [State.enterFaulted_eq]
        refine SagEnded.passOn ?_ _ _
        exact State.accepting_ended (c := BusChannel.leaveSag .faulted _) _ rfl rfl rfl
    · refine ha.evaluates (heval.trans ?_)
      rw [State.enterFaulted_eq, hleft, State.endSag_idle _ ((s.accepting_openEvent x rest b r).trans ho)
        ((s.accepting_untracked x rest b r).trans hu)]
      rfl
  · intro u c
    have heval : u.evaluate b r (s.frameOf b r x) = u.evaluateFaulted b r (s.frameOf b r x) :=
      State.evaluate_faulted ((s.accepting_detection x rest b r).trans hd)
    have hc : c.runCount = (s.channel b).runCount := s.accepting_runCount x rest b r
    have hnext : c.nextRun = c.runCount + 1 := BusChannel.nextRun_eq (hc ▸ hrun)
    refine ⟨fun hover => ha.evaluates (heval.trans ?_), fun hover hne => ha.evaluates (heval.trans ?_),
      fun hover heq => ha.evaluates (heval.trans ?_)⟩
    · rw [State.evaluateFaulted, if_pos ((s.frameOf_anyAbove b r x).2 hover)]
      rfl
    · have hne' : c.runCount + 1 ≠ r.recoverCount := hc ▸ hne
      simp [State.evaluateFaulted, State.frameOf_notAbove hover, State.modChannel, hnext, hne', c, u]
    · have heq' : c.runCount + 1 = r.recoverCount := hc ▸ heq
      simp [State.evaluateFaulted, State.frameOf_notAbove hover, State.modChannel, hnext, heq', State.reportByFrame, c, u]

/-! ## Silence -/

theorem State.silenceExpires_eq {n : Nat} (h : (s.channel b).silence = some n) (hn : n ≤ s.now) : s.silenceExpires b =
    ((s.endSag b .lostSight).setChannel b { ((s.endSag b .lostSight).channel b).leaveSag .silent with
      silence := none, baseline := none }).report (.busState b (s.channel b).detection .silent .expiry none) := by
  simp [State.silenceExpires, State.silenceDue, h, hn, State.modChannel]

theorem State.silenceExpires_early (h : ∀ n, (s.channel b).silence = some n → s.now < n) : s.silenceExpires b = s := by
  refine if_neg ?_
  cases hs : (s.channel b).silence with
  | none => simp [State.silenceDue, hs]
  | some n => simpa [State.silenceDue, hs] using h n hs

theorem exec_silenceExpiry_of_inTime {time : Nat} (h : s.InTime time) (b : Bus) :
    exec (.silenceExpiry time b.val) s = .next (({ s with now := max s.now time } : State).silenceExpires b) := by
  rw [show Instr.silenceExpiry time b.val = (Timer.silence b).command time from rfl, exec_timer_command,
    State.at_of_inTime h]
  rfl

/-- Settles O28: the expiry at its moment, and the first frame after it. -/
theorem silenceTaken : Obligations.SilenceTaken := by
  refine ⟨fun s time b hin => ?_, fun s x rest b r ha hd => ?_⟩
  · intro u
    rw [exec_silenceExpiry_of_inTime hin]
    refine ⟨fun n hn hle => ?_, fun h => ?_⟩
    · have heq := State.silenceExpires_eq (s := u) hn hle
      obtain ⟨p, q, z, hsag⟩ := u.endSag_channel b .lostSight
      refine ⟨⟨u.silenceExpires b, rfl, ?_⟩, fun ho hun => ?_⟩
      · have hch : (u.silenceExpires b).channel b =
            { ((u.endSag b .lostSight).channel b).leaveSag .silent with silence := none, baseline := none } := by
          rw [heq, State.channel_congr (State.report_sheds _ _).channels, State.channel_setChannel, if_pos rfl]
        refine ⟨by rw [hch]; rfl, by rw [hch]; rfl, by rw [hch]; rfl, by rw [hch]; rfl, by rw [hch], by rw [hch], ?_, ?_⟩
        · rw [hch, hsag]
          rfl
        · rw [heq]
          refine sagEnded_of_report (s := s) (u := u) .lostSight (fun _ => rfl) rfl rfl rfl rfl _ ?_ ?_ ?_
          all_goals rfl
      · change Host.Outcome.next (u.silenceExpires b) = _
        rw [heq, State.endSag_idle (s := u) .lostSight ho hun]
        rfl
    · exact congrArg _ (State.silenceExpires_early (s := u) h)
  · exact ha.evaluates (State.evaluate_silent ((s.accepting_detection x rest b r).trans hd))

end Evaluated

end Sys2Proof.Machine
end

section
/-! SUPPORT. What the evaluation of an accepted frame leaves of the acceptance (R3, R5, R122). -/

namespace Sys2Proof.Machine

/-! ## What an evaluation keeps -/

/-- A channel as its acceptance has left it: the baseline, the one-shot, the count of accepted frames, GAP and HEAD-DEGRADED. -/
structure BusChannel.AcceptedTo (c d : BusChannel) : Prop where
  baseline : d.baseline = c.baseline
  silence : d.silence = c.silence
  accepted : d.counters.accepted = c.counters.accepted
  gap : d.alarms.gap = c.alarms.gap
  headDegraded : d.alarms.headDegraded = c.alarms.headDegraded

theorem BusChannel.AcceptedTo.refl (c : BusChannel) : c.AcceptedTo c := ⟨rfl, rfl, rfl, rfl, rfl⟩

theorem BusChannel.AcceptedTo.trans {c d e : BusChannel} (h : c.AcceptedTo d) (k : d.AcceptedTo e) : c.AcceptedTo e :=
  ⟨k.1.trans h.1, k.2.trans h.2, k.3.trans h.3, k.4.trans h.4, k.5.trans h.5⟩

theorem BusChannel.AlarmedTo.acceptedTo {c d : BusChannel} (h : c.AlarmedTo d) : c.AcceptedTo d := by
  obtain ⟨_, _, _, rfl⟩ := h
  exact ⟨rfl, rfl, rfl, rfl, rfl⟩

/-- The channel of bus `b` keeps what its acceptance has left, and the frames that wait for the Capture Unit stay, or lose those of
the bus where its row names a capture channel. -/
structure Retains (b : Bus) (r : BusRow) (s t : State) : Prop where
  channel : (s.channel b).AcceptedTo (t.channel b)
  capture : t.handed.capture = s.handed.capture ∨
    r.capture ≠ none ∧ t.handed.capture = s.handed.capture.filter fun g => decide (g.bus ≠ b)

section Retained
variable {b : Bus} {r : BusRow} {s t u : State}

theorem Retains.of_handed (hc : (s.channel b).AcceptedTo (t.channel b)) (hh : t.handed = s.handed) : Retains b r s t :=
  ⟨hc, .inl (by rw [hh])⟩

theorem Retains.refl (s : State) : Retains b r s s := .of_handed (.refl _) rfl

theorem Retains.trans (h : Retains b r s t) (k : Retains b r t u) : Retains b r s u := by
  refine ⟨h.channel.trans k.channel, ?_⟩
  rcases k.capture with k | ⟨hr, k⟩
  · rw [k]
    exact h.capture
  · refine .inr ⟨hr, ?_⟩
    rcases h.capture with h | ⟨-, h⟩
    · rw [k, h]
    · rw [k, h]
      simp

/-- The second of two changes named first. -/
theorem Retains.after (k : Retains b r t u) (h : Retains b r s t) : Retains b r s u := h.trans k

theorem State.setChannel_retains {c : BusChannel} (h : (s.channel b).AcceptedTo c) : Retains b r s (s.setChannel b c) :=
  .of_handed (by rw [State.channel_setChannel, if_pos rfl]; exact h) (by simp)

theorem State.modChannel_retains {f : BusChannel → BusChannel} (h : ∀ c : BusChannel, c.AcceptedTo (f c)) :
    Retains b r s (s.modChannel b f) := State.setChannel_retains (h _)

theorem State.endSag_retains (s : State) (cause : EndCause) : Retains b r s (s.endSag b cause) := by
  refine .of_handed ?_ (by simp)
  have h : (s.channel b).AcceptedTo (s.channel b).sagEnded := ⟨rfl, rfl, rfl, rfl, rfl⟩
  exact h.trans (s.endSag_channel b cause).acceptedTo

theorem State.enterNormal_retains (s : State) : Retains b r s (s.enterNormal b) := by
  refine .of_handed ?_ (by simp)
  rw [State.enterNormal_channel, if_pos rfl]
  exact ⟨rfl, rfl, rfl, rfl, rfl⟩

theorem State.report_retains (s : State) (n : Report) : Retains b r s (s.report n) :=
  .of_handed (State.channel_congr (s.report_sheds n).channels b ▸ .refl _) (by simp)

/-! ## Confirmation -/

theorem foldl_captureTakes_handed (l : List AcceptedFrame) (s : State) : (l.foldl State.captureTakes s).handed = s.handed := by
  induction l generalizing s with
  | nil => rfl
  | cons f l ih =>
    rw [List.foldl_cons, ih]
    simp

theorem State.captureCaughtUp_capture (s : State) (b : Bus) :
    (s.captureCaughtUp b).handed.capture = s.handed.capture.filter fun g => decide (g.bus ≠ b) := by
  rw [State.captureCaughtUp, foldl_captureTakes_handed]

theorem State.captureOpening_capture (s : State) (i : EventIx) (choice : Option CaptureIx) (f : AcceptedFrame) :
    (s.captureOpening i choice f).handed.capture = s.handed.capture ∨ choice ≠ none ∧
      (s.captureOpening i choice f).handed.capture = s.handed.capture.filter fun g => decide (g.bus ≠ f.bus) := by
  unfold State.captureOpening
  cases choice with
  | none => exact .inl rfl
  | some k =>
    dsimp only
    split
    · exact .inl (by simp)
    · refine .inr ⟨by simp, ?_⟩
      rw [← State.captureCaughtUp_capture]
      generalize s.captureCaughtUp f.bus = w
      split <;> simp

theorem State.startEvent_handed (s : State) (i : EventIx) (e : Event) (f : SenseFrame) :
    (s.startEvent i e f).handed = s.handed := by
  unfold State.startEvent
  dsimp only
  split <;> simp

theorem State.openEvent_capture {start : U32} {lowest : Nat} {f : AcceptedFrame} {i : EventIx}
    (h : s.openEvent r start lowest f = some (i, t)) : t.handed.capture = s.handed.capture ∨
      r.capture ≠ none ∧ t.handed.capture = s.handed.capture.filter fun g => decide (g.bus ≠ f.bus) := by
  unfold State.openEvent at h
  split at h
  · cases h
  · next i _ =>
    simp only [Option.some.injEq, Prod.mk.injEq] at h
    obtain ⟨rfl, rfl⟩ := h
    have hw := State.captureOpening_capture (State.startEvent
      (({ s with events.openCounter := s.events.openCounter + 1 } : State).setRate i none) i
      (Event.opened f.bus s.events.openCounter start (r.openedUnder (s.envelopeOf f.bus r)) lowest f.frame.timestamp) f.frame)
      i r.capture f
    rwa [State.startEvent_handed] at hw

theorem State.confirmSag_retains {f : AcceptedFrame} (hf : f.bus = b) : Retains b r s (s.confirmSag b r f) := by
  unfold State.confirmSag
  dsimp only
  split
  · next i t h =>
    have hopen : Retains b r s t :=
      ⟨State.channel_congr (State.openEvent_frame _ _ _ _ _ _ h).2.2.1 b ▸ .refl _, hf ▸ State.openEvent_capture h⟩
    refine (State.modChannel_retains fun c => ?_).after ((State.modChannel_retains fun c => ?_).after hopen)
    · exact ⟨rfl, rfl, rfl, rfl, rfl⟩
    · exact ⟨rfl, rfl, rfl, rfl, rfl⟩
  · refine (State.modChannel_retains fun c => ?_).after (State.modChannel_retains fun c => ?_)
    · exact ⟨rfl, rfl, rfl, rfl, rfl⟩
    · exact ⟨rfl, rfl, rfl, rfl, rfl⟩

/-! ## The evaluation -/

theorem State.evaluateSwell_retains (s : State) (f : AcceptedFrame) : Retains b r s (s.evaluateSwell b r f) := by
  rw [State.evaluateSwell_eq]
  refine State.setChannel_retains ?_
  split
  · exact ⟨rfl, rfl, rfl, rfl, rfl⟩
  · exact .refl _

theorem State.evaluateNormal_retains {f : AcceptedFrame} (hf : f.bus = b) : Retains b r s (s.evaluateNormal b r f) := by
  have hswell : Retains b r s (s.evaluateSwell b r f) := s.evaluateSwell_retains f
  unfold State.evaluateNormal
  dsimp only
  split
  · have hsuspect : Retains b r s ((s.evaluateSwell b r f).modChannel b fun c =>
        { c with
          detection := .suspect
          runCount := 1
          suspectStart := some f.frame.timestamp
          suspectLowest := some f.frame.lowest }) := by
      refine Retains.after (State.modChannel_retains fun c => ?_) hswell
      exact ⟨rfl, rfl, rfl, rfl, rfl⟩
    split
    · exact (State.confirmSag_retains hf).after hsuspect
    · exact hsuspect
  · exact hswell

theorem State.evaluateSuspect_retains {f : AcceptedFrame} (hf : f.bus = b) : Retains b r s (s.evaluateSuspect b r f) := by
  unfold State.evaluateSuspect
  dsimp only
  split
  · have hrun : Retains b r s (s.modChannel b fun c =>
        { c with
          runCount := c.nextRun
          suspectLowest := some (min (c.suspectLowest.getD f.frame.lowest) f.frame.lowest) }) :=
      State.modChannel_retains fun _ => ⟨rfl, rfl, rfl, rfl, rfl⟩
    split
    · exact (State.confirmSag_retains hf).after hrun
    · exact hrun
  · exact (State.enterNormal_retains _).after (State.modChannel_retains fun _ => ⟨rfl, rfl, rfl, rfl, rfl⟩)

theorem State.completeRecovery_retains (s : State) : Retains b r s (s.completeRecovery b) :=
  (State.enterNormal_retains _).after (s.endSag_retains .recovered)

theorem State.lowerStrike_retains (s : State) (f : AcceptedFrame) : Retains b r s (s.lowerStrike b f) :=
  .of_handed (s.channel_lowerStrike b b f ▸ .refl _) (by simp)

theorem State.renewStrike_retains (s : State) (f : AcceptedFrame) : Retains b r s (s.renewStrike b f) :=
  .of_handed (s.channel_renewStrike b b f ▸ .refl _) (by simp)

theorem State.evaluateSag_retains (s : State) (f : AcceptedFrame) : Retains b r s (s.evaluateSag b r f) := by
  have hlower : Retains b r s (s.lowerStrike b f) := s.lowerStrike_retains f
  unfold State.evaluateSag
  dsimp only
  split
  · exact hlower
  · have hmoved : Retains b r s
        ((s.lowerStrike b f).modChannel b fun c => { c with detection := .recovering, runCount := 1 }) := by
      refine Retains.after (State.modChannel_retains fun c => ?_) hlower
      exact ⟨rfl, rfl, rfl, rfl, rfl⟩
    split
    · exact (State.completeRecovery_retains _).after hmoved
    · exact hmoved

theorem State.evaluateRecovering_retains (s : State) (f : AcceptedFrame) : Retains b r s (s.evaluateRecovering b r f) := by
  unfold State.evaluateRecovering
  dsimp only
  split
  · have hrun : Retains b r s (s.modChannel b fun c => { c with runCount := c.nextRun }) :=
      State.modChannel_retains fun _ => ⟨rfl, rfl, rfl, rfl, rfl⟩
    split
    · exact (State.completeRecovery_retains _).after hrun
    · exact hrun
  · split
    · exact State.modChannel_retains fun _ => ⟨rfl, rfl, rfl, rfl, rfl⟩
    · exact (State.renewStrike_retains _ f).after (State.modChannel_retains fun _ => ⟨rfl, rfl, rfl, rfl, rfl⟩)

theorem State.enterFaulted_retains (s : State) (f : AcceptedFrame) : Retains b r s (s.enterFaulted b f) := by
  rw [State.enterFaulted_eq]
  refine (State.report_retains _ _).after ((State.setChannel_retains ?_).after (s.endSag_retains .downstreamFault))
  exact ⟨rfl, rfl, rfl, rfl, rfl⟩

theorem State.evaluateFaulted_retains (s : State) (f : AcceptedFrame) : Retains b r s (s.evaluateFaulted b r f) := by
  unfold State.evaluateFaulted
  dsimp only
  split
  · exact State.modChannel_retains fun _ => ⟨rfl, rfl, rfl, rfl, rfl⟩
  · have hrun : Retains b r s (s.modChannel b fun c => { c with runCount := c.nextRun }) :=
      State.modChannel_retains fun _ => ⟨rfl, rfl, rfl, rfl, rfl⟩
    split
    · exact (State.report_retains _ _).after ((State.enterNormal_retains _).after hrun)
    · exact hrun

theorem State.evaluate_retains {f : AcceptedFrame} (hf : f.bus = b) : Retains b r s (s.evaluate b r f) := by
  unfold State.evaluate
  split
  · exact s.evaluateFaulted_retains f
  · exact (State.report_retains _ _).after s.enterNormal_retains
  · exact .refl s
  · split
    · exact s.enterFaulted_retains f
    · exact State.evaluateNormal_retains hf
  · split
    · exact s.enterFaulted_retains f
    · exact State.evaluateSuspect_retains hf
  · split
    · exact s.enterFaulted_retains f
    · exact s.evaluateSag_retains f
  · split
    · exact s.enterFaulted_retains f
    · exact s.evaluateRecovering_retains f

end Retained

/-! ## The acceptance -/

theorem BusChannel.accept_gap (n : Nat) (r : BusRow) (x : HandedSense) (c : BusChannel) :
    (c.accept n r x).alarms.gap = (c.alarms.gap || c.gapBefore x.sequence) := by
  unfold BusChannel.accept
  cases c.gapBefore x.sequence <;> cases x.frame.degraded <;> simp [BusAlarms.add]

theorem BusChannel.accept_headDegraded (n : Nat) (r : BusRow) (x : HandedSense) (c : BusChannel) :
    (c.accept n r x).alarms.headDegraded = (c.alarms.headDegraded || x.frame.degraded) := by
  unfold BusChannel.accept
  cases c.gapBefore x.sequence <;> cases x.frame.degraded <;> simp [BusAlarms.add]

/-- A frame passed on to a unit that has not taken it. -/
theorem passedOn_eq (l : List AcceptedFrame) (f : AcceptedFrame) (taken : Bool) :
    (if taken then l else l ++ [f]) = l ++ if taken then [] else [f] := by
  cases taken <;> simp

/-! ## Clamping -/

theorem clampInt_eq {low high : Int} (h : low ≤ high) (n : Int) : clampInt n low high = max low (min high n) := by
  unfold clampInt
  split
  · omega
  · split <;> omega

theorem clampPhasor_eq (p : Phasor) : clampPhasor p = ⟨max (-2000) (min 2000 p.d), max (-2000) (min 2000 p.q)⟩ := by
  simp [clampPhasor, clampInt_eq]

/-- Settles O20: what the acceptance sets, the evaluation keeps; and the clamped values. -/
theorem acceptedFrameRecorded : Obligations.AcceptedFrameRecorded := by
  refine ⟨fun s x rest b r ha => ?_, fun f => ?_⟩
  · intro c f
    have hev : Retains b r (s.accepting x rest b r) ((s.accepting x rest b r).evaluate b r (s.frameOf b r x)) :=
      State.evaluate_retains rfl
    refine ⟨_, exec_senseFrame_of_accepts ha, ?_⟩
    have hsense : ((s.accepting x rest b r).evaluate b r (s.frameOf b r x)).handed.sense = rest := by
      simp [State.accepting]
    have hinj : ((s.accepting x rest b r).evaluate b r (s.frameOf b r x)).handed.injection = s.handed.injection := by
      simp [State.accepting]
    have henv : ((s.accepting x rest b r).evaluate b r (s.frameOf b r x)).handed.envelope = s.handed.envelope := by
      simp [State.accepting]
    have hwait : (s.accepting x rest b r).handed.capture = s.handed.capture := by simp [State.accepting]
    obtain ⟨⟨hbase, hsil, hacc, hgap, hdeg⟩, hcap⟩ := hev
    generalize (s.accepting x rest b r).evaluate b r (s.frameOf b r x) = t at *
    rw [State.accepting_channel] at hbase hsil hacc hgap hdeg
    rw [hwait] at hcap
    refine ⟨hsense, hbase, hacc, hsil, hgap.trans ?_, hdeg.trans ?_, ?_, ?_, ⟨t.handed.capture, ?_, hcap.imp_right And.right⟩,
      fun hr => ?_⟩
    · exact BusChannel.accept_gap _ _ _ _
    · exact BusChannel.accept_headDegraded _ _ _ _
    · exact (passedOn_eq _ _ _).trans (by rw [hinj]; rfl)
    · exact (passedOn_eq _ _ _).trans (by rw [henv]; rfl)
    · exact passedOn_eq _ _ _
    · have hkept : t.handed.capture = s.handed.capture := hcap.resolve_right fun h => h.1 hr
      exact (passedOn_eq _ _ _).trans (by rw [hkept]; rfl)
  · simp [SenseFrame.clamped, ThreePhase.map, clampPhasor_eq, Nat.min_comm]

end Sys2Proof.Machine
end

section
/-! SUPPORT. The Capture Unit and the egress side do not read the bus channels: what they do is the same whatever the channels
hold. -/

namespace Sys2Proof.Machine

/-- The state with other bus channels. -/
def State.withChannels (s : State) (v : Vector BusChannel 24) : State := { s with channels := v }

theorem State.withChannels_self (s : State) : s.withChannels s.channels = s := rfl

/-- An operation that does not read the bus channels and leaves them alone. -/
def Unwatched (op : State → State) : Prop := ∀ s v, op (s.withChannels v) = (op s).withChannels v

theorem Unwatched.comp {f g : State → State} (hf : Unwatched f) (hg : Unwatched g) : Unwatched fun s => f (g s) := by
  intro s v
  dsimp only
  rw [hg, hf]

theorem Unwatched.foldl {α : Type} {f : State → α → State} (h : ∀ x, Unwatched fun s => f s x) (l : List α) :
    Unwatched fun s => l.foldl f s := by
  intro s v
  induction l generalizing s with
  | nil => rfl
  | cons x l ih =>
    have hx : f (s.withChannels v) x = (f s x).withChannels v := h x s v
    simp only [List.foldl_cons, hx]
    exact ih _

/-! ## The egress side -/

theorem modEvent_unwatched (i : EventIx) (f : Event → Event) : Unwatched fun s => s.modEvent i f := by
  intro s v
  cases h : s.entry i with
  | none =>
    have h' : (s.withChannels v).entry i = none := h
    simp only [State.modEvent_free f h, State.modEvent_free f h']
  | some e =>
    have h' : (s.withChannels v).entry i = some e := h
    simp only [State.modEvent_eq f h, State.modEvent_eq f h']
    rfl

theorem queueClosed_unwatched (i : EventIx) : Unwatched fun s => s.queueClosed i := by
  intro s v
  have h' : (s.withChannels v).entry i = s.entry i := rfl
  simp only [State.queueClosed, h']
  cases s.entry i <;> rfl

theorem serveReporting_unwatched : Unwatched State.serveReporting := by
  intro s v
  have ho : (s.withChannels v).oldestReporting = s.oldestReporting := rfl
  have hr : (s.withChannels v).ring = s.ring := rfl
  simp only [State.serveReporting, ho, hr]
  split
  · cases s.oldestReporting with
    | none => rfl
    | some i => exact queueClosed_unwatched i s v
  · rfl

theorem startNotices_unwatched (f : EgressFrame) : Unwatched fun s => s.startNotices f := by
  intro s v
  cases f with
  | drive f =>
    simp only [State.startNotices]
    cases f.command <;> rfl
  | report f => exact serveReporting_unwatched s v
  | response f => rfl
  | transit bytes => rfl

theorem kick_unwatched : Unwatched State.kick := by
  intro s v
  have hr : (s.withChannels v).ring = s.ring := rfl
  simp only [State.kick, hr]
  cases s.ring.port with
  | some p => rfl
  | none =>
    cases s.ring.choose with
    | none => rfl
    | some c => exact startNotices_unwatched c.1 { s with ring := c.2.transmit c.1 } v

theorem report_unwatched (n : Report) : Unwatched fun s => s.report n := by
  intro s v
  have hr : (s.withChannels v).ring = s.ring := rfl
  simp only [State.report, hr]
  split
  · exact kick_unwatched (s.appendReport n) v
  · rfl

/-! ## The Capture Unit -/

theorem modRecorder_unwatched (k : CaptureIx) (f : CaptureChannel → CaptureChannel) : Unwatched fun s => s.modRecorder k f :=
  fun _ _ => rfl

theorem halfTest_unwatched (k : CaptureIx) (a : Nat) : Unwatched fun s => s.halfTest k a := by
  intro s v
  have hr : (s.withChannels v).recorder k = s.recorder k := rfl
  simp only [State.halfTest, hr]
  split
  · exact report_unwatched _ (s.setRecorder k _) v
  · rfl

theorem endTest_unwatched (k : CaptureIx) (a : Nat) : Unwatched fun s => s.endTest k a := by
  intro s v
  have hr : (s.withChannels v).recorder k = s.recorder k := rfl
  simp only [State.endTest, hr]
  split
  · exact report_unwatched _ (s.setRecorder k _) v
  · rfl

/-- The record written and the address advanced, before the two tests (R151). -/
def State.recorded (s : State) (k : CaptureIx) (kind : RecordKind) (f : AcceptedFrame) : State :=
  ({ s with capture.memory := Memory.write s.capture.memory (s.recorder k).current ((s.recorder k).recordOf kind f) } :
    State).setRecorder k
    { s.recorder k with current := nextAddress (s.recorder k).current, written := (s.recorder k).written + 1 }

theorem State.writeRecord_eq (s : State) (k : CaptureIx) (kind : RecordKind) (f : AcceptedFrame) :
    s.writeRecord k kind f =
      ((s.recorded k kind f).halfTest k (s.recorder k).current).endTest k (s.recorder k).current := rfl

theorem writeRecord_unwatched (k : CaptureIx) (kind : RecordKind) (f : AcceptedFrame) :
    Unwatched fun s => s.writeRecord k kind f := by
  intro s v
  have hr : (s.withChannels v).recorder k = s.recorder k := rfl
  have hrec : (s.withChannels v).recorded k kind f = (s.recorded k kind f).withChannels v := rfl
  simp only [State.writeRecord_eq, hr, hrec]
  exact ((endTest_unwatched k _).comp (halfTest_unwatched k _)) (s.recorded k kind f) v

theorem sampleOn_unwatched (f : AcceptedFrame) (k : CaptureIx) : Unwatched fun s => s.sampleOn f k := by
  intro s v
  have hr : (s.withChannels v).recorder k = s.recorder k := rfl
  simp only [State.sampleOn, hr]
  split
  · split
    · exact ((modRecorder_unwatched k _).comp (writeRecord_unwatched k .sample f)) s v
    · rfl
  · rfl

theorem captureTakes_unwatched (f : AcceptedFrame) : Unwatched fun s => s.captureTakes f :=
  Unwatched.foldl (fun k => sampleOn_unwatched f k) allRecorders

theorem captureCaughtUp_unwatched (b : Bus) : Unwatched fun s => s.captureCaughtUp b := fun s v =>
  Unwatched.foldl captureTakes_unwatched _
    { s with handed.capture := s.handed.capture.filter fun f => decide (f.bus ≠ b) } v

theorem truncatePass_unwatched (k : CaptureIx) : Unwatched fun s => s.truncatePass k := by
  intro s v
  have hr : (s.withChannels v).recorder k = s.recorder k := rfl
  simp only [State.truncatePass, hr]
  cases (s.recorder k).event with
  | none => rfl
  | some i =>
    dsimp only
    split
    · rfl
    · exact modEvent_unwatched i _ s v

theorem attachRecorder_unwatched (k : CaptureIx) (i : EventIx) (f : AcceptedFrame) :
    Unwatched fun s => s.attachRecorder k i f := by
  unfold State.attachRecorder
  exact (modRecorder_unwatched k _).comp ((writeRecord_unwatched k .start f).comp
    ((modEvent_unwatched i _).comp (modRecorder_unwatched k _)))

theorem captureOpening_unwatched (i : EventIx) (choice : Option CaptureIx) (f : AcceptedFrame) :
    Unwatched fun s => s.captureOpening i choice f := by
  intro s v
  cases choice with
  | none => rfl
  | some k =>
    have hr : (s.withChannels v).recorder k = s.recorder k := rfl
    have hc : (s.withChannels v).captureCaughtUp f.bus = (s.captureCaughtUp f.bus).withChannels v :=
      captureCaughtUp_unwatched f.bus s v
    simp only [State.captureOpening, hr, hc]
    split
    · exact modEvent_unwatched i _ s v
    · generalize s.captureCaughtUp f.bus = w
      have hr : (w.withChannels v).recorder k = w.recorder k := rfl
      simp only [hr]
      split
      · exact ((attachRecorder_unwatched k i f).comp (truncatePass_unwatched k)) w v
      · exact attachRecorder_unwatched k i f w v

/-- An operation that does not read the channels, after a channel has been set. -/
theorem Unwatched.setChannel {op : State → State} (h : Unwatched op) (hc : ∀ s, (op s).channels = s.channels) (s : State)
    (b : Bus) (c : BusChannel) : op (s.setChannel b c) = (op s).setChannel b c := by
  have hs : s.setChannel b c = s.withChannels (s.channels.set b c) := rfl
  rw [hs, h, State.setChannel, hc]
  rfl

end Sys2Proof.Machine
end

section
/-! SUPPORT. The frame that confirms a sag (R8, R10, R29 to R31, R54, R72, R148 to R150). -/

namespace Sys2Proof.Machine

/-! ## The entry -/

theorem State.freeEntry_eq {s : State} {i : EventIx} (h : s.entry i = none) (hlt : ∀ j, j < i → (s.entry j).isSome) :
    s.freeEntry = some i := by
  refine List.find?_eq_some_iff_getElem.2 ⟨by simp [h], i.val, by simp [allEvents], by simp [allEvents], fun j hj => ?_⟩
  obtain ⟨e, he⟩ := Option.isSome_iff_exists.1 (hlt ⟨j, hj.trans i.isLt⟩ hj)
  simp [allEvents, he]

theorem State.freeEntry_none {s : State} (h : ∀ i, (s.entry i).isSome) : s.freeEntry = none := by
  refine List.find?_eq_none.2 fun i _ => ?_
  obtain ⟨e, he⟩ := Option.isSome_iff_exists.1 (h i)
  simp [he]

/-- The size of a FIRST request, the horizon being the last breakpoint's duration (R54, R72). -/
theorem OpenedUnder.firstAmount_eq {c : OpenedUnder} {last : Breakpoint}
    (h : c.envelope.breakpoints.getLast? = some last) (derate minimum : Nat) (f : SenseFrame) :
    c.firstAmount derate minimum f =
      min (max (min (injectedPower (c.reference derate c.method.startStep 0 f.volts) c.nominal f.amps / 1000 *
        last.duration / 1000) 4294967295) minimum) c.grantCap := by
  simp only [OpenedUnder.firstAmount, EnvelopeRow.horizon, lastDuration, h]
  rfl

/-- The entry filled, its order taken and its rate absent, before a request and before the capture channel attaches. -/
def State.begun (s : State) (i : EventIx) (e : Event) : State :=
  { s.setEntry i (some e) with
    events.openCounter := s.events.openCounter + 1
    injection.rates := s.injection.rates.set i none }

/-- The same with the event's FIRST request in the Grant Queue. -/
def State.asked (s : State) (i : EventIx) (e : Event) : State :=
  { s.begun i e with
    pool.grantQueue := insertByKey (·.cls)
      ⟨i, .first, e.firstAmount, e.copy.cls, s.now, s.now + e.copy.envelope.waitLimit * 1000⟩ s.pool.grantQueue
    pool.passDue := true }

/-- What an opening makes of the map and of the Grant Queue, before the Capture Unit takes it. -/
def State.started (s : State) (i : EventIx) (e : Event) (f : SenseFrame) : State :=
  if (s.view e.copy.stack).faulted then s.begun i e.unprotected
  else s.asked i { e with firstAmount := e.copy.firstAmount (s.view e.copy.stack).derate s.minimumGrant f }

theorem State.openEvent_eq {s : State} {r : BusRow} {f : AcceptedFrame} {i : EventIx} {envelope : EnvelopeRow}
    (h : s.freeEntry = some i) (he : s.envelopeOf f.bus r = envelope) (start : U32) (lowest : Nat) :
    s.openEvent r start lowest f = some (i, (s.started i
      (Event.opened f.bus s.events.openCounter start (r.openedUnder envelope) lowest f.frame.timestamp)
        f.frame).captureOpening i r.capture f) := by
  simp only [State.openEvent, h, he, Option.some.injEq, Prod.mk.injEq, true_and]
  refine congrArg (fun t => State.captureOpening t i r.capture f) ?_
  generalize Event.opened f.bus s.events.openCounter start (r.openedUnder envelope) lowest f.frame.timestamp = e
  unfold State.startEvent State.started
  dsimp only
  split
  · next hv => exact (if_pos (c := (s.view e.copy.stack).faulted = true) hv).symm
  · next hv => exact (if_neg (c := (s.view e.copy.stack).faulted = true) hv).symm

theorem State.started_setChannel (s : State) (b : Bus) (c : BusChannel) (i : EventIx) (e : Event) (f : SenseFrame) :
    (s.setChannel b c).started i e f = (s.started i e f).setChannel b c := by
  have hv : (s.setChannel b c).view e.copy.stack = s.view e.copy.stack := rfl
  unfold State.started
  rw [hv]
  split <;> rfl

theorem State.captureOpening_setChannel (s : State) (b : Bus) (c : BusChannel) (i : EventIx) (choice : Option CaptureIx)
    (f : AcceptedFrame) : (s.setChannel b c).captureOpening i choice f = (s.captureOpening i choice f).setChannel b c :=
  (captureOpening_unwatched i choice f).setChannel (fun s => (s.captureOpening_frame i choice f).2.2.1) s b c

/-! ## The confirmation -/

section Confirmed
variable {s : State} {b : Bus} {r : BusRow} {c : BusChannel} {f : AcceptedFrame} {start : U32} {lowest : Nat}

/-- A confirmation with an entry free: the opening, and the channel set. -/
theorem State.confirmSag_free {i : EventIx} {envelope : EnvelopeRow} (hs : c.suspectStart = some start)
    (hl : c.suspectLowest = some lowest) (hfree : s.freeEntry = some i) (hb : f.bus = b)
    (he : (s.bank c.bankInUse).envelopes[r.envelope] = some envelope) :
    (s.setChannel b c).confirmSag b r f = ((s.started i
      (Event.opened b s.events.openCounter start (r.openedUnder envelope) lowest f.frame.timestamp)
        f.frame).captureOpening i r.capture f).setChannel b
      { c.confirmed (some i) with counters.eventsOpened := c.counters.eventsOpened + 1 } := by
  subst hb
  have henv : (s.setChannel f.bus c).envelopeOf f.bus r = envelope := by
    simp only [State.envelopeOf, State.channel_setChannel, if_true]
    change (s.bank c.bankInUse).envelopes[r.envelope].getD _ = _
    rw [he]
    rfl
  have hopen := State.openEvent_eq (s := s.setChannel f.bus c) (r := r) (f := f) (i := i) hfree henv start lowest
  rw [State.started_setChannel, State.captureOpening_setChannel] at hopen
  unfold State.confirmSag
  dsimp only
  rw [State.channel_setChannel, if_pos rfl, hs, hl, Option.getD_some, Option.getD_some, hopen]
  simp [State.countBus, State.modChannel, BusChannel.confirmed]

/-- A confirmation with the map full. -/
theorem State.confirmSag_full (hfree : s.freeEntry = none) :
    (s.setChannel b c).confirmSag b r f = s.setChannel b { c.confirmed none with alarms.mapFull := true } := by
  have hopen : ∀ start lowest, (s.setChannel b c).openEvent r start lowest f = none := fun start lowest => by
    have : (s.setChannel b c).freeEntry = none := hfree
    simp [State.openEvent, this]
  unfold State.confirmSag
  dsimp only
  rw [hopen]
  simp [State.addAlarm, State.modChannel, BusChannel.confirmed, BusAlarms.add]

end Confirmed

/-- The channel at a confirmation, with the swell that a frame taken in NORMAL may count too (R8). -/
def BusChannel.swelled (r : BusRow) (f : AcceptedFrame) (c : BusChannel) : BusChannel :=
  if c.detection = .normal ∧ r.swellThreshold * r.swellThreshold < f.frame.volts.maxSquare then
    { c with alarms.swell := true, counters.swells := c.counters.swells + 1 }
  else c

/-- The frame that reaches the confirm count: the suspect sag it completes is confirmed. -/
theorem State.evaluate_confirms {u : State} {b : Bus} {r : BusRow} {f : AcceptedFrame} {start : U32} {lowest : Nat}
    (hcase : (u.channel b).detection = .suspect ∧ (u.channel b).suspectStart = some start ∧
        (∃ before, (u.channel b).suspectLowest = some before ∧ lowest = min before f.frame.lowest) ∧
        (u.channel b).runCount < 64 ∧ (u.channel b).runCount + 1 = r.confirmCount ∨
      (u.channel b).detection = .normal ∧ r.confirmCount = 1 ∧ start = f.frame.timestamp ∧ lowest = f.frame.lowest)
    (hover : f.frame.amps.anyAbove r.faultLimit = false) (hlow : f.frame.below r.sagThreshold = true) :
    ∃ c : BusChannel, u.evaluate b r f = (u.setChannel b c).confirmSag b r f ∧ c.suspectStart = some start ∧
      c.suspectLowest = some lowest ∧ c.bankInUse = (u.channel b).bankInUse ∧
      c.counters = ((u.channel b).swelled r f).counters ∧
      ∀ o, c.confirmed o = ((u.channel b).swelled r f).confirmed o := by
  rcases hcase with ⟨hd, hs, ⟨before, hl, rfl⟩, hrun, hcount⟩ | ⟨hd, hcount, rfl, rfl⟩
  · have hswell : (u.channel b).swelled r f = u.channel b := if_neg (by simp [hd])
    refine ⟨{ u.channel b with
      runCount := (u.channel b).nextRun
      suspectLowest := some (min before f.frame.lowest) }, ?_, hs, rfl, rfl, by rw [hswell], fun o => by rw [hswell]; rfl⟩
    have hnext := BusChannel.nextRun_eq hrun
    rw [State.evaluate_suspect hd hover]
    simp [State.evaluateSuspect, hlow, State.modChannel, hl, hnext, hcount]
  · have hswell : (u.channel b).swelled r f =
        if r.swellThreshold * r.swellThreshold < f.frame.volts.maxSquare then
          { u.channel b with alarms.swell := true, counters.swells := (u.channel b).counters.swells + 1 }
        else u.channel b := by
      simp [BusChannel.swelled, hd]
    refine ⟨{ (u.channel b).swelled r f with
      detection := .suspect
      runCount := 1
      suspectStart := some f.frame.timestamp
      suspectLowest := some f.frame.lowest }, ?_, rfl, rfl, ?_, rfl, fun o => rfl⟩
    · rw [State.evaluate_normal hd hover]
      simp [State.evaluateNormal, State.evaluateSwell_eq, hlow, State.modChannel, hcount, hswell]
    · dsimp only
      rw [hswell]
      split <;> rfl

end Sys2Proof.Machine
end

section
/-! SUPPORT. The statement on a confirmed sag. -/

namespace Sys2Proof.Machine

/-- Settles O23: the suspect sag is confirmed, the entry opened, and the capture channel attached. -/
theorem sagConfirmed : Obligations.SagConfirmed := by
  intro s x rest b r start lowest envelope point last points ha hcase hover hlow henv hpoints hlast v u f copy trial power
    minimum amount c sagging event entered captured taken opened
  have hdet : (u.channel b).detection = (s.channel b).detection := s.accepting_detection x rest b r
  have hchannel : u.channel b = (s.channel b).accept s.now r x := s.accepting_channel x rest b r
  have hc : (u.channel b).swelled r f = c := by
    simp only [BusChannel.swelled, hdet, c]
  have hcapture : ∀ (w : State) (i : EventIx), w.capture = s.capture → captured w i = w.captureOpening i r.capture f := by
    intro w i hw
    have hrec : ∀ k, w.recorder k = s.recorder k := fun k => by simp [State.recorder, hw]
    simp only [captured, State.captureOpening]
    cases r.capture with
    | none => rfl
    | some k =>
      simp only [hrec]
      split
      · rfl
      · show _ = State.attachRecorder _ k i f
        rw [show f.bus = b from rfl]
        generalize w.captureCaughtUp b = ready
        unfold State.truncatePass
        refine (rfl : _ = State.attachRecorder _ k i f).trans (congrArg (fun t => State.attachRecorder t k i f) ?_)
        cases (ready.recorder k).state with
        | running => cases (ready.recorder k).event <;> cases (ready.recorder k).status <;> rfl
        | _ => rfl
  obtain ⟨c1, heval, hs, hl, hbank, hcount, hconf⟩ := State.evaluate_confirms (u := u) (b := b) (r := r) (f := f)
    (start := start) (lowest := lowest) (by rw [hchannel]; exact hcase) (State.frameOf_notAbove hover)
    ((State.frameOf_below s b r x _).trans (decide_eq_true hlow))
  rw [hc] at hcount hconf
  have hamount : copy.firstAmount v.derate s.minimumGrant f.frame = amount := by
    have hminimum : s.minimumGrant = minimum := by
      simp only [State.minimumGrant, minimum]
      cases s.pool.inEffect <;> rfl
    rw [OpenedUnder.firstAmount_eq (c := copy) hlast, hminimum]
    rfl
  have hopened : ∀ (w : State) (i : EventIx) (state : EventState) (outcome : Option EventOutcome) (step first : Nat),
      state ≠ .reporting → w.capture = s.capture → w.events.openCounter = s.events.openCounter + 1 →
      w.entry i = some (event state outcome step first) → opened i (taken w i) state outcome step first := by
    intro w i state outcome step first hne hw ho he
    obtain ⟨m, k, hentry⟩ := (w.captureOpening_records i r.capture f).entry i _ he hne
    have hch : (taken w i).channel b = { sagging (some i) with counters.eventsOpened := c.counters.eventsOpened + 1 } := by
      refine (State.channel_setChannel (captured w i) b b _).trans (if_pos rfl)
    have hcounters : c.counters.eventsOpened = (s.channel b).counters.eventsOpened := by
      rw [← hc, BusChannel.swelled, hchannel]
      split <;> rfl
    refine ⟨by rw [hch], by rw [hch], by rw [hch]; rfl, by rw [hch], by rw [hch], by rw [hch], ?_, ?_, m, k, ?_⟩
    · rw [hch, ← hcounters]
    · change (captured w i).events.openCounter = _
      rw [hcapture w i hw, (w.captureOpening_frame i r.capture f).2.2.2.1, ho]
    · change (captured w i).entry i = _
      rw [hcapture w i hw, hentry]
  have hqueue : ∀ (w : State) (i : EventIx), w.capture = s.capture → (taken w i).pool.grantQueue = w.pool.grantQueue := by
    intro w i hw
    change (captured w i).pool.grantQueue = _
    rw [hcapture w i hw]
    simp
  have hpass : ∀ (w : State) (i : EventIx), w.capture = s.capture → (taken w i).pool.passDue = w.pool.passDue := by
    intro w i hw
    change (captured w i).pool.passDue = _
    rw [hcapture w i hw]
    simp
  have hfreed : ∀ (i : EventIx) (w : State), s.entry i = none → (∀ j, j < i → (s.entry j).isSome) →
      u.started i (Event.opened b s.events.openCounter start copy lowest x.frame.timestamp) f.frame = w →
      w.capture = s.capture → exec .senseFrame s = .next (taken w i) := by
    intro i w hi hlt hw hwc
    refine ha.evaluates (heval.trans ?_)
    have hfree : u.freeEntry = some i :=
      State.freeEntry_eq ((s.accepting_entry x rest b r i).trans hi) fun j hj => by
        rw [State.accepting_entry]; exact hlt j hj
    refine (State.confirmSag_free (b := b) (f := f) (envelope := envelope) hs hl hfree rfl
      (by rw [hbank, hchannel]; exact henv)).trans ?_
    rw [hconf, hcount, hcapture w i hwc, ← hw]
    rfl
  refine ⟨fun i hi hlt => ⟨fun ht hr => ?_, fun hv => ?_⟩, fun hfull => ?_⟩
  · have hstarted : u.started i (Event.opened b s.events.openCounter start copy lowest x.frame.timestamp) f.frame =
        { entered i (event .requesting none r.method.startStep amount) with
          pool.grantQueue := insertByKey (·.cls)
            ⟨i, .first, amount, r.cls, s.now, s.now + point.duration * 1000⟩ s.pool.grantQueue
          pool.passDue := true } := by
      have hwait : copy.envelope.waitLimit = point.duration := by simp only [EnvelopeRow.waitLimit, copy, hpoints]
      rw [← hwait, ← hamount]
      have hsound : ¬ v.faulted = true := by simp [StackView.faulted, ht, hr]
      exact if_neg (c := v.faulted = true) hsound
    intro queue
    have hexec := hfreed i _ hi hlt hstarted rfl
    refine ⟨hexec, _, hexec, hopened _ i _ _ _ _ (by simp) rfl rfl ?_, ?_, ?_⟩
    · exact (State.entry_setEntry _ _ _ _).trans (if_pos rfl)
    · refine hqueue _ i ?_
      rfl
    · refine hpass _ i ?_
      rfl
  · have hstarted : u.started i (Event.opened b s.events.openCounter start copy lowest x.frame.timestamp) f.frame =
        entered i (event .bypassed (some .unprotected) 3 0) :=
      if_pos (c := (s.view r.stack).faulted = true) (by simpa [StackView.faulted] using hv)
    have hexec := hfreed i _ hi hlt hstarted rfl
    refine ⟨hexec, _, hexec, hopened _ i _ _ _ _ (by simp) rfl rfl ?_, ?_⟩
    · exact (State.entry_setEntry _ _ _ _).trans (if_pos rfl)
    · refine (hqueue _ i ?_).trans ?_
      · rfl
      · rfl
  · refine ha.evaluates (heval.trans ?_)
    have hfree : u.freeEntry = none := State.freeEntry_none fun i => by rw [State.accepting_entry]; exact hfull i
    rw [State.confirmSag_full hfree, hconf]
    rfl

end Sys2Proof.Machine
end

section
/-! SUPPORT. The end of an event, step by step (R42 to R46), and the frame that completes a recovery (R13). -/

namespace Sys2Proof.Machine

/-! ## Tables -/

theorem eachMember_eq_map {α : Type} {n : Nat} (f : α → α) (v : Vector α n) : eachMember f v = v.map f := by
  ext i hi
  simp [eachMember]

@[simp] theorem StackRecord.forget_forget (i : EventIx) (x : StackRecord) : (x.forget i).forget i = x.forget i := by
  by_cases h : x.drawingEvent = some i <;> simp [StackRecord.forget, h]

/-- A capture channel of a freed event is FREED; one that is so already stays so. -/
theorem CaptureChannel.eventFreed_eq (i : EventIx) (c : CaptureChannel) :
    c.eventFreed i = if c.event = some i then { c with status := .freed } else c := by
  unfold CaptureChannel.eventFreed
  by_cases h : c.event = some i
  · by_cases hs : c.status = .freed
    · rw [if_neg (by simp [hs]), if_pos h, ← hs]
    · rw [if_pos ⟨h, hs⟩, if_pos h]
  · rw [if_neg fun k => h k.1, if_neg h]

/-! ## Entering REPORTING -/

/-- The entry put in REPORTING and the drawing event gone, before the report (R44, R111). -/
def State.reportable (s : State) (i : EventIx) (e : Event) : State :=
  { s.setEntry i (some { e with state := .reporting }) with
    injection.records := s.injection.records.map (StackRecord.forget i) }

theorem State.enterReporting_eq {s : State} {i : EventIx} {e : Event} (h : s.entry i = some e) :
    s.enterReporting i = if s.ring.reports.length < 32 then ((s.reportable i e).queueClosed i).kick else s.reportable i e := by
  have hr : (s.modEvent i fun e => { e with state := .reporting }).forgetDrawing i = s.reportable i e := by
    rw [State.modEvent_eq _ h, State.forgetDrawing, eachMember_eq_map]
    rfl
  unfold State.enterReporting
  rw [hr]
  rfl

theorem State.queueClosed_reportable (s : State) (i : EventIx) (e : Event) :
    (s.reportable i e).queueClosed i = { s.setEntry i none with
      ring.reports := s.ring.reports ++ [⟨s.management.reportCounter, .eventClosed i { e with state := .reporting }⟩]
      management.reportCounter := s.management.reportCounter + 1
      pool.releases := s.pool.releases.map (Option.map fun y =>
        if y.origin = some i then { y with origin := none } else y)
      capture.channels := s.capture.channels.map fun c =>
        if c.event = some i then { c with status := .freed } else c
      injection.records := s.injection.records.map (StackRecord.forget i)
      injection.rates := s.injection.rates.set i none } := by
  have he : (s.reportable i e).entry i = some { e with state := .reporting } :=
    (State.entry_setEntry s i i _).trans (if_pos rfl)
  have hc : CaptureChannel.eventFreed i = fun c => if c.event = some i then { c with status := .freed } else c :=
    funext (CaptureChannel.eventFreed_eq i)
  simp only [State.queueClosed, he, State.freeEvent, State.forgetDrawing, eachMember_eq_map, hc]
  simp [State.setEntry, State.setRate, State.appendReport, State.reportable]
  exact fun _ _ => rfl

/-! ## A command queued -/

/-- With a DRIVE frame waiting, the choice of a frame touches the ring and the stack views alone. -/
theorem State.kick_drive {s : State} (h : s.ring.drive ≠ []) : ∃ r v, s.kick = { s with ring := r, views := v } := by
  unfold State.kick
  cases s.ring.port with
  | some p => exact ⟨s.ring, s.views, rfl⟩
  | none =>
    obtain ⟨f, rest, hf⟩ := List.exists_cons_of_ne_nil h
    simp only [Ring.choose, hf, State.startNotices]
    cases f.command with
    | none => exact ⟨_, s.views, rfl⟩
    | some c => exact ⟨_, _, rfl⟩

theorem placeInDrive_ne_nil (k : Station) (f : DriveFrame → DriveFrame) (fresh : DriveFrame) (l : List DriveFrame) :
    placeInDrive k f fresh l ≠ [] := by
  cases l with
  | nil => simp [placeInDrive]
  | cons x l =>
    unfold placeInDrive
    split <;> simp

theorem State.placeCommand_only (s : State) (k : Station) (c : Command) :
    ∃ r v, s.placeCommand k c = { s with ring := r, views := v } := by
  unfold State.placeCommand
  obtain ⟨r, v, h⟩ := State.kick_drive (s := { s with
    ring.drive := placeInDrive k (fun x => { x with command := some c }) ⟨k, none, some c⟩ s.ring.drive })
    (placeInDrive_ne_nil _ _ _ _)
  rw [h]
  exact ⟨r, v, rfl⟩

/-- A command queued touches the ring, the stack views and the releases alone. -/
theorem State.queueCommand_only (s : State) (k : Station) (c : CommandKind) :
    ∃ r v x, s.queueCommand k c = { s with ring := r, views := v, pool.releases := x } := by
  have hawait : (s.setView k ((s.view k).queued c)).awaitOn k (s.view k).takenSequence = { s with
      views := s.views.set k ((s.view k).queued c)
      pool.releases := eachMember (Option.map (Release.awaitOn k (s.view k).takenSequence)) s.pool.releases } := by
    simp only [State.awaitOn, State.setView]
  simp only [State.queueCommand, hawait]
  generalize eachMember (Option.map (Release.awaitOn k (s.view k).takenSequence)) s.pool.releases = x
  split
  · obtain ⟨r, v, h⟩ := State.placeCommand_only { s with
      views := s.views.set k ((s.view k).queued c), pool.releases := x } k ⟨(s.view k).takenSequence, c⟩
    rw [h]
    exact ⟨r, v, x, rfl⟩
  · exact ⟨s.ring, _, x, rfl⟩

end Sys2Proof.Machine
end

section
/-! SUPPORT. What the end of an event and a completed recovery make of a state. -/

namespace Sys2Proof.Machine

/-! ## The end of an event -/

theorem firstOutcome_eq (present : Option EventOutcome) (cause : EventOutcome) :
    firstOutcome present cause = some (present.getD cause) := by
  cases present <;> rfl

/-- A command queued leaves the Capture Unit alone. -/
theorem State.queueCommand_capture (s : State) (k : Station) (c : CommandKind) : (s.queueCommand k c).capture = s.capture := by
  obtain ⟨r, v, x, h⟩ := s.queueCommand_only k c
  rw [h]

theorem State.endStack_capture (s : State) (i : EventIx) (cause : EndCause) : (s.endStack i cause).capture = s.capture := by
  unfold State.endStack
  split
  · rfl
  · split
    · split
      · split
        · exact s.queueCommand_capture _ _
        · rfl
      all_goals exact State.queueCommand_capture _ _ _
    · rfl

theorem State.settleClosing_reports {s : State} {i : EventIx} {e : Event} (h : s.entry i = some e)
    (hs : e.state = .closing) (hw : e.releaseWait = none) : s.settleClosing i = s.enterReporting i := by
  simp [State.settleClosing, h, hs, hw]

theorem State.settleClosing_waits {s : State} {i : EventIx} {e : Event} (h : s.entry i = some e)
    (hw : e.releaseWait.isSome) : s.settleClosing i = s := by
  obtain ⟨w, hw⟩ := Option.isSome_iff_exists.1 hw
  simp [State.settleClosing, h, hw]

/-- Step 5 of R43, the close order being the counter's. -/
theorem State.closeEvent_eq (s : State) (i : EventIx) : s.closeEvent i =
    { s.modEvent i (fun y =>
        { y with ladderStep := 3, state := .closing, closeOrder := some s.events.closeCounter }) with
      events.closeCounter := s.events.closeCounter + 1
      capture.channels := s.capture.channels.map (CaptureChannel.eventEnded i) } := by
  have hc : ∀ f, (s.modEvent i f).capture = s.capture := fun f => by simp
  simp only [State.closeEvent, State.captureEnded, eachMember_eq_map, hc]

/-- Steps 1 to 3 of R43 on a held entry. -/
theorem State.endEvent_begins {s : State} {i : EventIx} {e : Event} (h : s.entry i = some e) (cause : EndCause) :
    ((s.dropRequest i).withdrawClaims i).modEvent i (Event.ended cause) = { s.setEntry i (some (e.ended cause)) with
      pool.grantQueue := s.pool.grantQueue.filter fun q => decide (q.event ≠ i)
      pool.passDue := s.pool.passDue || decide (s.pool.grantQueue.head?.map GrantRequest.event = some i)
      pool.releases := s.pool.releases.map (Option.map (Release.withdrawClaims i)) } := by
  have he : ((s.dropRequest i).withdrawClaims i).entry i = some e := h
  rw [State.modEvent_eq _ he]
  simp only [State.withdrawClaims, State.dropRequest, eachMember_eq_map, State.setEntry]
  cases s.pool.grantQueue with
  | nil => simp
  | cons q l => simp

/-- The end of an event, after step 4. -/
theorem State.endEvent_closes {s u t : State} {i : EventIx} {cause : EndCause}
    (hu : ((s.dropRequest i).withdrawClaims i).modEvent i (Event.ended cause) = u) (ht : u.endStack i cause = t) :
    s.endEvent i cause = ((t.closeEvent i).dispose i).settleClosing i := by
  rw [State.endEvent, hu, ht]

/-! ## The frame that completes a recovery -/

section Recovered
variable {s : State} {x : HandedSense} {rest : List HandedSense} {b : Bus} {r : BusRow}

/-- A lowered strike has no part in what an end makes of an entry. -/
theorem EndedAs.of_lowerStrike {cause : EndCause} {e e' : Event} {m : Nat} (h : EndedAs cause (e.lowerStrike m) e') :
    EndedAs cause e e' := by
  have ho : (e.lowerStrike m).outcome = e.outcome := by unfold Event.lowerStrike; split <;> rfl
  have hc : cause.outcome (e.lowerStrike m) = cause.outcome e := by unfold Event.lowerStrike; split <;> rfl
  refine ⟨h.state, ?_, h.silence, h.downstream, h.step, h.withdrawn, h.order⟩
  rw [h.outcome, ho, hc]

/-- A sag that ended is one that was under way where the strike of its event had not yet been lowered. -/
theorem SagEnded.of_entries {cause : EndCause} {u t : State} (h : SagEnded cause b u t)
    (ho : (u.channel b).openEvent = (s.channel b).openEvent) (hu : (u.channel b).untracked = (s.channel b).untracked)
    (hk : (u.channel b).counters.untrackedSags = (s.channel b).counters.untrackedSags)
    (hcc : u.events.closeCounter = s.events.closeCounter)
    (he : ∀ i e, (s.channel b).openEvent = some i → s.entry i = some e →
      ∃ e1, u.entry i = some e1 ∧ ∀ e', EndedAs cause e1 e' → EndedAs cause e e') : SagEnded cause b s t where
  openEvent := h.openEvent
  untracked := h.untracked
  counted := by rw [h.counted, hu, hk]
  ended := fun i e hi hie e' he' => by
    obtain ⟨e1, h1, h2⟩ := he i e hi hie
    exact h2 e' (h.ended i e1 (ho.trans hi) h1 e' he')
  order := fun i e hi hie => by
    obtain ⟨e1, h1, -⟩ := he i e hi hie
    rw [h.order i e1 (ho.trans hi) h1, hcc]

theorem State.completeRecovery_channel (s : State) (b : Bus) : (s.completeRecovery b).channel b =
    { ((s.endSag b .recovered).channel b).cleared with bankInUse := s.banks.active } := by
  rw [State.completeRecovery, State.enterNormal_channel, if_pos rfl]
  simp

theorem State.enterNormal_evolves (s : State) (b : Bus) (i : EventIx) : Evolves (s.entry i) ((s.enterNormal b).entry i) := by
  rw [State.enterNormal_eq]
  exact (State.tidyBus_sheds (s.setChannel b { (s.channel b).cleared with bankInUse := s.banks.active }) b).firm.entry i

theorem State.completeRecovery_ended (s : State) (b : Bus) : SagEnded .recovered b s (s.completeRecovery b) := by
  have hch := s.completeRecovery_channel b
  refine State.endSag_sagEnded (u := s) .recovered (fun _ => rfl) rfl rfl rfl rfl (fun i => ?_) ?_ ?_ ?_ ?_
  · exact State.enterNormal_evolves _ b i
  · rw [hch]; rfl
  · rw [hch]; rfl
  · rw [hch]; rfl
  · simp [State.completeRecovery]

/-- The last frame of a recovery, in RECOVERING. -/
theorem State.evaluateRecovering_completes {u : State} {f : AcceptedFrame} (hhigh : f.frame.below r.recoveryThreshold = false)
    (hrun : (u.channel b).runCount < 64) (hcount : (u.channel b).runCount + 1 = r.recoverCount) :
    u.evaluateRecovering b r f =
      (u.setChannel b { u.channel b with runCount := (u.channel b).runCount + 1 }).completeRecovery b := by
  have hnext := BusChannel.nextRun_eq hrun
  simp [State.evaluateRecovering, hhigh, State.modChannel, hnext, hcount]

/-- The only frame of a recovery, in SAG with a recover count of 1. -/
theorem State.evaluateSag_completes {u : State} {f : AcceptedFrame} (hhigh : f.frame.below r.recoveryThreshold = false)
    (hcount : r.recoverCount = 1) : u.evaluateSag b r f = ((u.lowerStrike b f).setChannel b
      { u.channel b with detection := .recovering, runCount := 1 }).completeRecovery b := by
  simp [State.evaluateSag, hhigh, State.modChannel, hcount, State.channel_lowerStrike]

theorem State.lowerStrike_entry (s : State) (b : Bus) (f : AcceptedFrame) {i : EventIx} {e : Event}
    (h : s.entry i = some e) : ∃ e1, (s.lowerStrike b f).entry i = some e1 ∧
      ∀ cause e', EndedAs cause e1 e' → EndedAs cause e e' := by
  unfold State.lowerStrike
  split
  · next j _ =>
    rw [State.entry_modEvent, h]
    split
    · exact ⟨_, rfl, fun _ _ => EndedAs.of_lowerStrike⟩
    · exact ⟨e, rfl, fun _ _ h => h⟩
  · exact ⟨e, h, fun _ _ h => h⟩

/-- A sag completed from the state of the acceptance, the channel's detection and run count and the strike aside. -/
theorem State.accepting_recovers {w : State} {c : BusChannel} (hc : c.openEvent = (s.channel b).openEvent)
    (hu : c.untracked = (s.channel b).untracked) (hk : c.counters.untrackedSags = (s.channel b).counters.untrackedSags)
    (hcc : w.events.closeCounter = s.events.closeCounter) (hb : w.banks = s.banks)
    (he : ∀ i e, s.entry i = some e → ∃ e1, w.entry i = some e1 ∧ ∀ cause e', EndedAs cause e1 e' → EndedAs cause e e') :
    (((w.setChannel b c).completeRecovery b).channel b).detection = .normal ∧
      (((w.setChannel b c).completeRecovery b).channel b).runCount = 0 ∧
      (((w.setChannel b c).completeRecovery b).channel b).bankInUse = s.banks.active ∧
      SagEnded .recovered b s ((w.setChannel b c).completeRecovery b) := by
  have hch := (w.setChannel b c).completeRecovery_channel b
  refine ⟨by rw [hch]; rfl, by rw [hch]; rfl, by rw [hch, ← hb]; rfl, ?_⟩
  refine ((w.setChannel b c).completeRecovery_ended b).of_entries ?_ ?_ ?_ hcc fun i e _ hie => ?_
  · rw [State.channel_setChannel, if_pos rfl, hc]
  · rw [State.channel_setChannel, if_pos rfl, hu]
  · rw [State.channel_setChannel, if_pos rfl, hk]
  · obtain ⟨e1, h1, h2⟩ := he i e hie
    exact ⟨e1, h1, h2 .recovered⟩

end Recovered

end Sys2Proof.Machine
end

section
/-! SUPPORT. The statement on the frame that completes a recovery and on the end of an event. -/

namespace Sys2Proof.Machine

section Recovered
variable {s : State} {x : HandedSense} {rest : List HandedSense} {b : Bus} {r : BusRow}

/-! ## The last frame of a recovery -/

/-- A recovery that completes where an open event is the bus's sag ends that event and enters NORMAL. -/
theorem State.completeRecovery_some {u : State} {i : EventIx} (ho : (u.channel b).openEvent = some i)
    (hu : (u.channel b).untracked = false) : u.completeRecovery b = ((u.endEvent i .recovered).setChannel b
      { (u.endEvent i .recovered).channel b with openEvent := none }).enterNormal b := by
  have hself : u.endUntracked b = u := by
    rw [State.endUntracked_eq, BusChannel.tallied_eq hu, State.setChannel_channel]
  rw [State.completeRecovery, State.endSag_some _ ho, hself]
  rfl

theorem State.accepting_untrackedSags (s : State) (x : HandedSense) (rest : List HandedSense) (b : Bus) (r : BusRow) :
    ((s.accepting x rest b r).channel b).counters.untrackedSags = (s.channel b).counters.untrackedSags := by
  rw [State.accepting_channel]
  rfl

/-- The frame that completes a recovery, in SAG or in RECOVERING: the completion, from the acceptance but for the channel's
detection and run count and the lowered strike. -/
theorem State.Accepts.completes (ha : s.Accepts x rest b r) (hover : ¬ x.overCurrent r)
    (hhigh : r.recoveryThreshold * r.recoveryThreshold ≤ x.low)
    (hd : (s.channel b).detection = .sag ∧ r.recoverCount = 1 ∨
      (s.channel b).detection = .recovering ∧ (s.channel b).runCount < 64 ∧ (s.channel b).runCount + 1 = r.recoverCount) :
    ∃ (w : State) (d : Detection) (n : Nat), (w = s.accepting x rest b r ∨
        w = (s.accepting x rest b r).lowerStrike b (s.frameOf b r x)) ∧
      exec .senseFrame s = .next (((w.setChannel b { (s.accepting x rest b r).channel b with
        detection := d, runCount := n }).completeRecovery b).passOn (s.frameOf b r x) x.taken) := by
  have hbelow : (s.frameOf b r x).frame.below r.recoveryThreshold = false := by simpa using hhigh
  rcases hd with ⟨hd, hone⟩ | ⟨hd, hrun, hcount⟩
  · refine ⟨_, .recovering, 1, .inr rfl, ha.evaluates ?_⟩
    rw [State.evaluate_sag ((s.accepting_detection x rest b r).trans hd) (State.frameOf_notAbove hover),
      State.evaluateSag_completes hbelow hone]
  · refine ⟨_, ((s.accepting x rest b r).channel b).detection, ((s.accepting x rest b r).channel b).runCount + 1, .inl rfl,
      ha.evaluates ?_⟩
    rw [State.evaluate_recovering ((s.accepting_detection x rest b r).trans hd) (State.frameOf_notAbove hover),
      State.evaluateRecovering_completes hbelow (by rwa [State.accepting_runCount])
        (by rwa [State.accepting_runCount])]

/-! ## Step 4 of the end -/

/-- Step 4 for a stack that is not ordered INJECT. -/
theorem State.endStack_other {u : State} {i : EventIx} {e : Event} (h : u.entry i = some e) (ho : e.stackOrder ≠ .inject)
    (cause : EndCause) : u.endStack i cause = u := by
  simp [State.endStack, h, ho]

theorem State.endStack_recovered {u : State} {i : EventIx} {e : Event} (h : u.entry i = some e)
    (ho : e.stackOrder = .inject) :
    u.endStack i .recovered = if e.grant ≤ e.spent then u.queueCommand e.copy.stack .release else u := by
  simp [State.endStack, h, ho, Event.unspent, Nat.sub_eq_zero_iff_le]

theorem State.endStack_fault {u : State} {i : EventIx} {e : Event} (h : u.entry i = some e) (ho : e.stackOrder = .inject)
    {cause : EndCause} (hc : cause ≠ .recovered) : u.endStack i cause =
      (u.setEntry i (some { e with stackOrder := .bypass })).queueCommand e.copy.stack .bypass := by
  cases cause with
  | recovered => exact absurd rfl hc
  | downstreamFault | lostSight | withdrawn => simp [State.endStack, h, ho]

end Recovered

/-- Settles O25: the completed recovery, the end of an event in its six steps, and the entry to REPORTING. -/
theorem recoveryEndsTheSag : Obligations.RecoveryEndsTheSag := by
  refine ⟨fun s x rest b r i ha hover hhigh hd hrun hcount ho hu => ?_, fun s i e cause h => ?_,
    fun s i e h => ?_, fun s x rest b r ha hover hhigh hd => ?_⟩
  · intro u ended
    refine ha.evaluates ?_
    have hbelow : (s.frameOf b r x).frame.below r.recoveryThreshold = false := by simpa using hhigh
    rw [State.evaluate_recovering ((s.accepting_detection x rest b r).trans hd) (State.frameOf_notAbove hover),
      State.evaluateRecovering_completes hbelow (by rwa [State.accepting_runCount]) (by rwa [State.accepting_runCount]),
      State.completeRecovery_some (i := i)]
    · rw [State.channel_setChannel, if_pos rfl]
      exact (s.accepting_openEvent x rest b r).trans ho
    · rw [State.channel_setChannel, if_pos rfl]
      exact (s.accepting_untracked x rest b r).trans hu
  · intro outcome ended u told closed disposed
    have hended : e.ended cause = ended := by
      rw [Event.ended, firstOutcome_eq]
      cases cause <;> rfl
    have hbegins : ((s.dropRequest i).withdrawClaims i).modEvent i (Event.ended cause) = u := by
      rw [State.endEvent_begins h, hended]
      rfl
    have hentry : u.entry i = some ended := (State.entry_setEntry s i i (some ended)).trans (if_pos rfl)
    have htold : u.endStack i cause = told := by
      by_cases ho : e.stackOrder = .inject
      · cases cause with
        | recovered =>
          rw [State.endStack_recovered hentry ho]
          simp only [told, ho]
          rfl
        | downstreamFault | lostSight | withdrawn =>
          rw [State.endStack_fault hentry ho (by simp)]
          simp only [told, ho]
          rfl
      · rw [State.endStack_other hentry ho]
        cases hs : e.stackOrder with
        | inject => exact absurd hs ho
        | none | bypass => simp only [told, hs]
    have hclosed : told.closeEvent i = closed := by
      have hcounter : told.events.closeCounter = s.events.closeCounter := by rw [← htold]; simp [u]
      have hcapture : told.capture = s.capture := by
        rw [← htold, State.endStack_capture]
        rfl
      rw [State.closeEvent_eq, hcounter, hcapture]
      rfl
    have hends : s.endEvent i cause = disposed.settleClosing i := by
      rw [State.endEvent_closes hbegins htold, hclosed]
    exact ⟨fun y hy hstate hwait => hends.trans (State.settleClosing_reports hy hstate hwait),
      fun y hy hwait => hends.trans (State.settleClosing_waits hy hwait)⟩
  · have hreport := State.enterReporting_eq h
    exact ⟨fun hfull => hreport.trans (if_neg (Nat.not_lt.2 hfull)), fun hroom =>
      (hreport.trans (if_pos hroom)).trans (congrArg State.kick (s.queueClosed_reportable i e))⟩
  · obtain ⟨w, d, n, hw, hexec⟩ := ha.completes hover hhigh hd
    have hparts : w.events.closeCounter = s.events.closeCounter ∧ w.banks = s.banks ∧
        ∀ i e, s.entry i = some e → ∃ e1, w.entry i = some e1 ∧ ∀ cause e', EndedAs cause e1 e' → EndedAs cause e e' := by
      have hentry : ∀ i e, s.entry i = some e → (s.accepting x rest b r).entry i = some e := fun i e he =>
        (s.accepting_entry x rest b r i).trans he
      rcases hw with rfl | rfl
      · exact ⟨by simp [State.accepting], by simp [State.accepting], fun i e he => ⟨e, hentry i e he, fun _ _ h => h⟩⟩
      · refine ⟨by simp [State.accepting], by simp [State.accepting], fun i e he => ?_⟩
        exact State.lowerStrike_entry _ b _ (hentry i e he)
    obtain ⟨hcounter, hbanks, hentries⟩ := hparts
    have hrecovers := State.accepting_recovers (s := s) (w := w) (b := b)
      (c := { (s.accepting x rest b r).channel b with detection := d, runCount := n })
      (s.accepting_openEvent x rest b r) (s.accepting_untracked x rest b r) (s.accepting_untrackedSags x rest b r)
      hcounter hbanks hentries
    generalize (w.setChannel b _).completeRecovery b = t at hexec hrecovers
    obtain ⟨hnormal, hrun, hbank, hsag⟩ := hrecovers
    exact ⟨_, hexec, hnormal, hrun, hbank, hsag.passOn _ _⟩

end Sys2Proof.Machine
end

section
/-! SUPPORT. Commands queued for stacks (R133, R134) while the egress port is served (R166): what they make of the views, the DRIVE
queue and the port, and what they leave. -/

namespace Sys2Proof.Machine

/-! ## Lists -/

/-- A frame placed for one stack leaves the frames of the others. -/
theorem placeInDrive_filter {k j : Station} (hj : j ≠ k) {f : DriveFrame → DriveFrame} {fresh : DriveFrame}
    (hf : ∀ x, (f x).stack = x.stack) (hk : fresh.stack = k) (l : List DriveFrame) :
    (placeInDrive k f fresh l).filter (fun x => decide (x.stack = j)) = l.filter fun x => decide (x.stack = j) := by
  induction l with
  | nil => simp [placeInDrive, hk, hj.symm]
  | cons x l ih =>
    unfold placeInDrive
    split
    · next hx =>
      have hne : x.stack ≠ j := hx ▸ hj.symm
      simp [hf, hne]
    · simp only [List.filter_cons, ih]

theorem nodup_eraseDups {α : Type} [BEq α] [LawfulBEq α] (l : List α) : l.eraseDups.Nodup := by
  match l with
  | [] => simp
  | a :: l =>
    rw [List.eraseDups_cons, List.nodup_cons]
    refine ⟨by simp [List.mem_eraseDups], nodup_eraseDups _⟩
  termination_by l.length
  decreasing_by exact Nat.lt_succ_of_le (List.length_filter_le _ l)

/-! ## One command -/

/-- The state in which a command has been given its view, and the stack's release its sequence, before the command is placed. -/
def State.commanded (s : State) (k : Station) (c : CommandKind) : State :=
  (s.setView k ((s.view k).queued c)).awaitOn k (s.view k).takenSequence

theorem State.commanded_view (s : State) (k j : Station) (c : CommandKind) :
    (s.commanded k c).view j = if k = j then (s.view k).queued c else s.view j :=
  State.view_setView s k j _

theorem State.commanded_release (s : State) (k : Station) (c : CommandKind) (p : ReleaseIx) :
    (s.commanded k c).release p = (s.release p).map (Release.awaitOn k (s.view k).takenSequence) :=
  getElem_eachMember _ s.pool.releases p

theorem State.queueCommand_eq (s : State) (k : Station) (c : CommandKind) : s.queueCommand k c =
    if (s.view k).outstanding.length < Config.outstandingCapacity then
      (s.commanded k c).placeCommand k ⟨(s.view k).takenSequence, c⟩
    else s.commanded k c := rfl

/-- A command placed behind a frame under way. -/
theorem State.placeCommand_sending {s : State} (h : s.ring.port ≠ none) (k : Station) (c : Command) :
    s.placeCommand k c = { s with
      ring.drive := placeInDrive k (fun x => { x with command := some c }) ⟨k, none, some c⟩ s.ring.drive } := by
  obtain ⟨p, hp⟩ := Option.ne_none_iff_exists'.1 h
  simp only [State.placeCommand, State.kick, hp]

/-- A command placed for an idle port, where no frame waits: its frame starts. -/
theorem State.placeCommand_idle {s : State} (h : s.ring.port = none) (hd : s.ring.drive = []) (k : Station) (c : Command) :
    ∃ p n, p ≠ none ∧ s.placeCommand k c =
      ({ s with ring.port := p, ring.egressSequence := n } : State).modView k fun v => v.commandStarted c := by
  refine ⟨_, s.ring.egressSequence.set k.node (s.ring.egressSequence[k.node] + 1), Option.some_ne_none
    ⟨.drive ⟨k, none, some c⟩,
      originate k.node.val 4 s.ring.egressSequence[k.node] (DriveFrame.body ⟨k, none, some c⟩)⟩, ?_⟩
  obtain ⟨now, pending, channels, events, pool, injection, views, capture, ring, banks, management, handed⟩ := s
  obtain ⟨port, drive, responses, transit, reports, egress, counters⟩ := ring
  subst h hd
  rfl

/-! ## What a command leaves -/

/-- The events, the injection, the Capture Unit, the banks, the management and the pool kept, but for what releases await. -/
structure Spares (s t : State) : Prop where
  events : t.events = s.events
  injection : t.injection = s.injection
  capture : t.capture = s.capture
  banks : t.banks = s.banks
  management : t.management = s.management
  pool : t.pool = { s.pool with releases := t.pool.releases }
  releases : (∀ p, s.release p = none) → ∀ p, t.release p = none

theorem Spares.refl (s : State) : Spares s s := ⟨rfl, rfl, rfl, rfl, rfl, rfl, fun h => h⟩

theorem Spares.trans {s t u : State} (h : Spares s t) (k : Spares t u) : Spares s u where
  events := k.events.trans h.events
  injection := k.injection.trans h.injection
  capture := k.capture.trans h.capture
  banks := k.banks.trans h.banks
  management := k.management.trans h.management
  pool := by rw [k.pool, h.pool]
  releases := fun hs => k.releases (h.releases hs)

theorem State.commanded_spares (s : State) (k : Station) (c : CommandKind) : Spares s (s.commanded k c) := by

  have hreleases : (∀ p, s.release p = none) → ∀ p, (s.commanded k c).release p = none := fun h p => by
    rw [State.commanded_release, h, Option.map_none]
  have hcommanded : s.commanded k c = { s with
      views := s.views.set k ((s.view k).queued c), pool.releases := (s.commanded k c).pool.releases } := by
    simp only [State.commanded, State.awaitOn, State.setView]
  generalize s.commanded k c = t at hreleases hcommanded
  rw [hcommanded]
  refine ⟨rfl, rfl, rfl, rfl, rfl, rfl, fun h p => ?_⟩
  exact hreleases h p

theorem State.placeCommand_spares (s : State) (k : Station) (c : Command) : Spares s (s.placeCommand k c) := by
  obtain ⟨r, v, h⟩ := s.placeCommand_only k c
  rw [h]
  exact ⟨rfl, rfl, rfl, rfl, rfl, rfl, fun h => h⟩

theorem State.queueCommand_spares (s : State) (k : Station) (c : CommandKind) : Spares s (s.queueCommand k c) := by
  rw [State.queueCommand_eq]
  split
  · exact (s.commanded_spares k c).trans (State.placeCommand_spares _ _ _)
  · exact s.commanded_spares k c

/-! ## Several commands -/

/-- The view of a stack that was commanded: the command waits, or where the port was idle it may be on the link. -/
def Took (s t : State) (k : Station) (c : CommandKind) : Prop :=
  t.view k = (s.view k).queued c ∨
    s.ring.port = none ∧ t.view k = ((s.view k).queued c).commandStarted ⟨(s.view k).takenSequence, c⟩

/-- The stack's view and its DRIVE frames kept. -/
def Untouched (s t : State) (k : Station) : Prop :=
  t.view k = s.view k ∧ t.ring.drive.filter (fun f => decide (f.stack = k)) = s.ring.drive.filter fun f => decide (f.stack = k)

/-- Each stack commanded at most once, as `cmd` says, the port served all along (R133, R134, R166). -/
structure Commands (cmd : Station → CommandKind → Prop) (s t : State) : Prop where
  served : PortServed t
  ring : t.ring = { s.ring with
    drive := t.ring.drive, port := t.ring.port, egressSequence := t.ring.egressSequence }
  sending : s.ring.port ≠ none → t.ring.port = s.ring.port ∧ t.ring.egressSequence = s.ring.egressSequence
  untouched : ∀ k, (∀ c, ¬ cmd k c) → Untouched s t k
  took : ∀ k c, cmd k c → Took s t k c

theorem Commands.refl {s : State} (h : PortServed s) : Commands (fun _ _ => False) s s :=
  ⟨h, rfl, fun _ => ⟨rfl, rfl⟩, fun _ _ => ⟨rfl, rfl⟩, fun _ _ h => h.elim⟩

theorem Commands.congr {cmd cmd' : Station → CommandKind → Prop} {s t u : State} (h : Commands cmd s t)
    (hr : u.ring = t.ring) (hv : u.views = t.views) (hc : ∀ k c, cmd' k c ↔ cmd k c) : Commands cmd' s u where
  served := by unfold PortServed; rw [hr]; exact h.served
  ring := hr ▸ h.ring
  sending := hr ▸ h.sending
  untouched := fun k hk => by
    have := h.untouched k fun c x => hk c ((hc k c).2 x)
    rw [Untouched, hr, State.view_congr hv]
    exact this
  took := fun k c hk => by
    have := h.took k c ((hc k c).1 hk)
    rw [Took, State.view_congr hv]
    exact this

/-- Commands to stacks none of which was commanded before. -/
theorem Commands.trans {cmd cmd' : Station → CommandKind → Prop} {s t u : State} (h : Commands cmd s t)
    (k : Commands cmd' t u) (hd : ∀ j c c', cmd j c → ¬ cmd' j c') : Commands (fun j c => cmd j c ∨ cmd' j c) s u where
  served := k.served
  ring := by rw [k.ring, h.ring]
  sending := fun hs => by
    obtain ⟨hp, he⟩ := h.sending hs
    obtain ⟨hp', he'⟩ := k.sending (hp ▸ hs)
    exact ⟨hp'.trans hp, he'.trans he⟩
  untouched := fun j hj => by
    obtain ⟨hv, hf⟩ := h.untouched j fun c hc => hj c (.inl hc)
    obtain ⟨hv', hf'⟩ := k.untouched j fun c hc => hj c (.inr hc)
    exact ⟨hv'.trans hv, hf'.trans hf⟩
  took := fun j c hj => by
    have hport : t.ring.port = none → s.ring.port = none := fun ht => by
      by_contra hs
      exact hs ((h.sending hs).1.symm.trans ht)
    rcases hj with hj | hj
    · have hview := (k.untouched j fun c' => hd j c c' hj).1
      rw [Took, hview]
      exact h.took j c hj
    · have hview := (h.untouched j fun c' hc => hd j c' c hc hj).1
      rcases k.took j c hj with ht | ⟨hp, ht⟩
      · exact .inl (hview ▸ ht)
      · exact .inr ⟨hport hp, hview ▸ ht⟩

/-- One command. -/
theorem State.queueCommand_commands {s : State} (h : PortServed s) (k : Station) (c : CommandKind) :
    Commands (fun j d => j = k ∧ d = c) s (s.queueCommand k c) := by
  have hring : (s.commanded k c).ring = s.ring := rfl
  have hself : (s.commanded k c).view k = (s.view k).queued c := (s.commanded_view k k c).trans (if_pos rfl)
  have hview : ∀ j, (∀ d, ¬ (j = k ∧ d = c)) → j ≠ k ∧ (s.commanded k c).view j = s.view j := fun j hj =>
    have hne : j ≠ k := fun hk => hj c ⟨hk, rfl⟩
    ⟨hne, (s.commanded_view k j c).trans (if_neg hne.symm)⟩
  rw [State.queueCommand_eq]
  generalize s.commanded k c = t at hring hview hself
  split
  · by_cases hp : s.ring.port = none
    · obtain ⟨p, n, hsome, heq⟩ := State.placeCommand_idle (s := t) (hring ▸ hp) (hring ▸ (h hp).1) k
        ⟨(s.view k).takenSequence, c⟩
      rw [heq]
      refine ⟨fun hn => absurd hn hsome, by rw [← hring]; rfl, fun hs => absurd hp hs,
        fun j hj => ⟨?_, by rw [← hring]; rfl⟩, ?_⟩
      · rw [State.view_modView, if_neg (hview j hj).1.symm]
        exact (hview j hj).2
      · rintro j d ⟨rfl, rfl⟩
        refine .inr ⟨hp, ?_⟩
        rw [State.view_modView, if_pos rfl]
        exact congrArg (fun v : StackView => v.commandStarted ⟨(s.view j).takenSequence, d⟩) hself
    · rw [State.placeCommand_sending (hring.symm ▸ hp)]
      refine ⟨fun hn => absurd (hring ▸ hn) hp, by rw [← hring], fun _ => by rw [← hring]; exact ⟨rfl, rfl⟩,
        fun j hj => ⟨(hview j hj).2, ?_⟩, ?_⟩
      · rw [← hring]
        exact placeInDrive_filter (f := fun x => { x with command := some ⟨(s.view k).takenSequence, c⟩ })
          (fresh := ⟨k, none, some ⟨(s.view k).takenSequence, c⟩⟩) (hview j hj).1 (fun _ => rfl) rfl t.ring.drive
      · rintro j d ⟨rfl, rfl⟩
        exact .inl hself
  · refine ⟨?_, by rw [hring], fun _ => by rw [hring]; exact ⟨rfl, rfl⟩,
      fun j hj => ⟨(hview j hj).2, by rw [hring]⟩, ?_⟩
    · unfold PortServed
      rwa [hring]
    · rintro j d ⟨rfl, rfl⟩
      exact .inl hself

end Sys2Proof.Machine
end

section
/-! SUPPORT. RESTART (R27, R188, R189): the commands it queues, and what it empties and keeps. -/

namespace Sys2Proof.Machine

/-! ## The stacks of a restart -/

theorem foldl_queueBypass_commands {l : List Station} (hl : l.Nodup) {s : State} (h : PortServed s) :
    Commands (fun k c => k ∈ l ∧ c = .bypass) s (l.foldl (fun s k => s.queueCommand k .bypass) s) := by
  induction l generalizing s with
  | nil => exact (Commands.refl h).congr rfl rfl (by simp)
  | cons a l ih =>
    obtain ⟨ha, hl⟩ := List.nodup_cons.1 hl
    have hone := State.queueCommand_commands h a .bypass
    refine (hone.trans (ih hl hone.served) ?_).congr rfl rfl fun k c => ?_
    · rintro j c c' ⟨rfl, -⟩ ⟨hj, -⟩
      exact ha hj
    · rw [List.mem_cons, or_and_right]

theorem foldl_queueBypass_spares (l : List Station) (s : State) :
    Spares s (l.foldl (fun s k => s.queueCommand k .bypass) s) :=
  foldl_relates Spares.refl Spares.trans (fun s k => s.queueCommand_spares k .bypass) l s

/-- A stack just commanded has a command left to do. -/
theorem Took.not_idle {s t : State} {k : Station} {c : CommandKind} (h : Took s t k c) :
    ¬ ((t.view k).unsent = none ∧ (t.view k).outstanding = []) := by
  rintro ⟨hu, ho⟩
  rcases h with h | ⟨-, h⟩
  · rw [h] at hu
    cases hu
  · rw [h] at ho
    simp [StackView.commandStarted] at ho

/-! ## A bus that a restart puts into NORMAL -/

/-- The stack to which a bus in service queues a tidy RELEASE as it enters NORMAL under the active bank, where no stack owns a
release (R23). -/
def State.Tidies (s : State) (b : Bus) (k : Station) : Prop :=
  ∃ row, (s.channel b).detection ≠ .outOfService ∧ s.activeBank.busRows[b] = some row ∧ row.stack = k ∧
    (s.view k).reported = .bypassed ∧ (s.view k).unresponsive = false ∧ (s.view k).unsent = none ∧
    (s.view k).outstanding = []

theorem State.Tidies.congr {s t : State} {b : Bus} {k : Station} (h : s.Tidies b k)
    (hd : (s.channel b).detection ≠ .outOfService → (t.channel b).detection ≠ .outOfService) (hb : t.banks = s.banks)
    (hv : t.view k = s.view k) : t.Tidies b k := by
  obtain ⟨row, hin, hrow, hk, hidle⟩ := h
  exact ⟨row, hd hin, (State.activeBank_congr hb).symm ▸ hrow, hk, hv.symm ▸ hidle⟩

theorem State.startSilence_only (s : State) (b : Bus) : ∃ c, s.startSilence b = s.setChannel b c := by
  unfold State.startSilence
  split
  · exact ⟨s.channel b, (s.setChannel_channel b).symm⟩
  · exact ⟨_, rfl⟩

theorem State.restartBus_out {s : State} {b : Bus} (h : (s.channel b).detection = .outOfService) : s.restartBus b = s :=
  if_pos h

/-- A bus in service at a restart: its channel set, and the tidy RELEASE. -/
theorem State.restartBus_in {s : State} {b : Bus} (h : (s.channel b).detection ≠ .outOfService)
    (hr : ∀ p, s.release p = none) : ∃ c d,
      (∀ k, s.Tidies b k → s.restartBus b = ((s.setChannel b c).queueCommand k .release).setChannel b d) ∧
      ((∀ k, ¬ s.Tidies b k) → s.restartBus b = (s.setChannel b c).setChannel b d) := by
  have heq : s.restartBus b = ((s.endUntracked b).enterNormal b).startSilence b := if_neg h
  obtain ⟨d, hd⟩ := State.startSilence_only ((s.endUntracked b).enterNormal b) b
  obtain ⟨hinvalid, hvalid⟩ := enteringNormal (s.endUntracked b) b
  rw [heq, hd]
  rw [State.endUntracked_eq] at hinvalid hvalid ⊢
  rw [State.setChannel_setChannel, State.channel_setChannel, if_pos rfl] at hinvalid hvalid
  refine ⟨{ (s.channel b).tallied.cleared with bankInUse := s.banks.active }, d, fun k hk => ?_, fun hk => ?_⟩
  · obtain ⟨row, -, hrow, rfl, hreported, hresponsive, hunsent, hout⟩ := hk
    have hreleases : ∀ p y, s.release p = some y → y.stack ≠ row.stack := fun p y hp => by
      rw [hr] at hp
      cases hp
    exact congrArg (fun t : State => t.setChannel b d)
      ((hvalid row hrow).1 ⟨hreported, hresponsive, hreleases, hunsent, hout⟩)
  · cases hrow : s.activeBank.busRows[b] with
    | none => exact congrArg (fun t : State => t.setChannel b d) (hinvalid hrow)
    | some row =>
      refine congrArg (fun t : State => t.setChannel b d) ((hvalid row hrow).2 ?_)
      rintro ⟨hreported, hresponsive, -, hunsent, hout⟩
      exact hk row.stack ⟨row, h, hrow, rfl, hreported, hresponsive, hunsent, hout⟩

theorem Spares.setChannel {s t : State} (h : Spares s t) (b : Bus) (c : BusChannel) : Spares s (t.setChannel b c) :=
  ⟨h.1, h.2, h.3, h.4, h.5, h.6, h.7⟩

/-- A bus finds at most one stack to tidy. -/
theorem State.Tidies.unique {s : State} {b : Bus} {j k : Station} (hj : s.Tidies b j) (hk : s.Tidies b k) : j = k := by
  obtain ⟨row, -, hrow, rfl, -⟩ := hj
  obtain ⟨row', -, hrow', rfl, -⟩ := hk
  rw [hrow] at hrow'
  cases hrow'
  rfl

theorem State.restartBus_spares {s : State} (hr : ∀ p, s.release p = none) (b : Bus) : Spares s (s.restartBus b) := by
  by_cases h : (s.channel b).detection = .outOfService
  · rw [State.restartBus_out h]
    exact .refl s
  · obtain ⟨c, d, htidies, hnone⟩ := State.restartBus_in h hr
    by_cases hk : ∃ k, s.Tidies b k
    · obtain ⟨k, hk⟩ := hk
      rw [htidies k hk]
      exact (((Spares.refl s).setChannel b c).trans (State.queueCommand_spares _ k .release)).setChannel b d
    · rw [hnone fun k x => hk ⟨k, x⟩]
      exact ((Spares.refl s).setChannel b c).setChannel b d

theorem State.restartBus_commands {s : State} (h : PortServed s) (hr : ∀ p, s.release p = none) (b : Bus) :
    Commands (fun k c => s.Tidies b k ∧ c = .release) s (s.restartBus b) := by
  by_cases hin : (s.channel b).detection = .outOfService
  · rw [State.restartBus_out hin]
    refine (Commands.refl h).congr rfl rfl fun k c => ⟨?_, False.elim⟩
    rintro ⟨⟨row, hd, -⟩, -⟩
    exact hd hin
  · obtain ⟨c, d, htidies, hnone⟩ := State.restartBus_in hin hr
    by_cases hk : ∃ k, s.Tidies b k
    · obtain ⟨k, hk⟩ := hk
      rw [htidies k hk]
      have hset : Commands (fun _ _ => False) s (s.setChannel b c) := (Commands.refl h).congr rfl rfl fun _ _ => Iff.rfl
      refine (hset.trans (State.queueCommand_commands hset.served k .release) fun _ _ _ x => x.elim).congr rfl rfl
        fun j e => ?_
      rw [false_or]
      exact and_congr_left fun _ => ⟨fun hj => hj.unique hk, fun hj => hj ▸ hk⟩
    · rw [hnone fun k x => hk ⟨k, x⟩]
      exact (Commands.refl h).congr rfl rfl fun k e => ⟨fun x => hk ⟨k, x.1⟩, False.elim⟩

theorem State.restartBus_service (s : State) (b d : Bus) :
    ((s.restartBus b).channel d).detection = .outOfService ↔ (s.channel d).detection = .outOfService := by
  rw [State.restartBus_channel]
  split
  · next h =>
    subst h
    by_cases hd : (s.channel b).detection = .outOfService
    · rw [BusChannel.restarted_out hd]
    · rw [BusChannel.restarted_in hd]
      exact iff_of_false (by simp [BusChannel.cleared]) hd
  · exact Iff.rfl

theorem foldl_restartBus_spares {s : State} (hr : ∀ p, s.release p = none) (l : List Bus) :
    Spares s (l.foldl State.restartBus s) := by
  induction l generalizing s with
  | nil => exact .refl s
  | cons b l ih =>
    have hb := State.restartBus_spares hr b
    exact hb.trans (ih (hb.releases hr))

theorem foldl_restartBus_commands {s : State} (h : PortServed s) (hr : ∀ p, s.release p = none) (l : List Bus) :
    Commands (fun k c => (∃ b ∈ l, s.Tidies b k) ∧ c = .release) s (l.foldl State.restartBus s) := by
  induction l generalizing s with
  | nil => exact (Commands.refl h).congr rfl rfl (by simp)
  | cons b l ih =>
    have hone := State.restartBus_commands h hr b
    have hspares := State.restartBus_spares hr b
    have hservice := s.restartBus_service b
    have hafter : ∀ k, ¬ s.Tidies b k → ∀ d, (s.restartBus b).Tidies d k ↔ s.Tidies d k := fun k hk d => by
      have hview := (hone.untouched k fun _ x => hk x.1).1
      exact ⟨fun x => x.congr (mt (hservice d).2) hspares.banks.symm hview.symm,
        fun x => x.congr (mt (hservice d).1) hspares.banks hview⟩
    have hlater : ∀ k, s.Tidies b k → ∀ d, ¬ (s.restartBus b).Tidies d k := fun k hk d => by
      rintro ⟨-, -, -, -, -, -, hidle⟩
      exact (hone.took k .release ⟨hk, rfl⟩).not_idle hidle
    refine (hone.trans (ih hone.served (hspares.releases hr)) ?_).congr rfl rfl fun k c => ?_
    · rintro j c c' ⟨hj, -⟩ ⟨⟨d, -, hd⟩, -⟩
      exact hlater j hj d hd
    · rw [← or_and_right]
      refine and_congr_left fun _ => ?_
      by_cases hk : s.Tidies b k
      · exact iff_of_true ⟨b, List.mem_cons_self, hk⟩ (.inl hk)
      · simp [hk, hafter k hk]

end Sys2Proof.Machine
end

section
/-! SUPPORT. The statement on RESTART. -/

namespace Sys2Proof.Machine

/-! ## The request -/

theorem State.busyMaps_iff {s : State} :
    s.busyMaps = true ↔ (∃ i e, s.entry i = some e) ∨ ∃ p y, s.release p = some y := by
  simp [State.busyMaps, allEvents, allReleases, Option.isSome_iff_exists]

theorem State.mem_restartStacks {s : State} {k : Station} : k ∈ s.restartStacks ↔
    (∃ b i e, (s.channel b).openEvent = some i ∧ s.entry i = some e ∧ e.copy.stack = k) ∨
      ∃ p y, s.release p = some y ∧ y.stack = k := by
  simp only [State.restartStacks, List.mem_eraseDups, List.mem_append, List.mem_filterMap, allBuses, allReleases,
    List.mem_finRange, true_and, Option.map_eq_some_iff, Option.bind_eq_some_iff]
  refine or_congr_left (exists_congr fun b => ?_)
  constructor
  · rintro ⟨e, ⟨i, hi, he⟩, hk⟩
    exact ⟨i, e, hi, he, hk⟩
  · rintro ⟨i, e, hi, he, hk⟩
    exact ⟨e, ⟨i, hi, he⟩, hk⟩

theorem restart_refused {r : Request} {s : State} (hf : r.fields = [0]) (hb : s.busyMaps = true) :
    restart r s = (s, .refused (.state none)) := by
  simp [restart, hf, byteAt_zero, checkLength, checkRange, hb, State.refuse]

theorem State.restart_eq (s : State) (force : Bool) : s.restart force = ((s.restart force).1,
    .done (.restarted force s.restartEvents s.releasesInUse s.restartStacks.length)) := by
  simp only [State.restart, State.done]

theorem restart_accepted {r : Request} {s : State} {x : Byte} (hf : r.fields = [x]) (hx : x.toNat ≤ 1)
    (hb : x = 1 ∨ ¬ s.busyMaps = true) : restart r s = s.restart (decide (x = 1)) := by
  have hone : x.toNat = 1 ↔ x = 1 := by
    rw [← BitVec.toNat_inj]
    rfl
  have hgo : ¬ (x.toNat = 0 ∧ s.busyMaps = true) := by
    rintro ⟨h0, hbusy⟩
    rcases hb with rfl | hb
    · cases h0
    · exact hb hbusy
  simp only [restart, hf, byteAt_zero, checkLength, checkRange_of_le ⟨Nat.zero_le _, hx⟩, State.unless_none, if_neg hgo,
    hone, List.length_singleton, if_true]

/-! ## What the maps, the pool and the injection are emptied to -/

/-- The pool a restart leaves, under the active bank's store parameters. -/
def Pool.restarted (p : Pool) (waits : Bool) : Pool :=
  { p with
    budget := 0
    free := 0
    drawn := 0
    grantQueue := []
    releases := Vector.replicate 16 none
    storeState := if waits then .waiting else .unconfigured
    storeSilence := none
    storeBaseline := none
    passDue := false }

/-- The injection state a restart leaves. -/
def Injection.restarted (x : Injection) : Injection :=
  { records := eachMember StackRecord.restarted x.records, rates := Vector.replicate 32 none }

/-- The state in which a restart has queued BYPASS for its stacks. -/
def State.bypassing (s : State) : State := s.restartStacks.foldl (fun s k => s.queueCommand k .bypass) s

theorem State.emptied_parts (s : State) :
    (s.emptied s.restartStacks).events = { s.events with entries := Vector.replicate 32 none } ∧
    (s.emptied s.restartStacks).injection = s.injection.restarted ∧ (s.emptied s.restartStacks).capture = s.capture ∧
    (s.emptied s.restartStacks).banks = s.banks ∧ (s.emptied s.restartStacks).management = s.management ∧
    (s.emptied s.restartStacks).pool = s.pool.restarted s.activeBank.store.isSome ∧
    (s.emptied s.restartStacks).ring = s.bypassing.ring ∧ (s.emptied s.restartStacks).views = s.bypassing.views := by
  have hspares : Spares s s.bypassing := foldl_queueBypass_spares _ s
  have heq : s.emptied s.restartStacks = s.bypassing.emptyEvents.emptyPool.emptyInjection := rfl
  rw [heq]
  generalize s.bypassing = w at hspares
  obtain ⟨hevents, hinjection, hcapture, hbanks, hmanagement, hpool, -⟩ := hspares
  have hactive : w.emptyEvents.activeBank = s.activeBank := State.activeBank_congr hbanks
  refine ⟨?_, ?_, hcapture, hbanks, hmanagement, ?_, rfl, rfl⟩
  · simp only [State.emptyInjection, State.emptyPool, State.emptyEvents, hevents]
  · simp only [State.emptyInjection, State.emptyPool, State.emptyEvents, hinjection, Injection.restarted]
  · simp only [State.emptyInjection, State.emptyPool, hactive, Pool.restarted]
    simp only [State.emptyEvents]
    rw [hpool]

theorem State.emptied_release (s : State) (p : ReleaseIx) : (s.emptied s.restartStacks).release p = none := by
  obtain ⟨-, -, -, -, -, hpool, -⟩ := s.emptied_parts
  rw [State.release, hpool]
  simp [Pool.restarted]

/-! ## What a restart leaves -/

/-- The commands of a restart: BYPASS for its stacks, and the tidy RELEASE (R23, R189). -/
def State.RestartCommands (s : State) (k : Station) (c : CommandKind) : Prop :=
  k ∈ s.restartStacks ∧ c = .bypass ∨ k ∉ s.restartStacks ∧ (∃ b, s.Tidies b k) ∧ c = .release

/-- The state after an accepted restart of `s`. -/
structure Restarted (s t : State) : Prop where
  events : t.events = { s.events with entries := Vector.replicate 32 none }
  injection : t.injection = s.injection.restarted
  capture : t.capture = { s.capture with channels := eachMember CaptureChannel.restarted s.capture.channels }
  banks : t.banks = s.banks
  management : t.management = { s.management with snapshot := none }
  pool : t.pool = { s.pool.restarted s.activeBank.store.isSome with releases := t.pool.releases }
  releases : ∀ p, t.release p = none
  channels : ∀ b, t.channel b = (s.channel b).restarted s.now s.banks.active s.activeBank.busRows[b]
  commands : ∃ w, Commands s.RestartCommands s w ∧ t.ring = { w.ring with reports := [] } ∧ t.views = w.views

theorem State.restartBuses_commands {s : State} (h : PortServed s) :
    Commands s.RestartCommands s (allBuses.foldl State.restartBus (s.emptied s.restartStacks)) := by
  obtain ⟨-, -, -, hbanks, -, -, hring, hviews⟩ := s.emptied_parts
  have hbypass : Commands (fun k c => k ∈ s.restartStacks ∧ c = .bypass) s (s.emptied s.restartStacks) :=
    (foldl_queueBypass_commands (nodup_eraseDups _) h).congr hring hviews fun _ _ => Iff.rfl
  have htidy := foldl_restartBus_commands hbypass.served s.emptied_release allBuses
  have hchannels : ∀ b, (s.emptied s.restartStacks).channel b = s.channel b := by
    obtain ⟨-, -, -, hc, -⟩ := s.emptied_frame s.restartStacks
    exact State.channel_congr hc
  generalize s.emptied s.restartStacks = u at hbanks hbypass htidy hchannels
  have hbusy : ∀ k ∈ s.restartStacks, ∀ b, ¬ u.Tidies b k := by
    rintro k hk b ⟨-, -, -, -, -, -, hidle⟩
    exact (hbypass.took k .bypass ⟨hk, rfl⟩).not_idle hidle
  have hother : ∀ k, k ∉ s.restartStacks → ∀ b, u.Tidies b k ↔ s.Tidies b k := fun k hk b => by
    have hview := (hbypass.untouched k fun _ x => hk x.1).1
    exact ⟨fun x => x.congr (by rw [hchannels]; exact id) hbanks.symm hview.symm,
      fun x => x.congr (by rw [hchannels]; exact id) hbanks hview⟩
  refine (hbypass.trans htidy ?_).congr rfl rfl fun k c => ?_
  · rintro k c c' ⟨hk, -⟩ ⟨⟨b, -, hb⟩, -⟩
    exact hbusy k hk b hb
  · by_cases hk : k ∈ s.restartStacks
    · simp [State.RestartCommands, hk, hbusy k hk]
    · simp [State.RestartCommands, hk, hother k hk, allBuses]

theorem State.restart_restarted {s : State} (h : PortServed s) (force : Bool) : Restarted s (s.restart force).1 := by
  obtain ⟨hevents, hinjection, hcapture, hbanks, hmanagement, hpool, -, -⟩ := s.emptied_parts
  have hspares := foldl_restartBus_spares s.emptied_release allBuses
  have hcommands := State.restartBuses_commands h
  obtain ⟨-, -, -, -, hchannels⟩ := s.restart_parts force
  have hreleases := hspares.releases s.emptied_release
  rw [State.restart_fst] at hchannels ⊢
  generalize allBuses.foldl State.restartBus (s.emptied s.restartStacks) = w at *
  generalize s.emptied s.restartStacks = u at *
  refine ⟨hspares.events.trans hevents, hspares.injection.trans hinjection, ?_, hspares.banks.trans hbanks, ?_, ?_,
    hreleases, hchannels, w, hcommands, rfl, rfl⟩
  · have hw := hspares.capture.trans hcapture
    change { w.capture with channels := eachMember CaptureChannel.restarted w.capture.channels } = _
    rw [hw]
  · have hw := hspares.management.trans hmanagement
    change { w.management with snapshot := none } = _
    rw [hw]
  · have hw := hspares.pool
    rw [hpool] at hw
    exact hw

/-! ## The views after a restart -/

section Views
variable {s t : State} {k : Station} {c : CommandKind}

theorem Took.waits_or_sent (h : Took s t k c) : (t.view k).unsent = some ⟨(s.view k).takenSequence, c⟩ ∨
    ⟨⟨(s.view k).takenSequence, c⟩, .inTransmission⟩ ∈ (t.view k).outstanding := by
  rcases h with h | ⟨-, h⟩
  · exact .inl (h ▸ rfl)
  · refine .inr ?_
    rw [h]
    exact List.mem_append_right _ (List.mem_singleton_self _)

theorem Took.queued (h : Took s t k c) (hs : s.ring.port ≠ none) : t.view k = (s.view k).queued c :=
  h.resolve_right fun x => hs x.1

theorem StackView.queued_eq (v : StackView) (c : CommandKind) : v.queued c = { v with
    unsent := some ⟨v.takenSequence, c⟩
    nextSequence := if v.unsent.isSome then v.nextSequence else v.nextSequence + 1 } := by
  cases h : v.unsent <;> simp [StackView.queued, h]

end Views

/-- A restarted channel in service under a valid row. -/
theorem BusChannel.restarted_valid {c : BusChannel} (h : c.detection ≠ .outOfService) (now : Nat) (active : BankIx)
    (row : BusRow) : c.restarted now active (some row) = { c with
      detection := .normal
      runCount := 0
      suspectStart := none
      suspectLowest := none
      openEvent := none
      untracked := false
      bankInUse := active
      silence := some (now + row.silenceTimeout)
      counters := { c.counters with
        untrackedSags := c.counters.untrackedSags + if c.untracked then 1 else 0 } } :=
  BusChannel.restarted_in h now active (some row)

theorem CaptureChannel.restarted_eq (c : CaptureChannel) : c.restarted = { c with
    state := if c.state = .running then .done else c.state
    status := .freed
    startFrame := if c.state = .running then none else c.startFrame } := by
  by_cases h : c.state = .running <;> simp [CaptureChannel.restarted, h]

/-- Settles O60: the refusal while a map holds an entry, and the restart. -/
theorem restartTaken : Obligations.RestartTaken := by
  intro s r rest x hh ha hport hr hf busy
  have hbusy : (s.taken rest).busyMaps = true ↔ busy := State.busyMaps_iff
  have hexec : exec .restart s = .next (s.answerSettled r.row restart) := by rw [hr]; rfl
  refine ⟨fun hx hb => ?_, fun hx hb => ?_⟩
  · subst hx
    exact answers_of_settled hexec hh ha (restart_refused hf (hbusy.2 hb))
  · have hserved : PortServed (s.taken rest) := hport
    have hkept := State.restart_restarted hserved (decide (x = 1))
    have hanswer : Answers .restart s r ((s.taken rest).restart (decide (x = 1))).1 (.done (.restarted (decide (x = 1))
        (s.taken rest).restartEvents (s.taken rest).releasesInUse (s.taken rest).restartStacks.length)) := by
      refine answers_of_settled hexec hh ha ?_
      rw [restart_accepted hf hx (hb.imp_right (mt hbusy.1))]
      exact State.restart_eq _ _
    generalize ((s.taken rest).restart (decide (x = 1))).1 = t at hkept hanswer
    obtain ⟨hevents, hinjection, hcapture, hbanks, hmanagement, hpool, hreleases, hchannels, w, hcommands, hring, hviews⟩ :=
      hkept
    have hview := State.view_congr hviews
    have hlink : t.ring = { s.ring with
        drive := w.ring.drive, port := w.ring.port, egressSequence := w.ring.egressSequence, reports := [] } := by
      rw [hring, hcommands.ring]
      rfl
    refine ⟨t, (s.taken rest).restartStacks, hanswer, nodup_eraseDups _, fun k => State.mem_restartStacks, fun k hk => ?_,
      fun i => ⟨?_, ?_⟩, hreleases, (congrArg Pool.budget hpool :), (congrArg Pool.free hpool :),
      (congrArg Pool.drawn hpool :), (congrArg Pool.grantQueue hpool :), (congrArg Pool.storeState hpool :),
      (congrArg Pool.storeSilence hpool :), (congrArg Pool.storeBaseline hpool :), fun k => ?_,
      fun b => ⟨fun hd => ?_, fun row hd hrow => ?_⟩, fun k => ?_, (congrArg Ring.reports hlink :), hmanagement,
      (congrArg Capture.memory hcapture :), hbanks, (congrArg Ring.transit hlink :), (congrArg Ring.responses hlink :),
      (congrArg Ring.counters hlink :), (congrArg Pool.charger hpool :), (congrArg Pool.chargerFault hpool :),
      (congrArg Pool.staleStore hpool :), (congrArg Pool.inEffect hpool :), (congrArg Pool.creationCounter hpool :),
      (congrArg EventMap.openCounter hevents :), (congrArg EventMap.closeCounter hevents :), fun hp => ?_, fun k => ?_⟩
    · rw [hview]
      exact (hcommands.took k .bypass (.inl ⟨hk, rfl⟩)).waits_or_sent
    · rw [State.entry, hevents]
      simp
    · rw [State.rate, hinjection]
      simp [Injection.restarted]
    · rw [State.record, hinjection]
      exact getElem_eachMember StackRecord.restarted s.injection.records k
    · rw [hchannels]
      exact BusChannel.restarted_out hd _ _ _
    · have hrow' : (s.taken rest).activeBank.busRows[b] = some row := hrow
      rw [hchannels, hrow']
      exact BusChannel.restarted_valid hd _ _ row
    · rw [State.recorder, hcapture]
      exact (getElem_eachMember CaptureChannel.restarted s.capture.channels k).trans (CaptureChannel.restarted_eq _)
    · obtain ⟨hsame, hsequence⟩ := hcommands.sending hp
      exact ⟨(congrArg Ring.port hlink).trans hsame, (congrArg Ring.egressSequence hlink).trans hsequence⟩
    · intro v tidied
      have htidied : (∃ b, (s.taken rest).Tidies b k) ↔ tidied := Iff.rfl
      refine ⟨fun hk hn => ?_, fun hp hk => ?_⟩
      · obtain ⟨hsame, hdrive⟩ := hcommands.untouched k fun c hc => hc.elim (fun x => hk x.1) fun x => hn (htidied.1 x.2.1)
        refine ⟨(hview k).trans hsame, ?_⟩
        rw [hring]
        exact hdrive
      · have htook : Took (s.taken rest) w k (if k ∈ (s.taken rest).restartStacks then .bypass else .release) := by
          refine hcommands.took k _ ?_
          split
          · next hmem => exact .inl ⟨hmem, rfl⟩
          · next hmem => exact .inr ⟨hmem, htidied.2 (hk.resolve_left hmem), rfl⟩
        exact ((hview k).trans (htook.queued hp)).trans (StackView.queued_eq _ _)

end Sys2Proof.Machine
end

section
/-! SUPPORT. The balance of the pool (R67) and the accounts of the events (R41, R44, R123): the sums, what one entry or one release
moves of them, and the relations by which an operation keeps them together with the outcomes of the events (R38). -/

namespace Sys2Proof.Machine

/-! ## Sums over a table -/

theorem sum_map_finRange {n : Nat} (f : Fin n → Nat) : ((List.finRange n).map f).sum = ∑ i, f i := by
  rw [Fin.sum_univ_def]

/-- Two sums whose terms differ at one index alone. -/
theorem sum_exchange {n : Nat} {f g : Fin n → Nat} (i : Fin n) (h : ∀ j, j ≠ i → f j = g j) :
    (∑ j, f j) + g i = (∑ j, g j) + f i := by
  have hrest : ∑ j ∈ Finset.univ.erase i, f j = ∑ j ∈ Finset.univ.erase i, g j :=
    Finset.sum_congr rfl fun j hj => h j (Finset.ne_of_mem_erase hj)
  rw [← Finset.add_sum_erase _ f (Finset.mem_univ i), ← Finset.add_sum_erase _ g (Finset.mem_univ i), hrest]
  omega

theorem State.unspentSum_eq (s : State) : s.unspentSum = ∑ i, s.unspentOf i := sum_map_finRange _

theorem State.releaseSum_eq (s : State) : s.releaseSum = ∑ r, s.amountOf r := sum_map_finRange _

theorem State.unspentOf_some {s : State} {i : EventIx} {e : Event} (h : s.entry i = some e) : s.unspentOf i = e.unspent := by
  simp [State.unspentOf, h]

theorem State.unspentOf_none {s : State} {i : EventIx} (h : s.entry i = none) : s.unspentOf i = 0 := by
  simp [State.unspentOf, h]

theorem State.unspentOf_congr {s t : State} {i : EventIx} (h : t.entry i = s.entry i) : t.unspentOf i = s.unspentOf i := by
  simp [State.unspentOf, h]

theorem State.amountOf_some {s : State} {r : ReleaseIx} {x : Release} (h : s.release r = some x) : s.amountOf r = x.amount := by
  simp [State.amountOf, h]

theorem State.amountOf_none {s : State} {r : ReleaseIx} (h : s.release r = none) : s.amountOf r = 0 := by
  simp [State.amountOf, h]

/-- One entry changes: the sum of the unspent changes as its unspent does. -/
theorem State.unspentSum_exchange {s t : State} (i : EventIx) (h : ∀ j, j ≠ i → t.entry j = s.entry j) :
    t.unspentSum + s.unspentOf i = s.unspentSum + t.unspentOf i := by
  rw [State.unspentSum_eq, State.unspentSum_eq]
  exact sum_exchange i fun j hj => State.unspentOf_congr (h j hj)

/-- One release changes: the sum of the amounts changes as its amount does. -/
theorem State.releaseSum_exchange {s t : State} (r : ReleaseIx) (h : ∀ q, q ≠ r → t.amountOf q = s.amountOf q) :
    t.releaseSum + s.amountOf r = s.releaseSum + t.amountOf r := by
  rw [State.releaseSum_eq, State.releaseSum_eq]
  exact sum_exchange r h

theorem State.unspentSum_congr {s t : State} (h : ∀ i, t.unspentOf i = s.unspentOf i) : t.unspentSum = s.unspentSum := by
  rw [State.unspentSum_eq, State.unspentSum_eq, Finset.sum_congr rfl fun i _ => h i]

theorem State.releaseSum_congr {s t : State} (h : ∀ r, t.amountOf r = s.amountOf r) : t.releaseSum = s.releaseSum := by
  rw [State.releaseSum_eq, State.releaseSum_eq, Finset.sum_congr rfl fun r _ => h r]

theorem State.unspentSum_of_events {s t : State} (h : t.events.entries = s.events.entries) : t.unspentSum = s.unspentSum :=
  State.unspentSum_congr fun i => State.unspentOf_congr (State.entry_congr h i)

/-! ## Releases -/

/-- A change of the releases' other fields leaves the amounts. -/
theorem State.amountOf_map {s t : State} {f : Release → Release} (hf : ∀ x, (f x).amount = x.amount) {r : ReleaseIx}
    (h : t.release r = (s.release r).map f) : t.amountOf r = s.amountOf r := by
  cases hs : s.release r <;> simp [State.amountOf, h, hs, hf]

/-- A release without the two fields that a queued command and a freed event change: what it awaits and its origin. -/
def Release.lasting (x : Release) : Release := { x with awaited := 0, origin := none }

/-- The Release Map stands, but for what its releases await and their origins. -/
def Stands (s t : State) : Prop := ∀ r, (t.release r).map Release.lasting = (s.release r).map Release.lasting

theorem Stands.refl (s : State) : Stands s s := fun _ => rfl

theorem Stands.trans {s t u : State} (h : Stands s t) (k : Stands t u) : Stands s u := fun r => (k r).trans (h r)

/-- The second of two changes named first. -/
theorem Stands.after {s t u : State} (k : Stands t u) (h : Stands s t) : Stands s u := h.trans k

theorem Stands.of_eq {s t : State} (h : t.pool.releases = s.pool.releases) : Stands s t := fun r => by
  simp [State.release, h]

theorem Stands.of_map {s t : State} {f : Release → Release} (hf : ∀ x, (f x).lasting = x.lasting)
    (h : ∀ r, t.release r = (s.release r).map f) : Stands s t := fun r => by
  rw [h, Option.map_map]
  exact congrArg (fun g => (s.release r).map g) (funext hf)

theorem Stands.foldl {α : Type} {f : State → α → State} (h : ∀ s x, Stands s (f s x)) (l : List α) (s : State) :
    Stands s (l.foldl f s) := foldl_relates .refl .trans h l s

theorem Stands.held {s t : State} (h : Stands s t) {r : ReleaseIx} {x : Release} (hx : s.release r = some x) :
    ∃ y, t.release r = some y ∧ y.lasting = x.lasting := by
  have hr := h r
  rwa [hx, Option.map_some, Option.map_eq_some_iff] at hr

theorem Stands.vacant {s t : State} (h : Stands s t) {r : ReleaseIx} (hx : s.release r = none) : t.release r = none := by
  have hr := h r
  rwa [hx, Option.map_none, Option.map_eq_none_iff] at hr

theorem Stands.amountOf {s t : State} (h : Stands s t) (r : ReleaseIx) : t.amountOf r = s.amountOf r := by
  cases hs : s.release r with
  | none => rw [State.amountOf_none hs, State.amountOf_none (h.vacant hs)]
  | some x =>
    obtain ⟨y, hy, hl⟩ := h.held hs
    rw [State.amountOf_some hs, State.amountOf_some hy]
    exact (congrArg Release.amount hl :)

/-! ## The accounts -/

/-- The accounts of one entry (R41, R123). -/
structure Event.Accounted (e : Event) : Prop where
  bounded : e.accumulator ≤ 18446744073709551615
  spent : e.spent = min (e.accumulator / 1000000000) e.grant
  overdraw : e.overdraw = min (e.accumulator / 1000000000 - e.grant) 4294967295

/-- An event in REPORTING has nothing left (R44). -/
def Event.Settled (e : Event) : Prop := e.state = .reporting → e.unspent = 0

def State.Accounted (s : State) : Prop := ∀ i e, s.entry i = some e → e.Accounted

def State.Settled (s : State) : Prop := ∀ i e, s.entry i = some e → e.Settled

/-- What the balance of R67 adds up. -/
def State.funds (s : State) : Nat := s.pool.free + s.unspentSum + s.releaseSum + s.pool.drawn

theorem energySound_iff {s : State} : EnergySound s ↔ s.Accounted ∧ s.Settled ∧ s.funds = s.pool.budget := by
  constructor
  · exact fun h => ⟨fun i e he => ⟨h.bounded i e he, (h.accounted i e he).1, (h.accounted i e he).2⟩,
      fun i e he => h.settled i e he, h.balance⟩
  · exact fun ⟨ha, hs, hb⟩ => ⟨fun i e he => (ha i e he).bounded, fun i e he => ⟨(ha i e he).spent, (ha i e he).overdraw⟩,
      fun i e he => hs i e he, hb⟩

theorem Event.recount_accounted {e : Event} (h : e.accumulator ≤ 18446744073709551615) : e.recount.Accounted := ⟨h, rfl, rfl⟩

theorem Event.Accounted.spent_le {e : Event} (h : e.Accounted) : e.spent ≤ e.grant := h.spent ▸ min_le_right _ _

/-- The accounts follow from the accumulator, the grant and the two figures alone. -/
theorem Event.Accounted.congr {e e' : Event} (h : e.Accounted) (ha : e'.accumulator = e.accumulator) (hg : e'.grant = e.grant)
    (hs : e'.spent = e.spent) (ho : e'.overdraw = e.overdraw) : e'.Accounted :=
  ⟨ha ▸ h.bounded, by rw [hs, ha, hg, h.spent], by rw [ho, ha, hg, h.overdraw]⟩

/-- A grant lowered by some of the unspent. -/
theorem Event.Accounted.lower {e e' : Event} (h : e.Accounted) {n : Nat} (hn : n ≤ e.unspent)
    (ha : e'.accumulator = e.accumulator) (hg : e'.grant = e.grant - n) (hs : e'.spent = e.spent)
    (ho : e'.overdraw = e.overdraw) : e'.Accounted := by
  have hspent := h.spent
  rw [Event.unspent] at hn
  refine ⟨ha ▸ h.bounded, ?_, ?_⟩
  · rw [hs, ha, hg]; omega
  · rw [ho, ha, hg, h.overdraw]; omega

theorem Event.Accounted.giveUp {e : Event} (h : e.Accounted) : e.giveUp.Accounted :=
  h.lower (n := e.unspent) le_rfl rfl
    (by have := h.spent_le; simp only [Event.giveUp, Event.unspent]; omega) rfl rfl

theorem Event.giveUp_unspent (e : Event) : e.giveUp.unspent = 0 := Nat.sub_self _

/-! ## The relations -/

/-- How an entry goes on: it keeps its accounts, REPORTING finds nothing left, and an outcome once set stays (R38). -/
structure Event.Continues (e e' : Event) : Prop where
  accounted : e.Accounted → e'.Accounted
  settled : e.Settled → e'.Settled
  outcome : ∀ o, e.outcome = some o → e'.outcome = some o

theorem Event.Continues.refl (e : Event) : e.Continues e := ⟨id, id, fun _ => id⟩

theorem Event.Continues.trans {e f g : Event} (h : e.Continues f) (k : f.Continues g) : e.Continues g :=
  ⟨fun x => k.accounted (h.accounted x), fun x => k.settled (h.settled x), fun o x => k.outcome o (h.outcome o x)⟩

/-- A change of none of the fields that the accounts and the outcome are told by. -/
theorem Event.Continues.of_eq {e e' : Event} (ha : e'.accumulator = e.accumulator) (hg : e'.grant = e.grant)
    (hs : e'.spent = e.spent) (ho : e'.overdraw = e.overdraw) (hx : e'.state = e.state) (hc : e'.outcome = e.outcome) :
    e.Continues e' :=
  ⟨fun h => h.congr ha hg hs ho, fun h hr => by rw [Event.unspent, hg, hs]; exact h (hx ▸ hr), fun _ h => hc.trans h⟩

/-- No entry is new, and each that is still held has gone on. -/
def Follows (s t : State) : Prop := ∀ i e', t.entry i = some e' → ∃ e, s.entry i = some e ∧ e.Continues e'

theorem Follows.refl (s : State) : Follows s s := fun _ e he => ⟨e, he, .refl e⟩

theorem Follows.trans {s t u : State} (h : Follows s t) (k : Follows t u) : Follows s u := fun i e'' he'' => by
  obtain ⟨e', he', hk⟩ := k i e'' he''
  obtain ⟨e, he, hh⟩ := h i e' he'
  exact ⟨e, he, hh.trans hk⟩

theorem Follows.of_entry {s t : State} (h : ∀ i, t.entry i = s.entry i) : Follows s t := fun i e he =>
  ⟨e, (h i).symm.trans he, .refl e⟩

theorem Follows.accounted {s t : State} (h : Follows s t) (hs : s.Accounted) : t.Accounted := fun i e' he' => by
  obtain ⟨e, he, hc⟩ := h i e' he'
  exact hc.accounted (hs i e he)

theorem Follows.settled {s t : State} (h : Follows s t) (hs : s.Settled) : t.Settled := fun i e' he' => by
  obtain ⟨e, he, hc⟩ := h i e' he'
  exact hc.settled (hs i e he)

/-- A free index stays free. -/
theorem Follows.free {s t : State} (h : Follows s t) {i : EventIx} (hi : s.entry i = none) : t.entry i = none := by
  cases ht : t.entry i with
  | none => rfl
  | some e' =>
    obtain ⟨e, he, -⟩ := h i e' ht
    simp [hi] at he

/-- An operation that moves energy between the terms of the balance, and gives no event energy it has not: it keeps the balance
while the entries are accounted for. -/
structure Carries (s t : State) : Prop where
  budget : t.pool.budget = s.pool.budget
  follows : Follows s t
  spent : ∀ i e e', s.entry i = some e → e.unspent = 0 → t.entry i = some e' → e'.unspent = 0
  funds : s.Accounted → t.funds = s.funds

/-- An operation that keeps the balance while the entries are accounted for and those in REPORTING have nothing left. -/
structure Conserves (s t : State) : Prop where
  budget : t.pool.budget = s.pool.budget
  follows : Follows s t
  funds : s.Accounted → s.Settled → t.funds = s.funds

theorem Carries.refl (s : State) : Carries s s :=
  ⟨rfl, .refl s, fun _ _ _ he h he' => by rw [he] at he'; exact Option.some.inj he' ▸ h, fun _ => rfl⟩

theorem Carries.trans {s t u : State} (h : Carries s t) (k : Carries t u) : Carries s u where
  budget := k.budget.trans h.budget
  follows := h.follows.trans k.follows
  spent := fun i e e'' he h0 he'' => by
    obtain ⟨e', he', -⟩ := k.follows i e'' he''
    exact k.spent i e' e'' he' (h.spent i e e' he h0 he') he''
  funds := fun hs => (k.funds (h.follows.accounted hs)).trans (h.funds hs)

/-- The second of two changes named first. -/
theorem Carries.after {s t u : State} (k : Carries t u) (h : Carries s t) : Carries s u := h.trans k

theorem Carries.foldl {α : Type} {f : State → α → State} (h : ∀ s x, Carries s (f s x)) (l : List α) (s : State) :
    Carries s (l.foldl f s) := foldl_relates .refl .trans h l s

theorem Carries.conserves {s t : State} (h : Carries s t) : Conserves s t := ⟨h.budget, h.follows, fun hs _ => h.funds hs⟩

theorem Conserves.refl (s : State) : Conserves s s := (Carries.refl s).conserves

theorem Conserves.trans {s t u : State} (h : Conserves s t) (k : Conserves t u) : Conserves s u where
  budget := k.budget.trans h.budget
  follows := h.follows.trans k.follows
  funds := fun ha hs => (k.funds (h.follows.accounted ha) (h.follows.settled hs)).trans (h.funds ha hs)

/-- The second of two changes named first. -/
theorem Conserves.after {s t u : State} (k : Conserves t u) (h : Conserves s t) : Conserves s u := h.trans k

theorem Conserves.foldl {α : Type} {f : State → α → State} (h : ∀ s x, Conserves s (f s x)) (l : List α) (s : State) :
    Conserves s (l.foldl f s) := foldl_relates .refl .trans h l s

theorem Conserves.energySound {s t : State} (h : Conserves s t) (hs : EnergySound s) : EnergySound t := by
  rw [energySound_iff] at hs ⊢
  obtain ⟨ha, hr, hb⟩ := hs
  exact ⟨h.follows.accounted ha, h.follows.settled hr, (h.funds ha hr).trans (hb.trans h.budget.symm)⟩

/-! ## Changes of one part of the state -/

/-- No entry, no amount and no other term of the balance changes. -/
theorem Carries.of_amounts {s t : State} (hb : t.pool.budget = s.pool.budget) (he : ∀ i, t.entry i = s.entry i)
    (hf : t.pool.free = s.pool.free) (hd : t.pool.drawn = s.pool.drawn) (ha : ∀ r, t.amountOf r = s.amountOf r) :
    Carries s t where
  budget := hb
  follows := .of_entry he
  spent := fun i e e' h h0 h' => by
    rw [he i, h] at h'
    exact Option.some.inj h' ▸ h0
  funds := fun _ => by
    rw [State.funds, State.funds, hf, hd, State.unspentSum_congr fun i => State.unspentOf_congr (he i),
      State.releaseSum_congr ha]

/-- Nothing that the relation speaks of changes. -/
theorem Carries.of_eq {s t : State} (he : t.events.entries = s.events.entries) (hp : t.pool = s.pool) : Carries s t :=
  .of_amounts (by rw [hp]) (State.entry_congr he) (by rw [hp]) (by rw [hp]) (Stands.of_eq (by rw [hp])).amountOf

theorem Conserves.of_eq {s t : State} (he : t.events.entries = s.events.entries) (hp : t.pool = s.pool) : Conserves s t :=
  (Carries.of_eq he hp).conserves

/-- A change of the pool's other fields. -/
theorem Carries.of_pool {s t : State} (he : t.events.entries = s.events.entries) (hb : t.pool.budget = s.pool.budget)
    (hf : t.pool.free = s.pool.free) (hd : t.pool.drawn = s.pool.drawn) (hr : t.pool.releases = s.pool.releases) :
    Carries s t := .of_amounts hb (State.entry_congr he) hf hd (Stands.of_eq hr).amountOf

/-- One entry changes. -/
theorem Follows.of_one {s t : State} {i : EventIx} {e e' : Event} (he : s.entry i = some e) (ht : t.entry i = some e')
    (hj : ∀ j, j ≠ i → t.entry j = s.entry j) (hc : e.Continues e') : Follows s t := fun j x hx => by
  by_cases h : j = i
  · subst h
    rw [ht] at hx
    cases hx
    exact ⟨e, he, hc⟩
  · exact ⟨x, (hj j h).symm.trans hx, .refl x⟩

/-- One entry changes, and what it gives up goes to another term of the balance. -/
theorem Carries.of_one {s t : State} {i : EventIx} {e e' : Event} (he : s.entry i = some e) (ht : t.entry i = some e')
    (hj : ∀ j, j ≠ i → t.entry j = s.entry j) (hc : e.Continues e') (hb : t.pool.budget = s.pool.budget)
    (h0 : e.unspent = 0 → e'.unspent = 0)
    (hf : t.pool.free + e'.unspent + t.releaseSum + t.pool.drawn = s.pool.free + e.unspent + s.releaseSum + s.pool.drawn) :
    Carries s t where
  budget := hb
  follows := .of_one he ht hj hc
  spent := fun j x x' hx hx0 hx' => by
    by_cases h : j = i
    · subst h
      rw [he] at hx
      rw [ht] at hx'
      cases hx
      cases hx'
      exact h0 hx0
    · rw [hj j h, hx] at hx'
      exact Option.some.inj hx' ▸ hx0
  funds := fun _ => by
    have := State.unspentSum_exchange i hj
    rw [State.unspentOf_some he, State.unspentOf_some ht] at this
    simp only [State.funds]
    omega

theorem State.setEntry_carries {s : State} {i : EventIx} {e e' : Event} (he : s.entry i = some e) (hc : e.Continues e')
    (hu : e'.unspent = e.unspent) : Carries s (s.setEntry i (some e')) :=
  .of_one he (by simp) (fun j hj => by simp [hj.symm]) hc rfl (fun h => hu.trans h)
    (by rw [hu]; rfl)

theorem State.modEvent_carries {s : State} {i : EventIx} {f : Event → Event}
    (hc : ∀ e, s.entry i = some e → e.Continues (f e)) (hu : ∀ e, s.entry i = some e → (f e).unspent = e.unspent) :
    Carries s (s.modEvent i f) := by
  cases h : s.entry i with
  | none => rw [State.modEvent_free f h]; exact .refl s
  | some e => rw [State.modEvent_eq f h]; exact State.setEntry_carries h (hc e h) (hu e h)

theorem State.addMark_carries (s : State) (i : EventIx) (m : Mark) : Carries s (s.addMark i m) :=
  State.modEvent_carries (fun _ _ => .of_eq rfl rfl rfl rfl rfl rfl) fun _ _ => rfl

/-- The entries evolve, and no amount and no other term of the balance changes. -/
theorem Conserves.of_sheds {s t : State} (h : Sheds s t) (hb : t.pool.budget = s.pool.budget)
    (hf : t.pool.free = s.pool.free) (hd : t.pool.drawn = s.pool.drawn) (ha : Stands s t) :
    Conserves s t where
  budget := hb
  follows := fun i e he => ⟨e, h.held he, .refl e⟩
  funds := fun _ hs => by
    rw [State.funds, State.funds, hf, hd, State.releaseSum_congr ha.amountOf, State.unspentSum_congr fun i => ?_]
    rcases h.entry i with hi | ⟨hi, e, he, hr⟩
    · exact State.unspentOf_congr hi
    · rw [State.unspentOf_none hi, State.unspentOf_some he, hs i e he hr]

end Sys2Proof.Machine
end

section
/-! SUPPORT. The energy accounts and the outcomes across the ring ports, the Capture Unit and the movements of energy. -/

namespace Sys2Proof.Machine

/-! ## The ring ports -/

theorem State.freeEvent_stands (s : State) (i : EventIx) : Stands s (s.freeEvent i) := by
  refine .of_map (f := fun x => if x.origin = some i then { x with origin := none } else x) (fun x => ?_)
    fun r => getElem_eachMember (forgetOrigin i) s.pool.releases r
  split <;> rfl

theorem State.queueClosed_stands (s : State) (i : EventIx) : Stands s (s.queueClosed i) := by
  unfold State.queueClosed
  split
  · exact .refl s
  · exact State.freeEvent_stands _ i

theorem State.kick_stands (s : State) : Stands s s.kick := by
  unfold State.kick
  split
  · exact .refl s
  · split
    · exact .refl s
    · unfold State.startNotices
      split
      · split <;> exact .of_eq rfl
      · unfold State.serveReporting
        split
        · split
          · exact State.queueClosed_stands _ _
          · exact .of_eq rfl
        · exact .of_eq rfl
      · exact .of_eq rfl
      · exact .of_eq rfl

theorem State.kick_conserves (s : State) : Conserves s s.kick :=
  .of_sheds s.kick_sheds (by simp) (by simp) (by simp) s.kick_stands

/-- A frame queued by a change of the ring or the management alone, and the next frame chosen. -/
theorem Conserves.kick {s t : State} (h : Carries s t) : Conserves s t.kick := h.conserves.trans t.kick_conserves

theorem State.report_conserves (s : State) (n : Report) : Conserves s (s.report n) := by
  unfold State.report
  split
  · exact .kick (.of_eq rfl rfl)
  · exact .of_eq rfl rfl

theorem State.respond_conserves (s : State) (x : Response) : Conserves s (s.respond x) :=
  .kick (t := { s with ring.responses := s.ring.responses ++ [x] }) (.of_eq rfl rfl)

theorem State.enqueueTransit_conserves (s : State) (bytes : List Byte) : Conserves s (s.enqueueTransit bytes) := by
  unfold State.enqueueTransit
  split
  · exact .kick (.of_eq rfl rfl)
  · exact .of_eq rfl rfl

theorem State.placeReference_conserves (s : State) (k : Station) (p : ReferencePart) :
    Conserves s (s.placeReference k p) := by
  unfold State.placeReference
  exact .kick (.of_eq rfl rfl)

/-- A command queued changes of the entries and of the releases no more than what a release awaits. -/
theorem State.queueCommand_entry (s : State) (k : Station) (c : CommandKind) (i : EventIx) :
    (s.queueCommand k c).entry i = s.entry i := by
  obtain ⟨r, v, x, h⟩ := s.queueCommand_only k c
  rw [h]
  rfl

theorem State.queueCommand_release (s : State) (k : Station) (c : CommandKind) (r : ReleaseIx) :
    (s.queueCommand k c).release r = (s.release r).map (Release.awaitOn k (s.view k).takenSequence) := by
  rw [← State.commanded_release s k c r, State.queueCommand_eq]
  split
  · obtain ⟨x, v, h⟩ := (s.commanded k c).placeCommand_only k ⟨(s.view k).takenSequence, c⟩
    rw [h]
    rfl
  · rfl

theorem State.queueCommand_stands (s : State) (k : Station) (c : CommandKind) : Stands s (s.queueCommand k c) :=
  .of_map (fun x => by unfold Release.awaitOn; split <;> rfl) (s.queueCommand_release k c)

theorem State.queueCommand_carries (s : State) (k : Station) (c : CommandKind) : Carries s (s.queueCommand k c) :=
  .of_amounts (by simp) (s.queueCommand_entry k c) (by simp) (by simp) (s.queueCommand_stands k c).amountOf

theorem State.placeHeld_carries (s : State) (k : Station) : Carries s (s.placeHeld k) := by
  unfold State.placeHeld
  split
  · split
    · next c _ _ =>
      obtain ⟨x, v, h⟩ := s.placeCommand_only k c
      rw [h]
      exact .of_eq rfl rfl
    · exact .refl s
  · exact .refl s

theorem State.forgetDrawing_carries (s : State) (i : EventIx) : Carries s (s.forgetDrawing i) := by
  unfold State.forgetDrawing
  exact .of_eq rfl rfl

/-- An event enters REPORTING with nothing left (R44). -/
theorem State.enterReporting_conserves {s : State} {i : EventIx} (h : ∀ e, s.entry i = some e → e.unspent = 0) :
    Conserves s (s.enterReporting i) := by
  have hm : Carries s ((s.modEvent i fun e => { e with state := .reporting }).forgetDrawing i) :=
    (State.forgetDrawing_carries _ i).after (State.modEvent_carries (fun e he =>
      ⟨fun x => x.congr rfl rfl rfl rfl, fun _ _ => h e he, fun _ x => x⟩) fun _ _ => rfl)
  unfold State.enterReporting
  dsimp only
  split
  · refine hm.conserves.trans (.trans ?_ (State.kick_conserves _))
    refine .of_sheds (State.queueClosed_sheds fun e he => ?_) (by simp) (by simp) (by simp) (State.queueClosed_stands _ i)
    rw [State.entry_congr (s := s.modEvent i fun e => { e with state := .reporting }) (by simp) i,
      State.entry_modEvent, if_pos rfl, Option.map_eq_some_iff] at he
    obtain ⟨e', -, rfl⟩ := he
    rfl
  · exact hm.conserves

/-! ## The Capture Unit -/

theorem State.halfTest_conserves (s : State) (k : CaptureIx) (a : Nat) : Conserves s (s.halfTest k a) := by
  unfold State.halfTest
  dsimp only
  split
  · exact (State.report_conserves _ _).after (.of_eq rfl rfl)
  · exact .refl s

theorem State.endTest_conserves (s : State) (k : CaptureIx) (a : Nat) : Conserves s (s.endTest k a) := by
  unfold State.endTest
  dsimp only
  split
  · exact (State.report_conserves _ _).after (.of_eq rfl rfl)
  · exact .refl s

theorem State.writeRecord_conserves (s : State) (k : CaptureIx) (kind : RecordKind) (f : AcceptedFrame) :
    Conserves s (s.writeRecord k kind f) := by
  unfold State.writeRecord
  exact (State.endTest_conserves _ _ _).after ((State.halfTest_conserves _ _ _).after (.of_eq rfl rfl))

theorem State.modRecorder_carries (s : State) (k : CaptureIx) (f : CaptureChannel → CaptureChannel) :
    Carries s (s.modRecorder k f) := .of_eq rfl rfl

theorem State.sampleOn_conserves (s : State) (f : AcceptedFrame) (k : CaptureIx) : Conserves s (s.sampleOn f k) := by
  unfold State.sampleOn
  dsimp only
  split
  · refine (State.modRecorder_carries _ _ _).conserves.after ?_
    split
    · exact s.writeRecord_conserves _ _ _
    · exact .refl s
  · exact .refl s

theorem State.captureTakes_conserves (s : State) (f : AcceptedFrame) : Conserves s (s.captureTakes f) :=
  .foldl (fun s k => s.sampleOn_conserves f k) _ s

theorem State.captureCaughtUp_conserves (s : State) (b : Bus) : Conserves s (s.captureCaughtUp b) := by
  unfold State.captureCaughtUp
  exact (Conserves.foldl State.captureTakes_conserves _ _).after (.of_eq rfl rfl)

theorem State.truncatePass_carries (s : State) (k : CaptureIx) : Carries s (s.truncatePass k) := by
  unfold State.truncatePass
  split
  · split
    · exact .refl s
    · exact s.addMark_carries _ _
  · exact .refl s

theorem State.attachRecorder_conserves (s : State) (k : CaptureIx) (i : EventIx) (f : AcceptedFrame) :
    Conserves s (s.attachRecorder k i f) := by
  unfold State.attachRecorder
  refine (State.modRecorder_carries _ _ _).conserves.after ((State.writeRecord_conserves _ _ _ _).after ?_)
  exact Carries.conserves (Carries.after (State.modEvent_carries (fun _ _ => .of_eq rfl rfl rfl rfl rfl rfl) fun _ _ => rfl)
    (s.modRecorder_carries k _))

theorem State.captureOpening_conserves (s : State) (i : EventIx) (choice : Option CaptureIx) (f : AcceptedFrame) :
    Conserves s (s.captureOpening i choice f) := by
  unfold State.captureOpening
  split
  · exact .refl s
  · split
    · exact (s.addMark_carries _ _).conserves
    · refine (State.attachRecorder_conserves _ _ _ _).after (Conserves.trans (s.captureCaughtUp_conserves f.bus) ?_)
      split
      · exact (State.truncatePass_carries _ _).conserves
      · exact .refl _

theorem State.captureEnded_carries (s : State) (i : EventIx) : Carries s (s.captureEnded i) := by
  unfold State.captureEnded
  exact .of_eq rfl rfl

/-! ## Free, and an event's way off its protected path -/

theorem State.duePass_carries (s : State) : Carries s s.duePass := .of_pool rfl rfl rfl rfl rfl

theorem State.dropRequest_carries (s : State) (i : EventIx) : Carries s (s.dropRequest i) := .of_pool rfl rfl rfl rfl rfl

theorem Event.continues_giveUp (e : Event) : e.Continues e.giveUp :=
  ⟨Event.Accounted.giveUp, fun _ _ => e.giveUp_unspent, fun _ => id⟩

theorem State.giveToFree_carries (s : State) (i : EventIx) : Carries s (s.giveToFree i) := by
  unfold State.giveToFree
  split
  · exact .refl s
  · next e he =>
    refine .of_one he (e' := e.giveUp) (State.entry_setEntry s i i _ |>.trans (if_pos rfl))
      (fun j hj => (State.entry_setEntry s i j _).trans (if_neg hj.symm)) e.continues_giveUp rfl (fun _ => e.giveUp_unspent) ?_
    have hsum : ((s.setEntry i (some e.giveUp)).addFree e.unspent).releaseSum = s.releaseSum := rfl
    rw [hsum, e.giveUp_unspent]
    simp only [State.addFree, (s.setEntry_frame i _)]
    omega

/-- Once the event's unspent is in Free it has none. -/
theorem State.giveToFree_spent {s : State} {i : EventIx} {e : Event} (h : (s.giveToFree i).entry i = some e) :
    e.unspent = 0 := by
  unfold State.giveToFree at h
  split at h
  · next hn => rw [hn] at h; cases h
  · next e' he' =>
    have := (State.entry_setEntry s i i (some e'.giveUp)).symm.trans h
    rw [if_pos rfl] at this
    cases this
    exact e'.giveUp_unspent

theorem firstOutcome_keeps {present : Option EventOutcome} {cause o : EventOutcome} (h : present = some o) :
    firstOutcome present cause = some o := by
  simp [firstOutcome, h]

theorem State.leavePath_carries (s : State) (i : EventIx) (cause : EventOutcome) : Carries s (s.leavePath i cause) :=
  Carries.after (State.modEvent_carries (fun _ _ => ⟨fun x => x.congr rfl rfl rfl rfl, fun _ x => by simp at x,
    fun _ x => firstOutcome_keeps x⟩) fun _ _ => rfl) (s.dropRequest_carries i)

theorem State.bypassIdle_carries (s : State) (i : EventIx) (cause : EventOutcome) : Carries s (s.bypassIdle i cause) :=
  (s.leavePath_carries i cause).trans (State.giveToFree_carries _ i)

theorem State.modRecord_carries (s : State) (k : Station) (f : StackRecord → StackRecord) : Carries s (s.modRecord k f) :=
  .of_eq rfl rfl

theorem State.enterInjecting_carries (s : State) (i : EventIx) : Carries s (s.enterInjecting i) := by
  unfold State.enterInjecting
  split
  · exact .refl s
  · next e he =>
    exact (State.queueCommand_carries _ _ _).after ((State.modRecord_carries _ _ _).after
      (State.setEntry_carries he ⟨fun x => x.congr rfl rfl rfl rfl, fun _ x => by simp at x, fun _ x => x⟩ rfl))

theorem State.leaveHeld_carries (s : State) (i : EventIx) : Carries s (s.leaveHeld i) := by
  unfold State.leaveHeld
  split
  · exact .refl s
  · split
    · split
      · exact s.bypassIdle_carries i _
      · split
        · exact (s.addMark_carries i _).trans (State.bypassIdle_carries _ i _)
        · exact s.enterInjecting_carries i
    · exact .refl s

theorem State.freeOfStack_carries (k : Station) (s : State) (i : EventIx) : Carries s (State.freeOfStack k s i) := by
  unfold State.freeOfStack
  split
  · exact .refl s
  · next e he =>
    split
    · exact (State.leaveHeld_carries _ i).after (State.setEntry_carries he (.of_eq rfl rfl rfl rfl rfl rfl) rfl)
    · exact .refl s

theorem State.availabilityCheck_carries (s : State) (k : Station) : Carries s (s.availabilityCheck k) :=
  .foldl (State.freeOfStack_carries k) _ s

/-! ## The Release Map across the ways off the protected path -/

theorem State.modEvent_stands (s : State) (i : EventIx) (f : Event → Event) : Stands s (s.modEvent i f) :=
  .of_eq (by simp)

theorem State.enterInjecting_stands (s : State) (i : EventIx) : Stands s (s.enterInjecting i) := by
  unfold State.enterInjecting
  split
  · exact .refl s
  · exact (State.queueCommand_stands _ _ _).after (.of_eq rfl)

theorem State.giveToFree_stands (s : State) (i : EventIx) : Stands s (s.giveToFree i) := .of_eq (by simp)

theorem State.leavePath_stands (s : State) (i : EventIx) (cause : EventOutcome) : Stands s (s.leavePath i cause) :=
  .of_eq (by simp)

theorem State.leaveHeld_stands (s : State) (i : EventIx) : Stands s (s.leaveHeld i) := by
  unfold State.leaveHeld
  split
  · exact .refl s
  · split
    · split
      · exact .of_eq (by simp)
      · split
        · exact .of_eq (by simp)
        · exact s.enterInjecting_stands i
    · exact .refl s

theorem State.freeOfStack_stands (k : Station) (s : State) (i : EventIx) : Stands s (State.freeOfStack k s i) := by
  unfold State.freeOfStack
  split
  · exact .refl s
  · split
    · exact (State.leaveHeld_stands _ i).after (.of_eq rfl)
    · exact .refl s

theorem State.availabilityCheck_stands (s : State) (k : Station) : Stands s (s.availabilityCheck k) :=
  .foldl (State.freeOfStack_stands k) _ s

end Sys2Proof.Machine
end

section
/-! SUPPORT. The energy accounts and the outcomes across the life of a release, the waits, the disposal and BYPASSED (R37, R42, R90 to
R98). -/

namespace Sys2Proof.Machine

/-! ## Payment (R97) -/

/-- An entry whose grant and accumulator may have grown: D takes what it has spent the more, so that the balance grows by the
grant's growth. -/
theorem State.putRecounted_funds {s : State} {i : EventIx} {e e' : Event} (he : s.entry i = some e) (ha : e.Accounted)
    (hs : e'.spent = e.spent) (hacc : e.accumulator ≤ e'.accumulator) (hg : e.grant ≤ e'.grant) :
    (s.putRecounted i e').funds + e.grant = s.funds + e'.grant := by
  have hsum := State.unspentSum_exchange (s := s) (t := s.putRecounted i e') i fun j hj => by
    rw [State.entry_putRecounted, if_neg hj.symm]
  rw [State.unspentOf_some he, State.unspentOf_some ((s.entry_putRecounted i i e').trans (if_pos rfl))] at hsum
  have hrel : (s.putRecounted i e').releaseSum = s.releaseSum := rfl
  have hspent := ha.spent
  have hdiv : e.accumulator / 1000000000 ≤ e'.accumulator / 1000000000 := Nat.div_le_div_right hacc
  have hrec : e'.recount.spent = min (e'.accumulator / 1000000000) e'.grant := rfl
  have hun : e'.recount.unspent = e'.grant - e'.recount.spent := rfl
  rw [Event.unspent, hun] at hsum
  have hd : (s.putRecounted i e').pool.drawn = s.pool.drawn + (e'.recount.spent - e'.spent) := rfl
  have hf : (s.putRecounted i e').pool.free = s.pool.free := rfl
  simp only [State.funds, hrel, hd, hf]
  omega

/-- How a payment leaves an entry: accounted for, with its outcome, and untouched unless a claim is of its event. -/
structure Event.PaidTo (claimed : Prop) (e e' : Event) : Prop where
  accounted : e.Accounted → e'.Accounted
  outcome : ∀ o, e.outcome = some o → e'.outcome = some o
  other : ¬ claimed → e' = e

/-- What a release's payment does to a state and to what remains of the release. -/
structure Pays (claims : List ReleaseClaim) (x y : State × Nat) : Prop where
  budget : y.1.pool.budget = x.1.pool.budget
  releases : y.1.pool.releases = x.1.pool.releases
  entry : ∀ i e', y.1.entry i = some e' → ∃ e, x.1.entry i = some e ∧ e.PaidTo (∃ c ∈ claims, c.event = i) e'
  funds : x.1.Accounted → y.1.funds + y.2 = x.1.funds + x.2

theorem Pays.accounted {claims : List ReleaseClaim} {x y : State × Nat} (h : Pays claims x y) (hx : x.1.Accounted) :
    y.1.Accounted := fun i e' he' => by
  obtain ⟨e, he, hp⟩ := h.entry i e' he'
  exact hp.accounted (hx i e he)

theorem payClaim_pays (r : ReleaseIx) (x : State × Nat) (c : ReleaseClaim) : Pays [c] x (payClaim r x c) := by
  unfold payClaim
  split
  · exact ⟨rfl, rfl, fun i e he => ⟨e, he, id, fun _ => id, fun _ => rfl⟩, fun _ => rfl⟩
  · next e he =>
    refine ⟨rfl, rfl, fun i e' he' => ?_, fun ha => ?_⟩
    · rw [State.entry_putRecounted] at he'
      split at he'
      · next hi =>
        subst hi
        cases he'
        exact ⟨e, he, fun ha => Event.recount_accounted ha.bounded, fun _ => id, fun hn => absurd ⟨c, by simp⟩ hn⟩
      · exact ⟨e', he', id, fun _ => id, fun _ => rfl⟩
    · have hput := State.putRecounted_funds
        (e' := { e with
          grant := e.grant + min c.amount x.2, claims := e.claims.filter fun y => decide (y.release ≠ r) })
        he (ha _ e he) rfl le_rfl (Nat.le_add_right _ _)
      dsimp only at hput ⊢
      omega

theorem foldl_payClaim_pays (r : ReleaseIx) (l : List ReleaseClaim) (x : State × Nat) :
    Pays l x (l.foldl (payClaim r) x) := by
  induction l generalizing x with
  | nil => exact ⟨rfl, rfl, fun i e he => ⟨e, he, id, fun _ => id, fun _ => rfl⟩, fun _ => rfl⟩
  | cons c l ih =>
    have h := payClaim_pays r x c
    have k := ih (payClaim r x c)
    refine ⟨k.budget.trans h.budget, k.releases.trans h.releases, fun i e'' he'' => ?_, fun ha => ?_⟩
    · obtain ⟨e', he', hk⟩ := k.entry i e'' he''
      obtain ⟨e, he, hh⟩ := h.entry i e' he'
      refine ⟨e, he, fun x => hk.accounted (hh.accounted x), fun o x => hk.outcome o (hh.outcome o x), fun hn => ?_⟩
      rw [hk.other fun ⟨d, hd, hi⟩ => hn ⟨d, List.mem_cons_of_mem _ hd, hi⟩]
      exact hh.other fun ⟨d, hd, hi⟩ => hn ⟨d, by simpa using List.mem_singleton.1 hd ▸ .inl rfl, hi⟩
    · exact (k.funds (h.accounted ha)).trans (h.funds ha)

/-- A held release paid out: the balance stands, and the entries but those of its claims are as they were. -/
theorem State.payOut_pays {s : State} {r : ReleaseIx} {x : Release} (hr : s.release r = some x) :
    (s.payOut r x).pool.budget = s.pool.budget ∧
    (∀ i e', (s.payOut r x).entry i = some e' → ∃ e, s.entry i = some e ∧ e.PaidTo (∃ c ∈ x.claims, c.event = i) e') ∧
    (s.Accounted → (s.payOut r x).funds = s.funds) := by
  have h := foldl_payClaim_pays r x.claims (s, x.amount)
  unfold State.payOut
  generalize x.claims.foldl (payClaim r) (s, x.amount) = y at h ⊢
  refine ⟨h.budget, h.entry, fun ha => ?_⟩
  have hfunds := h.funds ha
  have hrel : y.1.amountOf r = x.amount := ((Stands.of_eq h.releases).amountOf r).trans (State.amountOf_some hr)
  have hsum := State.releaseSum_exchange (s := y.1) (t := y.1.setRelease r none) r fun q hq => by
    simp [State.amountOf, hq.symm]
  rw [hrel, State.amountOf_none (s := y.1.setRelease r none) (by simp)] at hsum
  have hu : (y.1.setRelease r none).unspentSum = y.1.unspentSum := rfl
  have ht : (((y.1.setRelease r none).addFree y.2).duePass).funds =
      y.1.pool.free + y.2 + (y.1.setRelease r none).unspentSum + (y.1.setRelease r none).releaseSum + y.1.pool.drawn := rfl
  simp only [ht, hu]
  simp only [State.funds] at hfunds ⊢
  omega

/-- A release without claims goes to Free whole. -/
theorem State.payOut_unclaimed (s : State) (r : ReleaseIx) {x : Release} (h : x.claims = []) :
    s.payOut r x = ((s.setRelease r none).addFree x.amount).duePass := by
  rw [State.payOut, h]
  rfl

theorem State.payOut_carries {s : State} {r : ReleaseIx} {x : Release} (hr : s.release r = some x) (hc : x.claims = []) :
    Carries s (s.payOut r x) where
  budget := (State.payOut_pays hr).1
  follows := by rw [s.payOut_unclaimed r hc]; exact .of_entry fun _ => rfl
  spent := by
    rw [s.payOut_unclaimed r hc]
    exact (Carries.refl s).spent
  funds := (State.payOut_pays hr).2.2

/-! ## Creation (R90) -/

theorem State.putNewRelease_release (s : State) (i : EventIx) (r q : ReleaseIx) (e : Event) :
    (s.putNewRelease i r e).release q =
      if r = q then some (e.releaseFor i (s.view e.copy.stack) s.pool.creationCounter) else s.release q :=
  State.release_setRelease s r q _

theorem State.putNewRelease_entry (s : State) (i j : EventIx) (r : ReleaseIx) (e : Event) :
    (s.putNewRelease i r e).entry j =
      if i = j then some { e.giveUp with releaseCreated := true, releaseWait := none } else s.entry j :=
  State.entry_setEntry s i j _

theorem State.putNewRelease_carries {s : State} {i : EventIx} {r : ReleaseIx} {e : Event} (he : s.entry i = some e)
    (hr : s.release r = none) : Carries s (s.putNewRelease i r e) := by
  have hself := (s.putNewRelease_entry i i r e).trans (if_pos rfl)
  refine .of_one he hself (fun j hj => (s.putNewRelease_entry i j r e).trans (if_neg hj.symm))
    (e.continues_giveUp.trans (.of_eq rfl rfl rfl rfl rfl rfl)) rfl (fun _ => Nat.sub_self _) ?_
  have hsum := State.releaseSum_exchange (s := s) (t := s.putNewRelease i r e) r fun q hq => by
    simp [State.amountOf, s.putNewRelease_release, hq.symm]
  rw [State.amountOf_none hr, State.amountOf_some ((s.putNewRelease_release i r r e).trans (if_pos rfl))] at hsum
  have hf : (s.putNewRelease i r e).pool.free = s.pool.free := rfl
  have hd : (s.putNewRelease i r e).pool.drawn = s.pool.drawn := rfl
  have hu : Event.unspent { e.giveUp with releaseCreated := true, releaseWait := none } = 0 := Nat.sub_self _
  have ha : (e.releaseFor i (s.view e.copy.stack) s.pool.creationCounter).amount = e.unspent := rfl
  rw [hf, hd, hu]
  omega

/-- RELEASE queued for a stack that must yet be told to stop (R90). -/
def State.toldToStop (s : State) (e : Event) : State :=
  if e.needsRelease then s.queueCommand e.copy.stack .release else s

theorem State.toldToStop_entry (s : State) (e : Event) (i : EventIx) : (s.toldToStop e).entry i = s.entry i := by
  unfold State.toldToStop
  split
  · exact s.queueCommand_entry _ _ i
  · rfl

/-- A release created, by its steps: RELEASE where it is due, the entry written, and the confirmation of a quiescent stack's. -/
theorem State.newRelease_eq {s : State} {i : EventIx} {e : Event} (he : s.entry i = some e) (r : ReleaseIx) :
    s.newRelease i r =
      let told := s.toldToStop e
      let made := e.releaseFor i (told.view e.copy.stack) told.pool.creationCounter
      let put := told.putNewRelease i r e
      if made.state = .pending ∧ (put.view made.stack).quiescentAt made.awaited then
        (put.payOut r made).availabilityCheck made.stack
      else put := by
  have he' := (s.toldToStop_entry e i).trans he
  have hr := ((s.toldToStop e).putNewRelease_release i r r e).trans (if_pos rfl)
  unfold State.toldToStop at he' hr ⊢
  simp only [State.newRelease, he, he', hr]

theorem State.toldToStop_stands (s : State) (e : Event) : Stands s (s.toldToStop e) := by
  unfold State.toldToStop
  split
  · exact s.queueCommand_stands _ _
  · exact .refl s

theorem State.toldToStop_carries (s : State) (e : Event) : Carries s (s.toldToStop e) := by
  unfold State.toldToStop
  split
  · exact s.queueCommand_carries _ _
  · exact .refl s

/-- A release created in a free entry. -/
theorem State.newRelease_carries (s : State) (i : EventIx) {r : ReleaseIx} (hr : s.release r = none) :
    Carries s (s.newRelease i r) := by
  cases he : s.entry i with
  | none => simp only [State.newRelease, he]; exact .refl s
  | some e =>
    have hput : Carries s ((s.toldToStop e).putNewRelease i r e) :=
      (s.toldToStop_carries e).trans
        (State.putNewRelease_carries ((s.toldToStop_entry e i).trans he) ((s.toldToStop_stands e).vacant hr))
    rw [State.newRelease_eq he]
    dsimp only
    split
    · exact hput.trans ((State.payOut_carries (((s.toldToStop e).putNewRelease_release i r r e).trans (if_pos rfl)) rfl).trans
        (State.availabilityCheck_carries _ _))
    · exact hput

/-- The event of a new release has nothing left. -/
theorem State.newRelease_spent {s : State} {i : EventIx} {r : ReleaseIx} {e' : Event}
    (h : (s.newRelease i r).entry i = some e') : e'.unspent = 0 := by
  cases he : s.entry i with
  | none => simp [State.newRelease, he] at h
  | some e =>
    have hput := ((s.toldToStop e).putNewRelease_entry i i r e).trans (if_pos rfl)
    have hspent : Event.unspent { e.giveUp with releaseCreated := true, releaseWait := none } = 0 := Nat.sub_self _
    rw [State.newRelease_eq he] at h
    dsimp only at h
    split at h
    · refine (State.availabilityCheck_carries _ _).spent i _ _ ?_ hspent h
      rw [State.payOut_unclaimed _ _ rfl]
      exact hput
    · rw [hput] at h
      exact Option.some.inj h ▸ hspent

/-! ## Waits (R92) -/

theorem State.afterWait_conserves {s : State} {i : EventIx} (h : ∀ e, s.entry i = some e → e.unspent = 0) :
    Conserves s (s.afterWait i) := by
  unfold State.afterWait
  split
  · exact .refl s
  · refine Conserves.trans ?_ (State.availabilityCheck_carries _ _).conserves
    split
    · exact State.enterReporting_conserves h
    · exact .refl s

theorem State.endSpentWait_conserves (s : State) (i : EventIx) : Conserves s (s.endSpentWait i) := by
  unfold State.endSpentWait
  split
  · exact .refl s
  · next e he =>
    split
    · next hw =>
      unfold State.endWait
      refine Conserves.after (State.afterWait_conserves fun e' he' => ?_)
        (Carries.conserves (State.modEvent_carries (fun _ _ => .of_eq rfl rfl rfl rfl rfl rfl) fun _ _ => rfl))
      rw [State.entry_modEvent, if_pos rfl, he] at he'
      cases he'
      exact hw.2
    · exact .refl s

theorem State.freeRelease_vacant {s : State} {r : ReleaseIx} (h : s.freeRelease = some r) : s.release r = none := by
  simpa using List.find?_some h

theorem State.offer_conserves (n : Nat) (s : State) : Conserves s (State.offer n s) := by
  induction n generalizing s with
  | zero => exact .refl s
  | succ n ih =>
    unfold State.offer
    split
    · next r i hr _ =>
      exact ((s.newRelease_carries i (State.freeRelease_vacant hr)).conserves.trans
        (State.afterWait_conserves fun _ => State.newRelease_spent)).trans (ih _)
    · exact .refl s

theorem State.addAlarm_carries (s : State) (b : Bus) (a : BusAlarm) : Carries s (s.addAlarm b a) := .of_eq rfl rfl

/-- An event's entry when it has begun to wait (R42, R92). -/
def Event.waiting (now order : Nat) (e : Event) : Event :=
  { e with releaseWait := some ⟨now, order⟩, releaseQueued := e.releaseQueued || decide (e.stackOrder = .inject) }

/-- A wait begun, before the stack is told to stop. -/
def State.waitBegun (s : State) (i : EventIx) (e : Event) : State :=
  State.addAlarm { s.setEntry i (some (e.waiting s.now s.events.waitCounter)) with
    events.waitCounter := s.events.waitCounter + 1 } e.bus .releaseWait

theorem State.beginWait_eq {s : State} {i : EventIx} {e : Event} (he : s.entry i = some e) :
    s.beginWait i = if e.stackOrder = .inject then (s.waitBegun i e).queueCommand e.copy.stack .release
      else s.waitBegun i e := by
  simp only [State.beginWait, he]
  rfl

theorem State.waitBegun_entry (s : State) (i j : EventIx) (e : Event) :
    (s.waitBegun i e).entry j = if i = j then some (e.waiting s.now s.events.waitCounter) else s.entry j :=
  State.entry_setEntry s i j _

theorem State.beginWait_entry {s : State} {i : EventIx} {e : Event} (he : s.entry i = some e) (j : EventIx) :
    (s.beginWait i).entry j = if i = j then some (e.waiting s.now s.events.waitCounter) else s.entry j := by
  rw [State.beginWait_eq he, ← s.waitBegun_entry i j e]
  split
  · exact State.queueCommand_entry _ _ _ j
  · rfl

theorem State.beginWait_carries (s : State) (i : EventIx) : Carries s (s.beginWait i) := by
  cases he : s.entry i with
  | none => simp only [State.beginWait, he]; exact .refl s
  | some e =>
    have hw : Carries s (s.waitBegun i e) := (State.addAlarm_carries _ _ _).after
      (Carries.after (t := s.setEntry i _) (.of_eq rfl rfl)
        (State.setEntry_carries he (.of_eq rfl rfl rfl rfl rfl rfl) rfl))
    rw [State.beginWait_eq he]
    split
    · exact hw.trans (State.queueCommand_carries _ _ _)
    · exact hw

/-! ## Disposal and BYPASSED (R37, R42) -/

theorem State.dispose_carries (s : State) (i : EventIx) : Carries s (s.dispose i) := by
  unfold State.dispose
  split
  · exact .refl s
  · split
    · exact .refl s
    · split
      · exact s.giveToFree_carries i
      · split
        · next r hr => exact s.newRelease_carries i (State.freeRelease_vacant hr)
        · exact s.beginWait_carries i

/-- After the disposal the event waits for a release entry, or has nothing left. -/
theorem State.dispose_spent {s : State} {i : EventIx} {e : Event} (h : (s.dispose i).entry i = some e)
    (hw : e.releaseWait = none) : e.unspent = 0 := by
  unfold State.dispose at h
  split at h
  · next hn => simp [hn] at h
  · next e0 he =>
    split at h
    · next hd =>
      rw [he] at h
      cases h
      exact hd.resolve_right (by simp [hw])
    · split at h
      · exact State.giveToFree_spent h
      · split at h
        · exact State.newRelease_spent h
        · rw [State.beginWait_entry he, if_pos rfl] at h
          cases h
          simp [Event.waiting] at hw

theorem State.bypass_carries (s : State) (i : EventIx) (cause : EventOutcome) (commanded : Bool) :
    Carries s (s.bypass i cause commanded) := by
  refine (s.leavePath_carries i cause).trans ?_
  unfold State.bypass
  dsimp only
  split
  · exact .refl _
  · next e he =>
    split
    · refine Carries.trans (State.setEntry_carries (e' := { e with stackOrder := .bypass }) he
        (.of_eq rfl rfl rfl rfl rfl rfl) rfl) (Carries.trans ?_ (State.dispose_carries _ _))
      split
      · exact .refl _
      · exact State.queueCommand_carries _ _ _
    · exact State.dispose_carries _ _

/-! ## Confirmation and its consequences (R97, R98) -/

theorem State.settleBorrower_carries (s : State) (i : EventIx) : Carries s (s.settleBorrower i) := by
  unfold State.settleBorrower
  split
  · exact .refl s
  · next e he =>
    have hb : Carries s (if e.claims = [] then s.setEntry i (some { e with held.borrow := false }) else s) := by
      split
      · exact State.setEntry_carries he (.of_eq rfl rfl rfl rfl rfl rfl) rfl
      · exact .refl s
    dsimp only
    split
    · split
      · exact hb
      · exact hb.trans (State.giveToFree_carries _ _)
    · exact hb.trans (State.leaveHeld_carries _ _)

/-- A settled borrower in REPORTING has nothing left. -/
theorem State.settleBorrower_settled {s : State} {i : EventIx} {e' : Event} (h : (s.settleBorrower i).entry i = some e') :
    e'.Settled := by
  intro hr
  unfold State.settleBorrower at h
  split at h
  · next hn => simp [hn] at h
  · next e he =>
    dsimp only at h
    have hu : (if e.claims = [] then s.setEntry i (some { e with held.borrow := false }) else s).entry i = some e ∨
        (if e.claims = [] then s.setEntry i (some { e with held.borrow := false }) else s).entry i =
          some { e with held.borrow := false } := by
      split
      · exact .inr (by simp)
      · exact .inl he
    generalize (if e.claims = [] then s.setEntry i (some { e with held.borrow := false }) else s) = u at h hu
    split at h
    · split at h
      · next hw =>
        rcases hu with hu | hu <;> rw [hu] at h <;> cases h <;> exact absurd hr hw.2
      · exact State.giveToFree_spent h
    · next hs =>
      obtain ⟨x, hx, hb⟩ := (h ▸ (State.leaveHeld_firm u i).entry i).before
      have hxs : x.state = e.state := by
        rcases hu with hu | hu <;> rw [hu] at hx <;> cases hx <;> rfl
      have hopen : x.state.opens = true := by
        rw [hxs]
        revert hs
        cases e.state <;> simp [EventState.stopped, EventState.opens]
      rw [← hb.opens, hr] at hopen
      cases hopen

/-- The borrowers settled in turn: one in REPORTING has given up what it was paid. -/
theorem foldl_settleBorrower_settled {l : List ReleaseClaim} {i : EventIx} {s : State}
    (h : ∀ e, s.entry i = some e → (∃ c ∈ l, c.event = i) ∨ e.Settled) {e' : Event}
    (he' : (l.foldl (fun s c => s.settleBorrower c.event) s).entry i = some e') : e'.Settled := by
  induction l generalizing s with
  | nil => exact (h e' he').resolve_left (by simp)
  | cons c l ih =>
    refine ih (fun e1 he1 => ?_) he'
    obtain ⟨e, he, hc⟩ := (s.settleBorrower_carries c.event).follows i e1 he1
    rcases h e he with ⟨d, hd, hi⟩ | hs
    · rcases List.mem_cons.1 hd with rfl | hd
      · subst hi
        exact .inr (State.settleBorrower_settled he1)
      · exact .inl ⟨d, hd, hi⟩
    · exact .inr (hc.settled hs)

/-- A release paid out and its borrowers settled. -/
theorem State.payOut_conserves {s : State} {r : ReleaseIx} {x : Release} (hr : s.release r = some x) :
    Conserves s (x.claims.foldl (fun s c => s.settleBorrower c.event) (s.payOut r x)) := by
  obtain ⟨hb, he, hf⟩ := State.payOut_pays hr
  have hl : Carries (s.payOut r x) (x.claims.foldl (fun s c => s.settleBorrower c.event) (s.payOut r x)) :=
    .foldl (fun s (c : ReleaseClaim) => s.settleBorrower_carries c.event) _ _
  refine ⟨hl.budget.trans hb, fun i e'' he'' => ?_, fun ha _ => (hl.funds fun i e' he' => ?_).trans (hf ha)⟩
  · obtain ⟨e', he', hc⟩ := hl.follows i e'' he''
    obtain ⟨e, he, hp⟩ := he i e' he'
    refine ⟨e, he, fun h => hc.accounted (hp.accounted h), fun h => foldl_settleBorrower_settled (fun e1 he1 => ?_) he'',
      fun o h => hc.outcome o (hp.outcome o h)⟩
    rw [he'] at he1
    cases he1
    by_cases hclaimed : ∃ c ∈ x.claims, c.event = i
    · exact .inl hclaimed
    · exact .inr (hp.other hclaimed ▸ h)
  · obtain ⟨e, he, hp⟩ := he i e' he'
    exact hp.accounted (ha i e he)

theorem State.offerEntries_conserves (s : State) : Conserves s s.offerEntries := State.offer_conserves _ s

theorem State.confirmRelease_conserves (s : State) (r : ReleaseIx) : Conserves s (s.confirmRelease r) := by
  unfold State.confirmRelease
  split
  · exact .refl s
  · next x hx =>
    exact (State.duePass_carries _).conserves.after ((State.offerEntries_conserves _).after
      ((State.availabilityCheck_carries _ _).conserves.after (State.payOut_conserves hx)))

end Sys2Proof.Machine
end

section
/-! SUPPORT. The energy accounts and the outcomes across the Grant Queue (R70 to R85), an event's end (R43, R44), and the store's
expiry and commit. -/

namespace Sys2Proof.Machine

/-! ## Outcomes alone -/

/-- No entry is new, and each that is still held has kept its outcome (R38). -/
def Tells (s t : State) : Prop :=
  ∀ i e', t.entry i = some e' → ∃ e, s.entry i = some e ∧ ∀ o, e.outcome = some o → e'.outcome = some o

theorem Tells.refl (s : State) : Tells s s := fun _ e he => ⟨e, he, fun _ => id⟩

theorem Tells.trans {s t u : State} (h : Tells s t) (k : Tells t u) : Tells s u := fun i e'' he'' => by
  obtain ⟨e', he', hk⟩ := k i e'' he''
  obtain ⟨e, he, hh⟩ := h i e' he'
  exact ⟨e, he, fun o x => hk o (hh o x)⟩

theorem Follows.tells {s t : State} (h : Follows s t) : Tells s t := fun i e' he' => by
  obtain ⟨e, he, hc⟩ := h i e' he'
  exact ⟨e, he, hc.outcome⟩

theorem Carries.tells {s t : State} (h : Carries s t) : Tells s t := h.follows.tells

theorem Conserves.tells {s t : State} (h : Conserves s t) : Tells s t := h.follows.tells

/-! ## A request served (R76 to R78) -/

theorem State.modRelease_carries {s : State} {r : ReleaseIx} {f : Release → Release} (hf : ∀ x, (f x).amount = x.amount) :
    Carries s (s.modRelease r f) :=
  .of_amounts (by simp) (s.entry_modRelease r f) (by simp) (by simp) fun q => by
    by_cases h : r = q
    · exact State.amountOf_map hf ((s.release_modRelease r q f).trans (if_pos h))
    · exact State.amountOf_map (f := id) (fun _ => rfl) (by rw [s.release_modRelease r q f, if_neg h, Option.map_id_apply])

theorem State.growClaim_carries (s : State) (i : EventIx) (r : ReleaseIx) (n : Nat) : Carries s (s.growClaim i r n) := by
  unfold State.growClaim
  refine Carries.after (State.modRelease_carries fun _ => rfl) ?_
  exact State.modEvent_carries (fun _ _ => .of_eq rfl rfl rfl rfl rfl rfl) fun _ _ => rfl

theorem State.layClaims_carries (i : EventIx) (l : List (ReleaseIx × Nat)) (n : Nat) (s : State) :
    Carries s (State.layClaims i l n s) := by
  induction l generalizing n s with
  | nil => exact .refl s
  | cons x l ih =>
    unfold State.layClaims
    split
    · exact .refl s
    · exact (s.growClaim_carries _ _ _).trans (ih _ _)

theorem State.afterFirst_carries (s : State) (i : EventIx) (firm : Nat) : Carries s (s.afterFirst i firm) := by
  unfold State.afterFirst
  split
  · exact .refl s
  · next e he =>
    dsimp only
    split
    · exact s.enterInjecting_carries i
    · exact State.setEntry_carries he ⟨fun x => x.congr rfl rfl rfl rfl, fun _ x => by simp at x, fun _ x => x⟩ rfl

/-- A request gone and its firm part taken out of Free (R76). -/
def State.drawn (s : State) (q : GrantRequest) (firm : Nat) : State :=
  { s with
    pool.grantQueue := s.pool.grantQueue.filter fun r => decide (r.event ≠ q.event)
    pool.free := s.pool.free - firm }

theorem State.drawn_funds {s : State} {firm : Nat} (q : GrantRequest) (hf : firm ≤ s.pool.free) :
    (s.drawn q firm).funds + firm = s.funds := by
  have hsum : (s.drawn q firm).funds = s.pool.free - firm + s.unspentSum + s.releaseSum + s.pool.drawn := rfl
  rw [hsum, State.funds]
  omega

/-- The firm part of a request granted (R76). -/
def State.granted (s : State) (q : GrantRequest) (e : Event) (firm : Nat) : State :=
  (s.drawn q firm).putRecounted q.event { e with grant := e.grant + firm }

theorem State.granted_entry (s : State) (q : GrantRequest) (e : Event) (firm : Nat) (i : EventIx) :
    (s.granted q e firm).entry i =
      if q.event = i then some (Event.recount { e with grant := e.grant + firm }) else s.entry i :=
  State.entry_putRecounted _ _ _ _

theorem State.serve_after {s : State} {q : GrantRequest} {e : Event} (he : s.entry q.event = some e) (amount : Nat) :
    Carries (s.granted q e (min s.pool.free amount)) (s.serve q amount) := by
  have h := State.layClaims_carries q.event (s.openTo q.event) (amount - min s.pool.free amount)
    (s.granted q e (min s.pool.free amount))
  have he' : ({ s with pool.grantQueue := s.pool.grantQueue.filter fun r => decide (r.event ≠ q.event) } : State).entry
      q.event = some e := he
  unfold State.serve
  simp only [he']
  unfold State.granted State.drawn at h ⊢
  split
  · exact h.trans (State.afterFirst_carries _ _ _)
  · exact h

theorem State.serve_free {s : State} {q : GrantRequest} (he : s.entry q.event = none) (amount : Nat) :
    Carries s (s.serve q amount) := by
  have he' : ({ s with pool.grantQueue := s.pool.grantQueue.filter fun r => decide (r.event ≠ q.event) } : State).entry
      q.event = none := he
  unfold State.serve
  simp only [he']
  exact .of_pool rfl rfl rfl rfl rfl

theorem State.serve_tells (s : State) (q : GrantRequest) (amount : Nat) : Tells s (s.serve q amount) := by
  cases he : s.entry q.event with
  | none => exact (State.serve_free he amount).tells
  | some e =>
    refine Tells.trans (fun i e' he' => ?_) (State.serve_after he amount).tells
    rw [State.granted_entry] at he'
    split at he'
    · next hi =>
      subst hi
      cases he'
      exact ⟨e, he, fun _ => id⟩
    · exact ⟨e', he', fun _ => id⟩

theorem State.granted_conserves {s : State} {q : GrantRequest} {e : Event} (he : s.entry q.event = some e)
    (hr : e.state ≠ .reporting) {firm : Nat} (hf : firm ≤ s.pool.free) : Conserves s (s.granted q e firm) := by
  refine ⟨rfl, .of_one he ((s.granted_entry q e firm _).trans (if_pos rfl))
    (fun j hj => (s.granted_entry q e firm j).trans (if_neg hj.symm))
    ⟨fun h => Event.recount_accounted h.bounded, fun _ h => absurd h hr, fun _ => id⟩, fun ha _ => ?_⟩
  have h := State.putRecounted_funds (s := s.drawn q firm) (e' := { e with grant := e.grant + firm }) he (ha _ e he) rfl
    le_rfl (Nat.le_add_right _ _)
  have hu := State.drawn_funds q hf
  unfold State.granted
  dsimp only at h
  omega

theorem State.serve_conserves {s : State} {q : GrantRequest} (amount : Nat)
    (hr : ∀ e, s.entry q.event = some e → e.state ≠ .reporting) : Conserves s (s.serve q amount) := by
  cases he : s.entry q.event with
  | none => exact (State.serve_free he amount).conserves
  | some e => exact (State.granted_conserves he (hr e he) (min_le_left _ _)).trans (State.serve_after he amount).conserves

/-! ## Displacement (R80, R81) -/

theorem State.displaceVictim_carries (s : State) {v : EventIx × ReleaseIx} (hr : s.release v.2 = none) :
    Carries s (s.displaceVictim v) := by
  have hl : (s.leavePath v.1 .displaced).release v.2 = none := (s.leavePath_stands v.1 .displaced).vacant hr
  refine (s.leavePath_carries v.1 .displaced).trans ?_
  unfold State.displaceVictim
  dsimp only
  split
  · exact .refl _
  · next e he =>
    refine Carries.after (State.newRelease_carries _ _ ?_) ((State.queueCommand_carries _ _ _).after
      (State.setEntry_carries he (.of_eq rfl rfl rfl rfl rfl rfl) rfl))
    exact (State.queueCommand_stands _ _ _).vacant hl

/-- A new release fills no entry but its own. -/
theorem State.newRelease_vacant {s : State} {i : EventIx} {r q : ReleaseIx} (hq : q ≠ r) (h : s.release q = none) :
    (s.newRelease i r).release q = none := by
  cases he : s.entry i with
  | none => simpa only [State.newRelease, he] using h
  | some e =>
    have hput : ((s.toldToStop e).putNewRelease i r e).release q = none := by
      rw [State.putNewRelease_release, if_neg hq.symm]
      exact (s.toldToStop_stands e).vacant h
    rw [State.newRelease_eq he]
    dsimp only
    split
    · refine (State.availabilityCheck_stands _ _).vacant ?_
      rw [State.payOut_unclaimed _ _ rfl]
      exact (State.release_setRelease _ r q none).trans (by rw [if_neg hq.symm]; exact hput)
    · exact hput

theorem State.displaceVictim_vacant {s : State} {v : EventIx × ReleaseIx} {q : ReleaseIx} (hq : q ≠ v.2)
    (h : s.release q = none) : (s.displaceVictim v).release q = none := by
  have hl : (s.leavePath v.1 .displaced).release q = none := (s.leavePath_stands v.1 .displaced).vacant h
  unfold State.displaceVictim
  dsimp only
  split
  · exact hl
  · exact State.newRelease_vacant hq ((State.queueCommand_stands _ _ _).vacant hl)

/-- Victims displaced, each with a free entry of its own set aside. -/
theorem foldl_displaceVictim_carries (l : List (EventIx × ReleaseIx)) {s : State} (hn : (l.map (·.2)).Nodup)
    (hr : ∀ v ∈ l, s.release v.2 = none) : Carries s (l.foldl State.displaceVictim s) := by
  induction l generalizing s with
  | nil => exact .refl s
  | cons v l ih =>
    rw [List.map_cons, List.nodup_cons] at hn
    refine (s.displaceVictim_carries (hr v (by simp))).trans (ih hn.2 fun w hw => ?_)
    exact State.displaceVictim_vacant (fun h => hn.1 (h ▸ List.mem_map_of_mem hw)) (hr w (by simp [hw]))

/-- The entries set aside are among the free ones, in their order. -/
theorem State.chooseVictims_entries (s : State) (goal sum slots : Nat) (free : List ReleaseIx) (l : List EventIx) :
    ((s.chooseVictims goal sum slots free l).1.map (·.2)).Sublist free := by
  induction l generalizing sum slots free with
  | nil => simp [State.chooseVictims]
  | cons i l ih =>
    unfold State.chooseVictims
    split
    · simp
    · split
      · exact (ih _ _ _).cons_cons _
      · simp

/-- The victims of a displacement displaced (R81). -/
theorem State.displaced_carries (s : State) (goal sum slots : Nat) (l : List EventIx) :
    Carries s ((s.chooseVictims goal sum slots (allReleases.filter fun r => (s.release r).isNone) l).1.foldl
      State.displaceVictim s) := by
  have h := s.chooseVictims_entries goal sum slots (allReleases.filter fun r => (s.release r).isNone) l
  refine foldl_displaceVictim_carries _ (h.nodup ((List.nodup_finRange 16).filter _)) fun v hv => ?_
  have hm := h.subset (List.mem_map_of_mem hv)
  simpa using (List.mem_filter.1 hm).2

/-! ## The service pass (R75) -/

theorem State.serveHead_tells {s t : State} {q : GrantRequest} (h : s.serveHead q = some t) : Tells s t := by
  unfold State.serveHead at h
  split at h
  · cases h; exact s.serve_tells q _
  · split at h
    · cases h; exact s.serve_tells q _
    · unfold State.serveByDisplacement at h
      dsimp only at h
      split at h
      · cases h; exact (s.displaced_carries _ _ _ _).tells.trans (State.serve_tells _ q _)
      · cases h

theorem State.pass_tells (n : Nat) (s : State) : Tells s (State.pass n s) := by
  induction n generalizing s with
  | zero => exact .refl s
  | succ n ih =>
    unfold State.pass
    split
    · exact .refl s
    · split
      · next t ht => exact (State.serveHead_tells ht).trans (ih t)
      · exact .refl s

theorem State.servicePass_tells (s : State) : Tells s s.servicePass := by
  unfold State.servicePass
  split
  · exact (Carries.of_pool (t := { s with pool.passDue := false }) rfl rfl rfl rfl rfl).tells.trans (State.pass_tells _ _)
  · exact .refl s

theorem EventState.ne_reporting_of_opens {x : EventState} (h : x.opens = true) : x ≠ .reporting := by
  rintro rfl
  cases h

theorem State.serveHead_conserves {s t : State} {q : GrantRequest} (hs : s.Owned) (hq : q ∈ s.pool.grantQueue)
    (h : s.serveHead q = some t) : Conserves s t := by
  obtain ⟨e, he, ho, -⟩ := hs q hq
  have hr : ∀ e', s.entry q.event = some e' → e'.state ≠ .reporting := fun e' he' => by
    rw [he] at he'
    exact Option.some.inj he' ▸ EventState.ne_reporting_of_opens ho
  unfold State.serveHead at h
  split at h
  · cases h; exact State.serve_conserves _ hr
  · split at h
    · cases h; exact State.serve_conserves _ hr
    · unfold State.serveByDisplacement at h
      dsimp only at h
      split at h
      · cases h
        have hfirm := foldl_displaceVictim_firm (s.chooseVictims q.amount (s.pool.free + borrowable (s.openTo q.event))
            (s.slotsLeft q.event) (allReleases.filter fun r => (s.release r).isNone) (s.candidates q.cls)).1 s
          fun v hv e' he' => by simp [State.candidates_state (State.chooseVictims_mem hv) e' he', EventState.opens]
        refine (s.displaced_carries _ _ _ _).conserves.trans (State.serve_conserves _ fun e'' he'' => ?_)
        obtain ⟨e', he', hb⟩ := (he ▸ hfirm.entry q.event).opens ho
        rw [he''] at he'
        cases he'
        exact EventState.ne_reporting_of_opens (hb.opens.trans ho)
      · cases h

theorem State.pass_conserves (n : Nat) {s : State} (hs : s.Owned) : Conserves s (State.pass n s) := by
  induction n generalizing s with
  | zero => exact .refl s
  | succ n ih =>
    unfold State.pass
    split
    · exact .refl s
    · next q rest hq =>
      have hm : q ∈ s.pool.grantQueue := hq ▸ List.mem_cons_self
      split
      · next t ht => exact (State.serveHead_conserves hs hm ht).trans (ih ((State.serveHead_quiet hs hm ht).owned hs))
      · exact .refl s

theorem State.servicePass_conserves {s : State} (hs : s.Owned) : Conserves s s.servicePass := by
  unfold State.servicePass
  split
  · exact (State.pass_conserves (s := { s with pool.passDue := false }) _ hs).after
      (Carries.conserves (.of_pool rfl rfl rfl rfl rfl))
  · exact .refl s

/-! ## The Grant Queue's other changes -/

theorem State.takeTopup_carries (s : State) (x : BroughtTopup) : Carries s (s.takeTopup x) := by
  unfold State.takeTopup
  split
  · exact .refl s
  · split
    · exact .of_pool rfl rfl rfl rfl rfl
    · exact .refl s

theorem State.firstExpires_carries (s : State) (i : EventIx) : Carries s (s.firstExpires i) := by
  unfold State.firstExpires
  split
  · exact s.bypass_carries _ _ _
  · exact .refl s

theorem State.topupExpires_carries (s : State) (i : EventIx) : Carries s (s.topupExpires i) := by
  unfold State.topupExpires
  split
  · exact (s.dropRequest_carries i).trans (State.addMark_carries _ _ _)
  · exact .refl s

/-! ## The end of an event (R43, R44) -/

theorem State.withdrawClaims_carries (s : State) (i : EventIx) : Carries s (s.withdrawClaims i) :=
  .of_amounts rfl (State.entry_congr rfl) rfl rfl fun r =>
    State.amountOf_map (f := Release.withdrawClaims i) (fun _ => rfl)
      (getElem_eachMember (Option.map (Release.withdrawClaims i)) s.pool.releases r)

theorem State.endStack_carries (s : State) (i : EventIx) (cause : EndCause) : Carries s (s.endStack i cause) := by
  unfold State.endStack
  split
  · exact .refl s
  · next e he =>
    split
    · have hb : Carries s ((s.setEntry i (some { e with stackOrder := .bypass })).queueCommand e.copy.stack .bypass) :=
        (State.queueCommand_carries _ _ _).after (State.setEntry_carries he (.of_eq rfl rfl rfl rfl rfl rfl) rfl)
      cases cause with
      | recovered =>
        dsimp only
        split
        · exact s.queueCommand_carries _ _
        · exact .refl s
      | downstreamFault => exact hb
      | lostSight => exact hb
      | withdrawn => exact hb
    · exact .refl s

theorem State.closeEvent_carries (s : State) (i : EventIx) : Carries s (s.closeEvent i) := by
  unfold State.closeEvent
  dsimp only
  refine (State.captureEnded_carries _ i).after (Carries.trans (t := s.modEvent i fun e =>
    { e with ladderStep := 3, state := .closing, closeOrder := some s.events.closeCounter })
    (State.modEvent_carries (fun _ _ => ?_) fun _ _ => rfl) (.of_eq rfl rfl))
  exact ⟨fun x => x.congr rfl rfl rfl rfl, fun _ x => by simp at x, fun _ x => x⟩

/-- A CLOSING event that has nothing left, or waits, settled. -/
theorem State.settleClosing_conserves {s : State} {i : EventIx}
    (h : ∀ e, s.entry i = some e → e.releaseWait = none → e.unspent = 0) : Conserves s (s.settleClosing i) := by
  unfold State.settleClosing
  split
  · exact .refl s
  · next e he =>
    split
    · next hc =>
      refine State.enterReporting_conserves fun e' he' => h e' he' ?_
      rw [he] at he'
      cases he'
      simpa using hc.2
    · exact .refl s

theorem State.endEvent_conserves (s : State) (i : EventIx) (cause : EndCause) : Conserves s (s.endEvent i cause) := by
  unfold State.endEvent
  refine (State.settleClosing_conserves fun e => State.dispose_spent).after ((State.dispose_carries _ i).conserves.after ?_)
  refine ((State.closeEvent_carries _ i).after ((State.endStack_carries _ i cause).after ?_)).conserves
  refine Carries.trans ((s.dropRequest_carries i).trans (State.withdrawClaims_carries _ i)) ?_
  exact State.modEvent_carries (fun e _ => ⟨fun x => x.congr rfl rfl rfl rfl, fun x => x,
    fun _ x => firstOutcome_keeps x⟩) fun _ _ => rfl

/-! ## The store's expiry and commit (R70, R106, R107) -/

theorem Event.continues_holdForStore (e : Event) : e.Continues e.holdForStore := by
  unfold Event.holdForStore
  split
  · exact .of_eq rfl rfl rfl rfl rfl rfl
  · exact .refl e

theorem Event.holdForStore_unspent (e : Event) : e.holdForStore.unspent = e.unspent := by
  unfold Event.holdForStore
  split <;> rfl

theorem State.holdForStore_conserves (s : State) : Conserves s s.holdForStore where
  budget := rfl
  follows := fun i e' he' => by
    rw [State.entry_holdForStore, Option.map_eq_some_iff] at he'
    obtain ⟨e, he, rfl⟩ := he'
    exact ⟨e, he, e.continues_holdForStore⟩
  funds := fun _ _ => by
    have hsum : s.holdForStore.unspentSum = s.unspentSum := State.unspentSum_congr fun i => by
      cases he : s.entry i with
      | none => simp [State.unspentOf, State.entry_holdForStore, he]
      | some e => simp [State.unspentOf, State.entry_holdForStore, he, e.holdForStore_unspent]
    have hrel : s.holdForStore.releaseSum = s.releaseSum := State.releaseSum_congr (Stands.amountOf (.of_eq rfl))
    rw [State.funds, State.funds, hsum, hrel]
    rfl

theorem State.storeExpires_conserves (s : State) : Conserves s s.storeExpires := by
  unfold State.storeExpires
  split
  · exact (State.report_conserves _ _).after ((State.holdForStore_conserves _).after
      (Carries.conserves (.of_pool rfl rfl rfl rfl rfl)))
  · exact .refl s

theorem State.storeCommitted_conserves (s : State) : Conserves s s.storeCommitted := by
  unfold State.storeCommitted
  split
  · exact (State.report_conserves _ _).after (Carries.conserves (.of_pool rfl rfl rfl rfl rfl))
  · exact .refl s

end Sys2Proof.Machine
end

section
/-! SUPPORT. Lists in order of a key, amounts taken from the members of a list in turn, and by these the shortfall cut (R104, R105). -/

namespace Sys2Proof.Machine

/-! ## Lists in order of a key -/

theorem insertByKey_perm {α : Type} (key : α → Nat) (x : α) (l : List α) : (insertByKey key x l).Perm (x :: l) := by
  induction l with
  | nil => exact .refl _
  | cons y l ih =>
    unfold insertByKey
    split
    · exact .refl _
    · exact (ih.cons y).trans (.swap x y l)

theorem insertByKey_sorted {α : Type} {key : α → Nat} (x : α) {l : List α} (h : l.Pairwise fun a b => key a ≤ key b) :
    (insertByKey key x l).Pairwise fun a b => key a ≤ key b := by
  induction l with
  | nil => simp [insertByKey]
  | cons y l ih =>
    rw [List.pairwise_cons] at h
    unfold insertByKey
    split
    · next hlt =>
      rw [List.pairwise_cons, List.pairwise_cons]
      refine ⟨fun z hz => ?_, h⟩
      rcases List.mem_cons.1 hz with rfl | hz
      · exact hlt.le
      · exact hlt.le.trans (h.1 z hz)
    · next hle =>
      rw [List.pairwise_cons]
      refine ⟨fun z hz => ?_, ih h.2⟩
      rcases mem_insertByKey.1 hz with rfl | hz
      · exact Nat.le_of_not_lt hle
      · exact h.1 z hz

theorem foldl_insertByKey_perm {α : Type} (key : α → Nat) (l acc : List α) :
    (l.foldl (fun sorted x => insertByKey key x sorted) acc).Perm (l ++ acc) := by
  induction l generalizing acc with
  | nil => exact .refl _
  | cons x l ih => exact (ih _).trans (((insertByKey_perm key x acc).append_left l).trans List.perm_middle)

theorem sortByKey_perm {α : Type} (key : α → Nat) (l : List α) : (sortByKey key l).Perm l := by
  simpa [sortByKey] using foldl_insertByKey_perm key l []

theorem sortByKey_sorted {α : Type} (key : α → Nat) (l : List α) : (sortByKey key l).Pairwise fun a b => key a ≤ key b := by
  suffices h : ∀ acc : List α, acc.Pairwise (fun a b => key a ≤ key b) →
      (l.foldl (fun sorted x => insertByKey key x sorted) acc).Pairwise fun a b => key a ≤ key b from h [] .nil
  induction l with
  | nil => exact fun acc h => h
  | cons x l ih => exact fun acc h => ih _ (insertByKey_sorted x h)

theorem sortByKey_nodup {α : Type} {key : α → Nat} {l : List α} (h : l.Nodup) : (sortByKey key l).Nodup :=
  (sortByKey_perm key l).nodup_iff.2 h

/-- The first of a sorted list is its one member of the least key. -/
theorem head?_sortByKey {α : Type} {key : α → Nat} {l : List α} {x : α} (hx : x ∈ l)
    (h : ∀ y ∈ l, y ≠ x → key x < key y) : (sortByKey key l).head? = some x := by
  have hs := sortByKey_sorted key l
  have hm : x ∈ sortByKey key l := mem_sortByKey.2 hx
  have hmem : ∀ y ∈ sortByKey key l, y ∈ l := fun y hy => mem_sortByKey.1 hy
  cases hl : sortByKey key l with
  | nil => simp [hl] at hm
  | cons y rest =>
    rw [hl] at hs hm hmem
    by_cases hxy : y = x
    · simp [hxy]
    · have hlt := h y (hmem y (by simp)) hxy
      have hle := (List.pairwise_cons.1 hs).1 x ((List.mem_cons.1 hm).resolve_left fun k => hxy k.symm)
      omega

theorem head?_sortByKey_nil {α : Type} (key : α → Nat) {l : List α} (h : l = []) : (sortByKey key l).head? = none := by
  subst h
  rfl

/-! ## Amounts taken in turn -/

/-- What each member gives where `left` is taken from the members of a list in turn, from each as much as it has. -/
def shares {α : Type} [DecidableEq α] (has : α → Nat) : List α → Nat → α → Nat
  | [], _, _ => 0
  | x :: rest, left, i => if i = x then min (has x) left else shares has rest (left - min (has x) left) i

section Shares
variable {α : Type} [DecidableEq α] {has : α → Nat}

theorem shares_of_notMem {l : List α} {i : α} (h : i ∉ l) (left : Nat) : shares has l left i = 0 := by
  induction l generalizing left with
  | nil => rfl
  | cons x l ih =>
    rw [List.mem_cons, not_or] at h
    simp [shares, h.1, ih h.2]

theorem shares_zero (l : List α) (i : α) : shares has l 0 i = 0 := by
  induction l with
  | nil => rfl
  | cons x l ih => simp [shares, ih]

theorem shares_le (l : List α) (left : Nat) (i : α) : shares has l left i ≤ has i := by
  induction l generalizing left with
  | nil => exact Nat.zero_le _
  | cons x l ih =>
    unfold shares
    split
    · next h => subst h; exact min_le_left _ _
    · exact ih _

theorem mem_of_shares_pos {l : List α} {left : Nat} {i : α} (h : 0 < shares has l left i) : i ∈ l := by
  by_contra hn
  rw [shares_of_notMem hn] at h
  omega

theorem shares_congr {has' : α → Nat} {l : List α} (h : ∀ x ∈ l, has' x = has x) (left : Nat) (i : α) :
    shares has' l left i = shares has l left i := by
  induction l generalizing left with
  | nil => rfl
  | cons x l ih =>
    unfold shares
    rw [h x (by simp), ih fun y hy => h y (by simp [hy])]

theorem sum_shares {l : List α} (hl : l.Nodup) (left : Nat) :
    (l.map (shares has l left)).sum = min left (l.map has).sum := by
  induction l generalizing left with
  | nil => simp
  | cons x l ih =>
    rw [List.nodup_cons] at hl
    have hrest : l.map (shares has (x :: l) left) = l.map (shares has l (left - min (has x) left)) :=
      List.map_congr_left fun i hi => by simp [shares, show i ≠ x from fun h => hl.1 (h ▸ hi)]
    rw [List.map_cons, List.sum_cons, hrest, ih hl.2, List.map_cons, List.sum_cons]
    simp only [shares, if_true]
    omega

/-- A member gives nothing before those ahead of it in the list have given all they have. -/
theorem shares_all_of_ahead {R : α → α → Prop} {l : List α} (hl : l.Pairwise R) {left : Nat} {i j : α}
    (hi : 0 < shares has l left i) (hj : j ∈ l) (hne : j ≠ i) (hr : ¬ R i j) : shares has l left j = has j := by
  induction l generalizing left with
  | nil => simp at hj
  | cons x l ih =>
    rw [List.pairwise_cons] at hl
    unfold shares at hi ⊢
    by_cases hjx : j = x
    · subst hjx
      rw [if_neg hne.symm] at hi
      rw [if_pos rfl]
      by_contra hlt
      rw [show left - min (has j) left = 0 by omega, shares_zero] at hi
      omega
    · have hjl : j ∈ l := (List.mem_cons.1 hj).resolve_left hjx
      rw [if_neg hjx]
      by_cases hix : i = x
      · subst hix
        exact absurd (hl.1 j hjl) hr
      · rw [if_neg hix] at hi
        exact ih hl.2 hi hjl

theorem map_sum_of_nodup {n : Nat} {f : Fin n → Nat} {l : List (Fin n)} (hl : l.Nodup) (h : ∀ i, i ∉ l → f i = 0) :
    (l.map f).sum = ∑ i, f i := by
  rw [← List.sum_toFinset f hl]
  exact Finset.sum_subset (Finset.subset_univ _) fun i _ hi => h i (by simpa using hi)

end Shares

/-! ## The events cut (R104) -/

theorem Event.cutBy_unspent {e : Event} {n : Nat} : (e.cutBy n).unspent = e.unspent - n := by
  simp only [Event.cutBy, Event.unspent]
  omega

theorem State.unspentOf_modEvent (s : State) (i j : EventIx) (f : Event → Event) (h : i ≠ j) :
    (s.modEvent i f).unspentOf j = s.unspentOf j :=
  State.unspentOf_congr ((s.entry_modEvent i j f).trans (if_neg h))

/-- The events cut in turn: what each gives, what is left, and which were cut. -/
theorem State.cutEvents_eq {l : List EventIx} (hl : l.Nodup) {s : State} (hpos : ∀ i ∈ l, 0 < s.unspentOf i) (left : Nat) :
    (∀ i, (State.cutEvents l left s).1.entry i =
      if 0 < shares s.unspentOf l left i then (s.entry i).map (Event.cutBy (shares s.unspentOf l left i)) else s.entry i) ∧
    (State.cutEvents l left s).2.1 = left - (l.map s.unspentOf).sum ∧
    (State.cutEvents l left s).2.2 = l.filter fun i => decide (0 < shares s.unspentOf l left i) := by
  induction l generalizing s left with
  | nil => exact ⟨fun i => rfl, rfl, rfl⟩
  | cons x l ih =>
    have hx := hpos x (by simp)
    rw [List.nodup_cons] at hl
    unfold State.cutEvents
    split
    · next h0 =>
      subst h0
      exact ⟨fun i => by simp [shares_zero], by simp, by simp [shares_zero]⟩
    · next h0 =>
      have hsame : ∀ i ∈ l, (s.modEvent x (Event.cutBy (min (s.unspentOf x) left))).unspentOf i = s.unspentOf i :=
        fun i hi => s.unspentOf_modEvent x i _ fun h => hl.1 (h ▸ hi)
      obtain ⟨he, hleft, hcut⟩ := ih hl.2 (s := s.modEvent x (Event.cutBy (min (s.unspentOf x) left)))
        (fun i hi => by rw [hsame i hi]; exact hpos i (by simp [hi])) (left - min (s.unspentOf x) left)
      have hsum : l.map (s.modEvent x (Event.cutBy (min (s.unspentOf x) left))).unspentOf = l.map s.unspentOf :=
        List.map_congr_left hsame
      refine ⟨fun i => ?_, ?_, ?_⟩
      · rw [he, shares_congr hsame, State.entry_modEvent]
        by_cases hi : i = x
        · subst hi
          have hpos' : 0 < min (s.unspentOf i) left := by omega
          rw [shares_of_notMem hl.1]
          simp [shares, hpos']
        · have hi' : x ≠ i := fun h => hi h.symm
          simp only [shares, if_neg hi, if_neg hi']
      · rw [hleft, hsum, List.map_cons, List.sum_cons]
        omega
      · have hpos' : 0 < min (s.unspentOf x) left := by omega
        dsimp only
        rw [hcut, List.filter_cons]
        simp only [shares, if_true, hpos', decide_true]
        congr 1
        refine List.filter_congr fun i hi => ?_
        have hne : i ≠ x := fun h => hl.1 (h ▸ hi)
        simp only [shares_congr hsame, if_neg hne]

/-! ## The releases cut (R105) -/

theorem State.amountOf_modRelease (s : State) (r q : ReleaseIx) (f : Release → Release) (h : r ≠ q) :
    (s.modRelease r f).amountOf q = s.amountOf q := by
  simp [State.amountOf, s.release_modRelease r q f, h]

/-- The releases cut in turn: what each gives, what is left, and how many were cut. -/
theorem State.cutReleases_eq {l : List ReleaseIx} (hl : l.Nodup) {s : State} (hpos : ∀ r ∈ l, 0 < s.amountOf r) (left : Nat) :
    (∀ r, (State.cutReleases l left s).1.release r =
      (s.release r).map fun x => { x with amount := x.amount - shares s.amountOf l left r }) ∧
    (State.cutReleases l left s).2.1 = left - (l.map s.amountOf).sum ∧
    (State.cutReleases l left s).2.2 = (l.filter fun r => decide (0 < shares s.amountOf l left r)).length := by
  induction l generalizing s left with
  | nil =>
    refine ⟨fun r => ?_, rfl, rfl⟩
    cases h : s.release r <;> simp [State.cutReleases, shares, h]
  | cons x l ih =>
    have hx := hpos x (by simp)
    rw [List.nodup_cons] at hl
    unfold State.cutReleases
    split
    · next h0 =>
      subst h0
      refine ⟨fun r => ?_, by simp, by simp [shares_zero]⟩
      cases s.release r <;> simp [shares_zero]
    · next h0 =>
      generalize hn : min (s.amountOf x) left = n
      have hsame : ∀ r ∈ l, (s.modRelease x fun y => { y with amount := y.amount - n }).amountOf r = s.amountOf r :=
        fun r hr => s.amountOf_modRelease x r _ fun h => hl.1 (h ▸ hr)
      obtain ⟨he, hleft, hcut⟩ := ih hl.2 (s := s.modRelease x fun y => { y with amount := y.amount - n })
        (fun r hr => by rw [hsame r hr]; exact hpos r (by simp [hr])) (left - n)
      have hsum : l.map (s.modRelease x fun y => { y with amount := y.amount - n }).amountOf = l.map s.amountOf :=
        List.map_congr_left hsame
      refine ⟨fun r => ?_, ?_, ?_⟩
      · rw [he, shares_congr hsame, State.release_modRelease]
        by_cases hr : r = x
        · subst hr
          rw [shares_of_notMem hl.1, if_pos rfl, Option.map_map]
          simp only [shares, if_true, hn]
          rfl
        · have hr' : x ≠ r := fun h => hr h.symm
          simp only [shares, if_neg hr, if_neg hr', hn]
      · rw [hleft, hsum, List.map_cons, List.sum_cons]
        omega
      · have hpos' : 0 < n := by omega
        dsimp only
        rw [hcut, List.filter_cons]
        simp only [shares, if_true, hn, hpos', decide_true, List.length_cons]
        congr 2
        refine List.filter_congr fun r hr => ?_
        have hne : r ≠ x := fun h => hl.1 (h ▸ hr)
        simp only [shares_congr hsame, if_neg hne]

/-! ## The shortfall cut -/

theorem State.eventsToCut_nodup (s : State) : s.eventsToCut.Nodup :=
  sortByKey_nodup ((List.nodup_finRange 32).filter _)

theorem State.mem_eventsToCut {s : State} {i : EventIx} : i ∈ s.eventsToCut ↔ 0 < s.unspentOf i := by
  rw [State.eventsToCut, mem_sortByKey, State.mem_eventsWhere]
  cases h : s.entry i <;> simp [State.unspentOf, h]

theorem State.releasesToCut_nodup (s : State) : s.releasesToCut.Nodup :=
  sortByKey_nodup ((List.nodup_finRange 16).filter _)

theorem State.mem_releasesToCut {s : State} {r : ReleaseIx} : r ∈ s.releasesToCut ↔ 0 < s.amountOf r := by
  rw [State.releasesToCut, mem_sortByKey, List.mem_filter]
  cases h : s.release r <;> simp [State.amountOf, h, allReleases]

/-- What the cut takes from an event. -/
def State.eventCut (s : State) (shortfall : Nat) (i : EventIx) : Nat := shares s.unspentOf s.eventsToCut shortfall i

/-- What the cut takes from a release, `left` being what the events have not given. -/
def State.releaseCut (s : State) (left : Nat) (r : ReleaseIx) : Nat := shares s.amountOf s.releasesToCut left r

theorem State.eventCut_le (s : State) (n : Nat) (i : EventIx) : s.eventCut n i ≤ s.unspentOf i := shares_le _ _ _

theorem State.releaseCut_le (s : State) (n : Nat) (r : ReleaseIx) : s.releaseCut n r ≤ s.amountOf r := shares_le _ _ _

theorem State.sum_eventCut (s : State) (n : Nat) : ∑ i, s.eventCut n i = min n s.unspentSum := by
  have hout : ∀ i, i ∉ s.eventsToCut → s.unspentOf i = 0 := fun i hi => by
    rw [State.mem_eventsToCut] at hi
    omega
  have hall := map_sum_of_nodup (f := s.eventCut n) s.eventsToCut_nodup fun i hi => shares_of_notMem hi n
  rw [← hall]
  refine (sum_shares s.eventsToCut_nodup n).trans ?_
  rw [map_sum_of_nodup s.eventsToCut_nodup hout, ← s.unspentSum_eq]

theorem State.sum_releaseCut (s : State) (n : Nat) : ∑ r, s.releaseCut n r = min n s.releaseSum := by
  have hout : ∀ r, r ∉ s.releasesToCut → s.amountOf r = 0 := fun r hr => by
    rw [State.mem_releasesToCut] at hr
    omega
  have hall := map_sum_of_nodup (f := s.releaseCut n) s.releasesToCut_nodup fun r hr => shares_of_notMem hr n
  rw [← hall]
  refine (sum_shares s.releasesToCut_nodup n).trans ?_
  rw [map_sum_of_nodup s.releasesToCut_nodup hout, ← s.releaseSum_eq]

/-- The state in which events and releases have been cut, and how the shortfall was met. -/
theorem State.cutEvents_toCut (s : State) (n : Nat) :
    (∀ i, (State.cutEvents s.eventsToCut n s).1.entry i =
      if 0 < s.eventCut n i then (s.entry i).map (Event.cutBy (s.eventCut n i)) else s.entry i) ∧
    (State.cutEvents s.eventsToCut n s).2.1 = n - s.unspentSum ∧
    (State.cutEvents s.eventsToCut n s).2.2 = s.eventsToCut.filter fun i => decide (0 < s.eventCut n i) := by
  obtain ⟨he, hleft, hcut⟩ := State.cutEvents_eq s.eventsToCut_nodup (fun i => State.mem_eventsToCut.1) n
  refine ⟨he, ?_, hcut⟩
  rw [hleft, map_sum_of_nodup s.eventsToCut_nodup, ← s.unspentSum_eq]
  intro i hi
  rw [State.mem_eventsToCut] at hi
  omega

theorem State.cutReleases_toCut (s : State) (n : Nat) :
    (∀ r, (State.cutReleases s.releasesToCut n s).1.release r =
      (s.release r).map fun x => { x with amount := x.amount - s.releaseCut n r }) ∧
    (State.cutReleases s.releasesToCut n s).2.1 = n - s.releaseSum ∧
    (State.cutReleases s.releasesToCut n s).2.2 = (s.releasesToCut.filter fun r => decide (0 < s.releaseCut n r)).length := by
  obtain ⟨he, hleft, hcut⟩ := State.cutReleases_eq s.releasesToCut_nodup (fun r => State.mem_releasesToCut.1) n
  refine ⟨he, ?_, hcut⟩
  rw [hleft, map_sum_of_nodup s.releasesToCut_nodup, ← s.releaseSum_eq]
  intro r hr
  rw [State.mem_releasesToCut] at hr
  omega

theorem State.cutEvents_unspentSum (s : State) (n : Nat) :
    (State.cutEvents s.eventsToCut n s).1.unspentSum = s.unspentSum - min n s.unspentSum := by
  have hof : ∀ i, (State.cutEvents s.eventsToCut n s).1.unspentOf i + s.eventCut n i = s.unspentOf i := fun i => by
    have hle := s.eventCut_le n i
    have hi := (s.cutEvents_toCut n).1 i
    by_cases hpos : 0 < s.eventCut n i
    · rw [if_pos hpos] at hi
      cases he : s.entry i with
      | none => rw [State.unspentOf_none he] at hle; omega
      | some e =>
        rw [he, Option.map_some] at hi
        rw [State.unspentOf_some he] at hle ⊢
        rw [State.unspentOf_some hi, Event.cutBy_unspent]
        omega
    · rw [if_neg hpos] at hi
      rw [State.unspentOf_congr hi]
      omega
  have hsum : (State.cutEvents s.eventsToCut n s).1.unspentSum + min n s.unspentSum = s.unspentSum := by
    rw [← s.sum_eventCut n, State.unspentSum_eq, s.unspentSum_eq, ← Finset.sum_add_distrib]
    exact Finset.sum_congr rfl fun i _ => hof i
  omega

theorem State.cutReleases_releaseSum (s : State) (n : Nat) :
    (State.cutReleases s.releasesToCut n s).1.releaseSum = s.releaseSum - min n s.releaseSum := by
  have hof : ∀ r, (State.cutReleases s.releasesToCut n s).1.amountOf r + s.releaseCut n r = s.amountOf r := fun r => by
    have hle := s.releaseCut_le n r
    have hr := (s.cutReleases_toCut n).1 r
    cases hx : s.release r with
    | none =>
      rw [hx, Option.map_none] at hr
      rw [State.amountOf_none hx] at hle ⊢
      rw [State.amountOf_none hr]
      omega
    | some x =>
      rw [hx, Option.map_some] at hr
      rw [State.amountOf_some hx] at hle ⊢
      rw [State.amountOf_some hr]
      dsimp only
      omega
  have hsum : (State.cutReleases s.releasesToCut n s).1.releaseSum + min n s.releaseSum = s.releaseSum := by
    rw [← s.sum_releaseCut n, State.releaseSum_eq, s.releaseSum_eq, ← Finset.sum_add_distrib]
    exact Finset.sum_congr rfl fun r _ => hof r
  omega

end Sys2Proof.Machine
end

section
/-! SUPPORT. The energy accounts and the outcomes across a store confirmation (R98, R101 to R105): the balance is struck anew over the
entries as they go on, and what follows keeps it. -/

namespace Sys2Proof.Machine

/-! ## What a step keeps -/

/-- The energy accounts are kept, and so are the outcomes of the entries that are held. -/
structure Keeps (s t : State) : Prop where
  sound : EnergySound s → EnergySound t
  tells : Tells s t

theorem Keeps.refl (s : State) : Keeps s s := ⟨id, .refl s⟩

theorem Keeps.trans {s t u : State} (h : Keeps s t) (k : Keeps t u) : Keeps s u :=
  ⟨fun x => k.sound (h.sound x), h.tells.trans k.tells⟩

/-- The second of two changes named first. -/
theorem Keeps.after {s t u : State} (k : Keeps t u) (h : Keeps s t) : Keeps s u := h.trans k

theorem Conserves.keeps {s t : State} (h : Conserves s t) : Keeps s t := ⟨h.energySound, h.tells⟩

theorem Carries.keeps {s t : State} (h : Carries s t) : Keeps s t := h.conserves.keeps

/-! ## Dissolution (R101) -/

theorem State.settleWithNothing_carries (s : State) (r : ReleaseIx) (c : ReleaseClaim) :
    Carries s (s.settleWithNothing r c) :=
  State.modEvent_carries (fun _ _ => .of_eq rfl rfl rfl rfl rfl rfl) fun _ _ => rfl

theorem State.dissolve_follows (s : State) (r : ReleaseIx) : Follows s (s.dissolve r) := by
  unfold State.dissolve
  split
  · exact .refl s
  · next x _ =>
    refine Follows.trans
      (Carries.foldl (fun s (c : ReleaseClaim) => s.settleWithNothing_carries r c) x.claims s).follows ?_
    exact .of_entry (State.entry_congr rfl)

theorem foldl_dissolve_follows (l : List ReleaseIx) (s : State) : Follows s (l.foldl State.dissolve s) :=
  foldl_relates .refl .trans State.dissolve_follows l s

/-! ## The balance struck (R103 to R105) -/

theorem Event.continues_cutBy {e : Event} {n : Nat} (h : n ≤ e.unspent) : e.Continues (e.cutBy n) where
  accounted := fun x => x.lower h rfl rfl rfl rfl
  settled := fun x hr => by rw [Event.cutBy_unspent, x hr, Nat.zero_sub]
  outcome := fun _ => id

theorem State.cutEvents_follows (s : State) (n : Nat) : Follows s (State.cutEvents s.eventsToCut n s).1 := fun i e' he' => by
  have hle := s.eventCut_le n i
  rw [(s.cutEvents_toCut n).1 i] at he'
  split at he'
  · rw [Option.map_eq_some_iff] at he'
    obtain ⟨e, he, rfl⟩ := he'
    rw [State.unspentOf_some he] at hle
    exact ⟨e, he, Event.continues_cutBy hle⟩
  · exact ⟨e', he', .refl e'⟩

/-- The pool where the shortfall has been cut from the events and the releases. -/
def State.shortfallCut (s : State) (shortfall : Nat) : State :=
  let events := State.cutEvents s.eventsToCut shortfall s
  { (State.cutReleases events.1.releasesToCut events.2.1 events.1).1 with pool.free := 0 }

theorem State.shortfallCut_entry (s : State) (n : Nat) (i : EventIx) :
    (s.shortfallCut n).entry i = (State.cutEvents s.eventsToCut n s).1.entry i :=
  State.entry_congr (by simp [State.shortfallCut]) i

theorem State.shortfallCut_follows (s : State) (n : Nat) : Follows s (s.shortfallCut n) :=
  (s.cutEvents_follows n).trans (.of_entry (s.shortfallCut_entry n))

/-- The cut takes the shortfall and no more. -/
theorem State.shortfallCut_funds {s : State} {n : Nat} (hd : s.pool.drawn = 0) (hn : n ≤ s.unspentSum + s.releaseSum) :
    (s.shortfallCut n).funds + n = s.unspentSum + s.releaseSum := by
  have hu : (s.shortfallCut n).unspentSum = s.unspentSum - min n s.unspentSum := by
    rw [← s.cutEvents_unspentSum n]
    exact State.unspentSum_congr fun i => State.unspentOf_congr (s.shortfallCut_entry n i)
  have hkept : (State.cutEvents s.eventsToCut n s).1.releaseSum = s.releaseSum :=
    State.releaseSum_congr (Stands.amountOf (.of_eq (by simp)))
  have hr : (s.shortfallCut n).releaseSum = s.releaseSum - min (n - s.unspentSum) s.releaseSum := by
    have h := (State.cutEvents s.eventsToCut n s).1.cutReleases_releaseSum (State.cutEvents s.eventsToCut n s).2.1
    rw [(s.cutEvents_toCut n).2.1, hkept] at h
    rw [← h, ← (s.cutEvents_toCut n).2.1]
    exact State.releaseSum_congr (Stands.amountOf (.of_eq rfl))
  have hf : (s.shortfallCut n).pool.free = 0 := rfl
  have hd' : (s.shortfallCut n).pool.drawn = 0 := by simpa [State.shortfallCut] using hd
  rw [State.funds, hu, hr, hf, hd']
  omega

/-- Free set anew (R103). -/
def State.withFree (s : State) (free : Nat) : State := { s with pool.free := free }

theorem State.withFree_entry (s : State) (n : Nat) (i : EventIx) : (s.withFree n).entry i = s.entry i := rfl

theorem State.withFree_budget (s : State) (n : Nat) : (s.withFree n).pool.budget = s.pool.budget := rfl

theorem State.withFree_funds (s : State) (n : Nat) :
    (s.withFree n).funds = n + s.unspentSum + s.releaseSum + s.pool.drawn := rfl

/-- Free set from B and the sums, where B covers them. -/
theorem State.setFree_covered {s : State} (h : s.unspentSum + s.releaseSum ≤ s.pool.budget) (timestamp : U32) (voltage : Nat) :
    s.setFree timestamp voltage = (s.withFree (s.pool.budget - (s.unspentSum + s.releaseSum)), []) := by
  simp only [State.setFree, if_pos h, State.withFree]

/-- The SHORTFALL report of a cut (R110). -/
def State.shortfallReport (s : State) (n : Nat) (timestamp : U32) (voltage : Nat) : Report :=
  let events := State.cutEvents s.eventsToCut n s
  let releases := State.cutReleases events.1.releasesToCut events.2.1 events.1
  .shortfall timestamp voltage (s.shortfallCut n).pool.budget (n - releases.2.1) (n - events.2.1)
    (events.2.1 - releases.2.1) events.2.2.length (events.2.2.filter fun i => (s.shortfallCut n).reachesCut i).length
    releases.2.2

/-- The shortfall cut and reported, where B does not cover the sums. -/
theorem State.setFree_short {s : State} {n : Nat} (h : ¬ s.unspentSum + s.releaseSum ≤ s.pool.budget)
    (hn : s.unspentSum + s.releaseSum - s.pool.budget = n) (timestamp : U32) (voltage : Nat) :
    s.setFree timestamp voltage =
      ((s.shortfallCut n).report (s.shortfallReport n timestamp voltage), (State.cutEvents s.eventsToCut n s).2.2) := by
  simp only [State.setFree, if_neg h, hn]
  rfl

theorem State.setFree_follows (s : State) (timestamp : U32) (voltage : Nat) : Follows s (s.setFree timestamp voltage).1 := by
  by_cases h : s.unspentSum + s.releaseSum ≤ s.pool.budget
  · rw [State.setFree_covered h]
    exact .of_entry (s.withFree_entry _)
  · rw [State.setFree_short h rfl]
    exact (s.shortfallCut_follows _).trans (State.report_conserves _ _).follows

/-- The balance is struck over accounted entries (R103 to R105). -/
theorem State.setFree_sound {s : State} (ha : s.Accounted) (hs : s.Settled) (hd : s.pool.drawn = 0) (timestamp : U32)
    (voltage : Nat) : EnergySound (s.setFree timestamp voltage).1 := by
  by_cases h : s.unspentSum + s.releaseSum ≤ s.pool.budget
  · rw [State.setFree_covered h, energySound_iff]
    refine ⟨fun i e he => ha i e ((s.withFree_entry _ i).symm.trans he),
      fun i e he => hs i e ((s.withFree_entry _ i).symm.trans he), ?_⟩
    rw [State.withFree_funds, State.withFree_budget]
    omega
  · have hfunds := State.shortfallCut_funds (n := s.unspentSum + s.releaseSum - s.pool.budget) hd (Nat.sub_le _ _)
    have hf := s.shortfallCut_follows (s.unspentSum + s.releaseSum - s.pool.budget)
    have hb : (s.shortfallCut (s.unspentSum + s.releaseSum - s.pool.budget)).pool.budget = s.pool.budget := by
      simp [State.shortfallCut]
    rw [State.setFree_short h rfl]
    refine (State.report_conserves _ _).energySound ?_
    rw [energySound_iff]
    exact ⟨hf.accounted ha, hf.settled hs, by omega⟩

/-! ## The consequences (R70, R98, R101, R104) -/

theorem State.cutOutcome_carries (s : State) (i : EventIx) : Carries s (s.cutOutcome i) := by
  unfold State.cutOutcome
  split
  · exact s.bypass_carries _ _ _
  · exact .refl s

theorem State.cutConsequences_conserves (s : State) (cut : List EventIx) : Conserves s (s.cutConsequences cut) := by
  unfold State.cutConsequences
  exact (Conserves.foldl State.endSpentWait_conserves _ _).after (Carries.foldl State.cutOutcome_carries _ _).conserves

theorem State.freeOfStore_carries (cut : List EventIx) (s : State) (i : EventIx) : Carries s (State.freeOfStore cut s i) := by
  unfold State.freeOfStore
  split
  · exact .refl s
  · next e he =>
    have hset : Carries s (s.setEntry i (some { e with held.store := false })) :=
      State.setEntry_carries he (.of_eq rfl rfl rfl rfl rfl rfl) rfl
    split
    · dsimp only
      split
      · exact hset
      · exact hset.trans (State.leaveHeld_carries _ i)
    · exact .refl s

theorem State.enterLive_conserves (s : State) (p : StoreParameters) (cut : List EventIx) (timestamp : U32) (voltage : Nat) :
    Conserves s (s.enterLive p cut timestamp voltage) := by
  have hlive : Carries s { s with pool.storeState := .live, pool.storeSilence := some (s.now + p.silenceTimeout) } :=
    .of_pool rfl rfl rfl rfl rfl
  unfold State.enterLive
  dsimp only
  split
  · exact hlive.conserves
  · exact (State.report_conserves _ _).after (hlive.trans (Carries.foldl (State.freeOfStore_carries cut) _ _)).conserves

theorem State.dissolutionConsequences_conserves (s : State) (gone : List Release) :
    Conserves s (s.dissolutionConsequences gone) := by
  have hborrowers : Carries s (gone.foldl (fun s x => x.claims.foldl (fun s c => s.settleBorrower c.event) s) s) :=
    .foldl (fun s (x : Release) => .foldl (fun s (c : ReleaseClaim) => s.settleBorrower_carries c.event) x.claims s) _ s
  have hstacks  :=
    hborrowers.trans (Carries.foldl (fun s (x : Release) => s.availabilityCheck_carries x.stack) gone _)
  unfold State.dissolutionConsequences
  dsimp only
  split
  · exact hstacks.conserves
  · exact hstacks.conserves.trans (State.offerEntries_conserves _)

/-! ## The confirmation and the frame (R102, R103) -/

/-- The store parameters in effect, the UNRESOLVED releases dissolved and D at 0: steps 1 to 4 of R103. -/
def State.unresolvedGone (s : State) (p : StoreParameters) (voltage : Nat) : State :=
  let s := { s with pool.inEffect := some p, pool.budget := storeBudget p voltage }
  { s.unresolvedOldestFirst.foldl State.dissolve s with pool.drawn := 0 }

theorem State.unresolvedGone_follows (s : State) (p : StoreParameters) (voltage : Nat) :
    Follows s (s.unresolvedGone p voltage) := by
  have hset : Follows s { s with pool.inEffect := some p, pool.budget := storeBudget p voltage } := .of_entry fun _ => rfl
  exact (hset.trans (foldl_dissolve_follows _ _)).trans (.of_entry (State.entry_congr rfl))

theorem State.confirmStore_keeps (s : State) (p : StoreParameters) (timestamp : U32) (voltage : Nat) :
    Keeps s (s.confirmStore p timestamp voltage) := by
  have hgone := s.unresolvedGone_follows p voltage
  have hrest : ∀ (t : State) (cut : List EventIx) (releases : List Release), Conserves t
      (((t.enterLive p cut timestamp voltage).cutConsequences cut).dissolutionConsequences releases).duePass :=
    fun t cut releases => (State.duePass_carries _).conserves.after ((State.dissolutionConsequences_conserves _ _).after
      ((State.cutConsequences_conserves _ cut).after (t.enterLive_conserves p cut timestamp voltage)))
  constructor
  · intro h
    rw [energySound_iff] at h
    obtain ⟨ha, hs, -⟩ := h
    exact (hrest _ _ _).energySound
      (State.setFree_sound (s := s.unresolvedGone p voltage) (hgone.accounted ha) (hgone.settled hs) rfl timestamp voltage)
  · exact (hgone.trans (State.setFree_follows _ timestamp voltage)).tells.trans (hrest _ _ _).tells

theorem State.takeStore_keeps (s : State) (x : HandedStore) : Keeps s (s.takeStore x) := by
  have hstray : Keeps s (s.countPort fun c => { c with stray := c.stray + 1 })  :=
    Carries.keeps (.of_eq rfl rfl)
  unfold State.takeStore
  dsimp only
  split
  · exact hstray
  · split
    · exact hstray
    · split
      · exact Carries.keeps (.of_pool rfl rfl rfl rfl rfl)
      · exact (State.confirmStore_keeps _ _ _ _).after (Carries.keeps (.of_pool rfl rfl rfl rfl rfl))

end Sys2Proof.Machine
end

section
/-! SUPPORT. The energy accounts and the outcomes across the Stack Command Channel, the Envelope and Injection Units, what Bus Watch does
without an opening, and the ring ports. -/

namespace Sys2Proof.Machine

/-! ## The Stack Command Channel (R136 to R141) -/

theorem State.faultEvent_carries (k : Station) (s : State) (i : EventIx) : Carries s (State.faultEvent k s i) := by
  unfold State.faultEvent
  split
  · exact .refl s
  · split
    · split
      · exact (s.addMark_carries _ _).trans (State.bypass_carries _ _ _ _)
      · exact s.addMark_carries _ _
    · exact .refl s

theorem State.faultEffects_carries (s : State) (k : Station) : Carries s (s.faultEffects k) := by
  unfold State.faultEffects
  refine (Carries.foldl (State.faultEvent_carries k) _ _).after ?_
  split
  · exact State.modRelease_carries fun _ => rfl
  · exact .refl s

theorem State.reportFault_conserves (s : State) (k : Station) (expired : Option Command) (flushed : Nat)
    (event : Option EventIx) (release : Option ReleaseIx) : Conserves s (s.reportFault k expired flushed event release) := by
  unfold State.reportFault
  refine (State.report_conserves _ _).after (Carries.conserves ?_)
  split
  · exact s.addAlarm_carries _ _
  · exact .refl s

theorem State.trip_conserves (s : State) (k : Station) : Conserves s (s.trip k) := by
  have hset : Conserves s (s.setView k { s.view k with tripped := true }) := .of_eq rfl rfl
  unfold State.trip
  dsimp only
  split
  · exact .refl s
  · split
    · exact hset.trans (State.reportFault_conserves _ _ _ _ _ _)
    · refine (hset.trans (State.faultEffects_carries _ k).conserves).trans ((State.reportFault_conserves _ _ _ _ _ _).after ?_)
      split
      · exact (State.queueCommand_carries _ _ _).conserves
      · exact .refl _

theorem State.modView_carries (s : State) (k : Station) (f : StackView → StackView) : Carries s (s.modView k f) :=
  .of_eq rfl rfl

theorem State.settleAcknowledged_carries (s : State) (k : Station) (q : Seq) : Carries s (s.settleAcknowledged k q) := by
  unfold State.settleAcknowledged
  split
  · exact .refl s
  · exact (s.modView_carries _ _).trans (State.placeHeld_carries _ _)

theorem State.settleFaults_conserves (s : State) (k : Station) (x : StackState) : Conserves s (s.settleFaults k x) := by
  unfold State.settleFaults
  split
  · exact s.trip_conserves k
  · split
    · exact (s.modView_carries _ _).conserves
    · exact .refl s

theorem State.tidyStack_carries (s : State) (k : Station) (x : StackState) : Carries s (s.tidyStack k x) := by
  unfold State.tidyStack
  dsimp only
  split
  · exact s.queueCommand_carries _ _
  · exact .refl s

theorem State.takeNotice_conserves (s : State) (n : Notice) : Conserves s (s.takeNotice n) := by
  have hconfirmed : Conserves s (match s.releaseOf n.stack with
      | none => s
      | some r => match s.release r with
        | none => s
        | some x => if n.confirms x then s.confirmRelease r else s) := by
    split
    · exact .refl s
    · split
      · exact .refl s
      · split
        · exact s.confirmRelease_conserves _
        · exact .refl s
  unfold State.takeNotice
  dsimp only
  split
  · exact hconfirmed.trans (State.availabilityCheck_carries _ _).conserves
  · exact hconfirmed

theorem State.notify_conserves (s : State) (n : Notice) (turn : NoticeTurn) : Conserves s (s.notify n turn) := by
  unfold State.notify
  split
  · exact s.takeNotice_conserves n
  · exact .of_eq rfl rfl

theorem State.statusSteps_conserves (s : State) (k : Station) (x : HandedStatus) (turn : NoticeTurn) :
    Conserves s (s.statusSteps k x turn) := by
  have hviewed : Conserves s ((s.settleAcknowledged k x.sequence).modView k (StackView.reports x)) :=
    ((s.settleAcknowledged_carries k _).trans (State.modView_carries _ _ _)).conserves
  unfold State.statusSteps
  exact (State.tidyStack_carries _ _ _).conserves.after ((State.notify_conserves _ _ _).after
    ((State.settleFaults_conserves _ _ _).after hviewed))

theorem State.countPort_carries (s : State) (f : PortCounters → PortCounters) : Carries s (s.countPort f) := .of_eq rfl rfl

theorem State.takeStatus_conserves (s : State) (x : HandedStatus) (turn : NoticeTurn) : Conserves s (s.takeStatus x turn) := by
  unfold State.takeStatus
  dsimp only
  split
  · exact (s.countPort_carries _).conserves
  · split
    · exact s.statusSteps_conserves _ _ _
    · exact (s.countPort_carries _).conserves

theorem State.flush_carries (s : State) (k : Station) : Carries s (s.flush k) := by
  have htaken : Carries s ((s.modView k StackView.flushed).takeOutCommand k) := .of_eq rfl rfl
  exact htaken.trans (State.queueCommand_carries _ _ _)

theorem State.ackExpires_conserves (s : State) (k : Station) : Conserves s (s.ackExpires k) := by
  unfold State.ackExpires
  dsimp only
  split
  · exact .refl s
  · split
    · exact (s.flush_carries k).conserves.trans (State.reportFault_conserves _ _ _ _ _ _)
    · exact ((s.flush_carries k).trans (State.faultEffects_carries _ k)).conserves.trans (State.reportFault_conserves _ _ _ _ _ _)

/-! ## The Envelope Unit (R55 to R62) -/

theorem State.breach_carries (s : State) (i : EventIx) (e : Event) : Carries s (s.breach i e) := by
  have hmarked : Carries s ((s.addMark i .breach).addAlarm e.bus .breach) :=
    (s.addMark_carries _ _).trans (State.addAlarm_carries _ _ _)
  unfold State.breach
  dsimp only
  split
  · exact hmarked.trans (State.bypass_carries _ _ _ _)
  · exact hmarked

theorem Event.continues_exposed (e : Event) (square : Nat) (below : Bool) : e.Continues (e.exposed square below) :=
  .of_eq rfl rfl rfl rfl rfl rfl

theorem State.judge_carries {s : State} {i : EventIx} {e : Event} (he : s.entry i = some e) (f : SenseFrame) :
    Carries s (s.judge i e f) := by
  have hset : ∀ square below, Carries s (s.setEntry i (some (e.exposed square below))) := fun square below =>
    State.setEntry_carries he (e.continues_exposed square below) rfl
  unfold State.judge
  dsimp only
  split
  · exact (hset _ _).trans (State.breach_carries _ _ _)
  · exact hset _ _

theorem State.envelopeTakes_carries (s : State) (f : AcceptedFrame) : Carries s (s.envelopeTakes f) := by
  unfold State.envelopeTakes
  split
  · exact .refl s
  · split
    · exact .refl s
    · next he =>
      split
      · exact State.judge_carries he _
      · exact .refl s

/-! ## Metering (R94, R121 to R124) -/

theorem State.meterRelease_entry (s : State) (r : ReleaseIx) (x : Release) (n : Nat) (i : EventIx) :
    (s.meterRelease r x n).entry i = s.entry i := State.entry_congr rfl i

theorem State.meterRelease_release (s : State) (r q : ReleaseIx) (x : Release) (n : Nat) :
    (s.meterRelease r x n).release q = if r = q then some (x.metered n) else s.release q := State.release_setRelease s r q _

theorem State.meterRelease_carries {s : State} {r : ReleaseIx} {x : Release} (hx : s.release r = some x) (n : Nat) :
    Carries s (s.meterRelease r x n) where
  budget := rfl
  follows := .of_entry (s.meterRelease_entry r x n)
  spent := fun i e e' he h0 he' => by
    rw [s.meterRelease_entry, he] at he'
    exact Option.some.inj he' ▸ h0
  funds := fun _ => by
    have hsum := State.releaseSum_exchange (s := s) (t := s.meterRelease r x n) r fun q hq => by
      simp [State.amountOf, s.meterRelease_release, hq.symm]
    rw [State.amountOf_some hx, State.amountOf_some ((s.meterRelease_release r r x n).trans (if_pos rfl))] at hsum
    have hu : (s.meterRelease r x n).unspentSum = s.unspentSum := State.unspentSum_of_events rfl
    have hf : (s.meterRelease r x n).pool.free = s.pool.free := rfl
    have hd : (s.meterRelease r x n).pool.drawn = s.pool.drawn + min (meteredJoules x.accumulator n) x.amount := rfl
    have ha : (x.metered n).amount = x.amount - min (meteredJoules x.accumulator n) x.amount := rfl
    rw [ha] at hsum
    rw [State.funds, State.funds, hu, hf, hd]
    omega

theorem accumulate_bounds {a n : Nat} (h : a ≤ 18446744073709551615) : a ≤ accumulate a n ∧ accumulate a n ≤ 18446744073709551615 :=
  ⟨le_min (Nat.le_add_right a n) h, min_le_right _ _⟩

/-- An event metered: what it has spent the more goes to D. -/
theorem State.putMetered_conserves {s : State} {i : EventIx} {e : Event} (he : s.entry i = some e) (hr : e.state ≠ .reporting)
    (n : Nat) (timestamp : U32) : Conserves s (s.putRecounted i (e.metered n timestamp)) where
  budget := rfl
  follows := .of_one he ((s.entry_putRecounted i i _).trans (if_pos rfl))
    (fun j hj => (s.entry_putRecounted i j _).trans (if_neg hj.symm))
    ⟨fun h => Event.recount_accounted (accumulate_bounds h.bounded).2, fun _ h => absurd h hr, fun _ => id⟩
  funds := fun ha _ => by
    have h := State.putRecounted_funds (e' := e.metered n timestamp) he (ha i e he) rfl (accumulate_bounds (ha i e he).bounded).1
      le_rfl
    exact Nat.add_right_cancel h

theorem EventState.ne_reporting_of_metered {x : EventState} (h : x.metered = true) : x ≠ .reporting := by
  rintro rfl
  cases h

theorem State.setRate_carries (s : State) (i : EventIx) (rate : Option Nat) : Carries s (s.setRate i rate) := .of_eq rfl rfl

theorem State.meterEvent_conserves {s : State} {i : EventIx} {e : Event} (he : s.entry i = some e) (hm : e.state.metered = true)
    (n micros : Nat) (timestamp : U32) : Conserves s (s.meterEvent i e n micros timestamp) := by
  have hput := State.putMetered_conserves he (EventState.ne_reporting_of_metered hm) n timestamp
  unfold State.meterEvent
  refine (State.endSpentWait_conserves _ i).after ?_
  split
  · exact hput.trans (State.setRate_carries _ _ _).conserves
  · exact hput

theorem State.meterInto_conserves (s : State) (k : Station) (n micros : Nat) (timestamp : U32) :
    Conserves s (s.meterInto k n micros timestamp) := by
  unfold State.meterInto
  split
  · split
    · next hx =>
      split
      · exact (State.meterRelease_carries hx n).conserves
      · exact .refl s
    · exact .refl s
  · split
    · exact .refl s
    · split
      · next he =>
        split
        · next hm => exact State.meterEvent_conserves he hm _ _ _
        · exact .refl s
      · exact .refl s

theorem State.meter_conserves (s : State) (f : AcceptedFrame) : Conserves s (s.meter f) :=
  .foldl (fun s k => by
    unfold State.meterStack
    split
    · exact s.meterInto_conserves _ _ _ _
    · exact .refl s) _ s

/-! ## The other stages (R114) -/

theorem State.bringTopup_carries (s : State) (i : EventIx) (e : Event) : Carries s (s.bringTopup i e) := by
  unfold State.bringTopup
  split
  · exact .of_eq rfl rfl
  · exact .refl s

theorem State.emitReference_conserves {s : State} {i : EventIx} {e : Event} (he : s.entry i = some e) (f : SenseFrame) (t : Nat) :
    Conserves s (s.emitReference i e f t) :=
  (State.placeReference_conserves _ _ _).after (Carries.conserves (State.setEntry_carries he (.of_eq rfl rfl rfl rfl rfl rfl) rfl))

theorem State.stepAndEmit_conserves {s : State} {i : EventIx} {e : Event} (he : s.entry i = some e) (f : SenseFrame) :
    Conserves s (s.stepAndEmit i e f) := by
  unfold State.stepAndEmit
  dsimp only
  split
  · have hset : Carries s (s.setEntry i (some e.steppedDown)) :=
      State.setEntry_carries he (.of_eq rfl rfl rfl rfl rfl rfl) rfl
    split
    · exact (hset.trans (State.bypass_carries _ _ _ _)).conserves
    · exact hset.conserves.trans (State.emitReference_conserves (State.entry_setEntry s i i _ |>.trans (if_pos rfl)) _ _)
  · exact State.emitReference_conserves he _ _

theorem State.bringTopup_entry (s : State) (i j : EventIx) (e : Event) : (s.bringTopup i e).entry j = s.entry j := by
  unfold State.bringTopup
  split <;> rfl

theorem State.drive_conserves {s : State} {i : EventIx} {e : Event} (he : s.entry i = some e) (f : SenseFrame) :
    Conserves s (s.drive i e f) := by
  unfold State.drive
  split
  · exact (State.bypass_carries _ _ _ _).conserves
  · exact (s.bringTopup_carries i e).conserves.trans (State.stepAndEmit_conserves ((s.bringTopup_entry i i e).trans he) _)

theorem State.injectionTakes_conserves (s : State) (f : AcceptedFrame) : Conserves s (s.injectionTakes f) := by
  refine (s.meter_conserves f).trans ?_
  unfold State.injectionTakes
  dsimp only
  split
  · exact .refl _
  · split
    · exact .refl _
    · next he =>
      split
      · exact State.drive_conserves he _
      · exact .refl _

/-! ## Bus Watch without an opening -/

theorem State.modChannel_carries (s : State) (b : Bus) (f : BusChannel → BusChannel) : Carries s (s.modChannel b f) := .of_eq rfl rfl

theorem State.countBus_carries (s : State) (b : Bus) (f : BusCounters → BusCounters) : Carries s (s.countBus b f) := .of_eq rfl rfl

theorem State.enterNormal_carries (s : State) (b : Bus) : Carries s (s.enterNormal b) := by
  have hcleared : Carries s ((s.modChannel b BusChannel.cleared).adopt b) := .of_eq rfl rfl
  refine hcleared.trans ?_
  unfold State.enterNormal State.tidyBus
  split
  · exact .refl _
  · dsimp only
    split
    · exact State.queueCommand_carries _ _ _
    · exact .refl _

theorem State.endSag_conserves (s : State) (b : Bus) (cause : EndCause) : Conserves s (s.endSag b cause) := by
  have huntracked : Carries s (s.endUntracked b) := by
    unfold State.endUntracked
    split
    · exact .of_eq rfl rfl
    · exact .refl s
  refine huntracked.conserves.trans ?_
  unfold State.endSag
  dsimp only
  split
  · exact .refl _
  · exact (State.endEvent_conserves _ _ _).trans (State.modChannel_carries _ _ _).conserves

theorem State.evaluateSwell_carries (s : State) (b : Bus) (r : BusRow) (f : AcceptedFrame) : Carries s (s.evaluateSwell b r f) := by
  unfold State.evaluateSwell
  split
  · exact (s.countBus_carries _ _).trans (State.addAlarm_carries _ _ _)
  · exact .refl s

theorem State.completeRecovery_conserves (s : State) (b : Bus) : Conserves s (s.completeRecovery b) :=
  (s.endSag_conserves b _).trans (State.enterNormal_carries _ b).conserves

theorem State.lowerStrike_carries (s : State) (b : Bus) (f : AcceptedFrame) : Carries s (s.lowerStrike b f) := by
  have hkept : ∀ (m : Nat) (e : Event), e.Continues (e.lowerStrike m) ∧ (e.lowerStrike m).unspent = e.unspent := fun m e => by
    unfold Event.lowerStrike
    split
    · exact ⟨.refl e, rfl⟩
    · exact ⟨.of_eq rfl rfl rfl rfl rfl rfl, rfl⟩
  unfold State.lowerStrike
  split
  · exact State.modEvent_carries (fun e _ => (hkept _ e).1) fun e _ => (hkept _ e).2
  · exact .refl s

theorem State.renewStrike_carries (s : State) (b : Bus) (f : AcceptedFrame) : Carries s (s.renewStrike b f) := by
  have hkept : ∀ (offset m : Nat) (e : Event), e.Continues (e.addStrike offset m) ∧ (e.addStrike offset m).unspent = e.unspent :=
    fun offset m e => by
      unfold Event.addStrike
      split <;> exact ⟨.of_eq rfl rfl rfl rfl rfl rfl, rfl⟩
  unfold State.renewStrike
  split
  · exact State.modEvent_carries (fun e _ => (hkept _ _ e).1) fun e _ => (hkept _ _ e).2
  · exact .refl s

theorem State.evaluateSag_conserves (s : State) (b : Bus) (r : BusRow) (f : AcceptedFrame) : Conserves s (s.evaluateSag b r f) := by
  refine (s.lowerStrike_carries b f).conserves.trans ?_
  unfold State.evaluateSag
  dsimp only
  split
  · exact .refl _
  · split
    · exact (State.modChannel_carries _ _ _).conserves.trans (State.completeRecovery_conserves _ _)
    · exact (State.modChannel_carries _ _ _).conserves

theorem State.evaluateRecovering_conserves (s : State) (b : Bus) (r : BusRow) (f : AcceptedFrame) :
    Conserves s (s.evaluateRecovering b r f) := by
  unfold State.evaluateRecovering
  split
  · dsimp only
    split
    · exact (s.modChannel_carries _ _).conserves.trans (State.completeRecovery_conserves _ _)
    · exact (s.modChannel_carries _ _).conserves
  · split
    · exact (s.modChannel_carries _ _).conserves
    · exact ((s.modChannel_carries _ _).trans (State.renewStrike_carries _ _ _)).conserves

theorem State.enterFaulted_conserves (s : State) (b : Bus) (f : AcceptedFrame) : Conserves s (s.enterFaulted b f) :=
  (State.report_conserves _ _).after ((State.modChannel_carries _ _ _).conserves.after (s.endSag_conserves b _))

theorem State.evaluateFaulted_conserves (s : State) (b : Bus) (r : BusRow) (f : AcceptedFrame) :
    Conserves s (s.evaluateFaulted b r f) := by
  unfold State.evaluateFaulted
  split
  · exact (s.modChannel_carries _ _).conserves
  · dsimp only
    split
    · exact ((s.modChannel_carries _ _).trans (State.enterNormal_carries _ _)).conserves.trans (State.report_conserves _ _)
    · exact (s.modChannel_carries _ _).conserves

theorem State.silenceExpires_conserves (s : State) (b : Bus) : Conserves s (s.silenceExpires b) := by
  unfold State.silenceExpires
  split
  · refine (State.report_conserves _ _).after ?_
    exact (s.endSag_conserves b _).trans ((State.modChannel_carries _ _ _).trans (State.modChannel_carries _ _ _)).conserves
  · exact .refl s

theorem State.serviceOff_conserves (s : State) (b : Bus) : Conserves s (s.serviceOff b) := by
  unfold State.serviceOff
  dsimp only
  split
  · exact .refl s
  · refine (State.report_conserves _ _).after ?_
    exact (s.endSag_conserves b _).trans ((State.modChannel_carries _ _ _).trans (State.modChannel_carries _ _ _)).conserves

theorem State.startSilence_carries (s : State) (b : Bus) : Carries s (s.startSilence b) := by
  unfold State.startSilence
  split
  · exact .refl s
  · exact s.modChannel_carries _ _

theorem State.serviceOn_conserves {s t : State} {b : Bus} (h : s.serviceOn b = some t) : Conserves s t := by
  unfold State.serviceOn at h
  split at h
  · cases h; exact .refl s
  · split at h
    · cases h
    · cases h
      exact (State.report_conserves _ _).after (((s.modChannel_carries b _).trans (State.enterNormal_carries _ b)).trans
        (State.startSilence_carries _ b)).conserves

/-! ## The ring ports (R159 to R168) -/

theorem State.deliver_carries (s : State) (bytes : List Byte) : Carries s (s.deliver bytes) := by
  have hmalformed : Carries s s.malformed := .of_eq rfl rfl
  unfold State.deliver
  dsimp only
  split
  · unfold State.arriveSense
    split
    · exact .of_eq rfl rfl
    · exact hmalformed
  · unfold State.arriveStore
    split
    · exact .of_eq rfl rfl
    · exact hmalformed
  · unfold State.arriveStatus
    split
    · exact .of_eq rfl rfl
    · exact hmalformed
  · unfold State.arriveRequest
    split
    · exact s.countPort_carries _
    · split
      · unfold State.enterRequest
        split
        · exact .of_eq rfl rfl
        · exact s.countPort_carries _
      · exact hmalformed
  · exact s.countPort_carries _

theorem State.classify_conserves (s : State) (bytes : List Byte) : Conserves s (s.classify bytes) := by
  unfold State.classify
  split
  · exact .of_eq rfl rfl
  · split
    · exact (s.countPort_carries _).conserves
    · split
      · exact s.enqueueTransit_conserves bytes
      · exact (s.deliver_carries bytes).conserves

theorem State.arrive_conserves (s : State) (bytes : List Byte) : Conserves s (s.arrive bytes) := by
  unfold State.arrive
  dsimp only
  split
  · exact (s.countPort_carries _).conserves.trans (State.classify_conserves _ _)
  · exact ((s.countPort_carries _).trans (State.countPort_carries _ _)).conserves

theorem State.completionNotices_carries (s : State) (f : EgressFrame) : Carries s (s.completionNotices f) := by
  unfold State.completionNotices
  split
  · dsimp only
    split
    · exact (s.modRecord_carries _ _).trans (State.modView_carries _ _ _)
    · exact s.modRecord_carries _ _
  · exact .refl s
  · exact .refl s
  · exact .refl s

theorem State.complete_conserves (s : State) : Conserves s s.complete := by
  unfold State.complete
  split
  · exact .refl s
  · next p _ =>
    have hnoted := (s.countPort_carries (PortCounters.sent p.frame)).trans (State.completionNotices_carries _ p.frame)
    exact .kick (Carries.trans hnoted (.of_eq rfl rfl))

/-! ## The time base -/

theorem State.expire_conserves (s : State) (x : Timer) : Conserves s (s.expire x) := by
  cases x with
  | silence b => exact s.silenceExpires_conserves b
  | store => exact s.storeExpires_conserves
  | acknowledgement k => exact s.ackExpires_conserves k
  | wait kind i => cases kind with
    | first => exact (s.firstExpires_carries i).conserves
    | topup => exact (s.topupExpires_carries i).conserves

theorem State.at_conserves (s : State) (time : Nat) : Conserves s (s.at time) := by
  unfold State.at
  refine Conserves.trans (Conserves.foldl (fun s x => ?_) _ s) (.of_eq rfl rfl)
  exact Conserves.trans (t := { s with now := max s.now x.expiry }) (.of_eq rfl rfl) (State.expire_conserves _ _)

end Sys2Proof.Machine
end

section
/-! SUPPORT. The energy accounts and the outcomes across an opening, the management requests and every command; the settlement of O6 and
O13. -/

namespace Sys2Proof.Machine

/-! ## Openings (R29 to R31) -/

/-- An operation that may fill free entries with accounted events, and otherwise keeps the balance. -/
structure Admits (s t : State) : Prop where
  budget : t.pool.budget = s.pool.budget
  fate : ∀ i e', t.entry i = some e' →
    (s.entry i = none ∧ e'.Accounted ∧ e'.Settled) ∨ ∃ e, s.entry i = some e ∧ e.Continues e'
  funds : s.Accounted → s.Settled → t.funds = s.funds

theorem Conserves.admits {s t : State} (h : Conserves s t) : Admits s t := ⟨h.budget, fun i e' he' => .inr (h.follows i e' he'), h.funds⟩

theorem Admits.accounted {s t : State} (h : Admits s t) (hs : s.Accounted) : t.Accounted := fun i e' he' => by
  rcases h.fate i e' he' with ⟨-, ha, -⟩ | ⟨e, he, hc⟩
  · exact ha
  · exact hc.accounted (hs i e he)

theorem Admits.settled {s t : State} (h : Admits s t) (hs : s.Settled) : t.Settled := fun i e' he' => by
  rcases h.fate i e' he' with ⟨-, -, ha⟩ | ⟨e, he, hc⟩
  · exact ha
  · exact hc.settled (hs i e he)

theorem Admits.then {s t u : State} (h : Admits s t) (k : Conserves t u) : Admits s u where
  budget := k.budget.trans h.budget
  fate := fun i e'' he'' => by
    obtain ⟨e', he', hc⟩ := k.follows i e'' he''
    rcases h.fate i e' he' with ⟨hn, ha, hs⟩ | ⟨e, he, hc'⟩
    · exact .inl ⟨hn, hc.accounted ha, hc.settled hs⟩
    · exact .inr ⟨e, he, hc'.trans hc⟩
  funds := fun ha hs => (k.funds (h.accounted ha) (h.settled hs)).trans (h.funds ha hs)

/-- The same from a state of the same entries and the same pool. -/
theorem Admits.behind {s t u : State} (k : Admits t u) (he : t.events.entries = s.events.entries) (hp : t.pool = s.pool) :
    Admits s u where
  budget := k.budget.trans (by rw [hp])
  fate := fun i e' he' => by
    rw [← State.entry_congr he i]
    exact k.fate i e' he'
  funds := fun ha hs => by
    have h : Conserves s t := .of_eq he hp
    exact (k.funds (h.follows.accounted ha) (h.follows.settled hs)).trans (h.funds ha hs)

/-- An event that has been granted nothing and has drawn nothing. -/
structure Event.Fresh (e : Event) : Prop where
  accounted : e.Accounted
  unspent : e.unspent = 0

theorem Event.opened_fresh (b : Bus) (order start : U32) (copy : OpenedUnder) (lowest : Nat) (lastFrame : U32) :
    (Event.opened b order start copy lowest lastFrame).Fresh := by
  constructor
  · constructor <;> simp [Event.opened]
  · simp [Event.opened, Event.unspent]

theorem State.startEvent_admits {s : State} {i : EventIx} {e : Event} (hi : s.entry i = none) (he : e.Fresh) (f : SenseFrame) :
    Admits s (s.startEvent i e f) := by
  obtain ⟨e', hentry, hform⟩ := s.startEvent_entry i e f
  have hself := (hentry i).trans (if_pos rfl)
  have hfresh : e'.Fresh := by
    rcases hform with rfl | ⟨n, rfl⟩
    · exact ⟨he.accounted.congr rfl rfl rfl rfl, he.unspent⟩
    · exact ⟨he.accounted.congr rfl rfl rfl rfl, he.unspent⟩
  refine ⟨by simp, fun j x hx => ?_, fun _ _ => ?_⟩
  · by_cases hj : i = j
    · subst hj
      rw [hself] at hx
      cases hx
      exact .inl ⟨hi, hfresh.accounted, fun _ => hfresh.unspent⟩
    · rw [hentry, if_neg hj] at hx
      exact .inr ⟨x, hx, .refl x⟩
  · have hsum := State.unspentSum_exchange (s := s) (t := s.startEvent i e f) i fun j hj => by
      rw [hentry, if_neg hj.symm]
    rw [State.unspentOf_none hi, State.unspentOf_some hself, hfresh.unspent] at hsum
    have hr : (s.startEvent i e f).releaseSum = s.releaseSum := State.releaseSum_congr (Stands.amountOf (.of_eq (by simp)))
    simp only [State.funds, hr, State.startEvent_frame]
    omega

theorem State.openEvent_admits {s t : State} {r : BusRow} {start : U32} {lowest : Nat} {f : AcceptedFrame} {i : EventIx}
    (h : s.openEvent r start lowest f = some (i, t)) : Admits s t := by
  unfold State.openEvent at h
  split at h
  · cases h
  · next j hj =>
    simp only [Option.some.injEq, Prod.mk.injEq] at h
    obtain ⟨rfl, rfl⟩ := h
    refine Admits.then ?_ (State.captureOpening_conserves _ _ _ _)
    generalize hu : ({ s with events.openCounter := s.events.openCounter + 1 } : State).setRate j none = u
    have hentries : u.events.entries = s.events.entries := by subst hu; rfl
    have hpool : u.pool = s.pool := by subst hu; rfl
    have hfree := (State.entry_congr hentries j).trans (State.freeEntry_free hj)
    exact Admits.behind (State.startEvent_admits hfree (Event.opened_fresh _ _ _ _ _ _) _) hentries hpool

theorem State.confirmSag_admits (s : State) (b : Bus) (r : BusRow) (f : AcceptedFrame) : Admits s (s.confirmSag b r f) := by
  unfold State.confirmSag
  dsimp only
  split
  · next h =>
    exact (State.openEvent_admits h).then ((State.modChannel_carries _ _ _).trans (State.countBus_carries _ _ _)).conserves
  · exact ((s.modChannel_carries _ _).trans (State.addAlarm_carries _ _ _)).conserves.admits

theorem State.evaluateNormal_admits (s : State) (b : Bus) (r : BusRow) (f : AcceptedFrame) :
    Admits s (s.evaluateNormal b r f) := by
  unfold State.evaluateNormal
  dsimp only
  split
  · split
    · exact (State.confirmSag_admits _ _ _ _).behind (by simp) (by simp)
    · exact ((s.evaluateSwell_carries b r f).trans (State.modChannel_carries _ _ _)).conserves.admits
  · exact (s.evaluateSwell_carries b r f).conserves.admits

theorem State.evaluateSuspect_admits (s : State) (b : Bus) (r : BusRow) (f : AcceptedFrame) :
    Admits s (s.evaluateSuspect b r f) := by
  unfold State.evaluateSuspect
  split
  · dsimp only
    split
    · exact (State.confirmSag_admits _ _ _ _).behind rfl rfl
    · exact (s.modChannel_carries _ _).conserves.admits
  · exact ((s.countBus_carries _ _).trans (State.enterNormal_carries _ _)).conserves.admits

theorem State.evaluate_admits (s : State) (b : Bus) (r : BusRow) (f : AcceptedFrame) : Admits s (s.evaluate b r f) := by
  have hfault := (s.enterFaulted_conserves b f).admits
  unfold State.evaluate
  split
  · exact (s.evaluateFaulted_conserves b r f).admits
  · exact ((s.enterNormal_carries b).conserves.trans (State.report_conserves _ _)).admits
  · exact (Conserves.refl s).admits
  · split
    · exact hfault
    · exact s.evaluateNormal_admits b r f
  · split
    · exact hfault
    · exact s.evaluateSuspect_admits b r f
  · split
    · exact hfault
    · exact (s.evaluateSag_conserves b r f).admits
  · split
    · exact hfault
    · exact (s.evaluateRecovering_conserves b r f).admits

theorem State.takeSense_admits (s : State) (x : HandedSense) : Admits s (s.takeSense x) := by
  unfold State.takeSense
  split
  · exact (s.countPort_carries _).conserves.admits
  · exact (s.countBus_carries _ _).conserves.admits
  · exact (s.countBus_carries _ _).conserves.admits
  · exact (s.countBus_carries _ _).conserves.admits
  · next b r _ =>
    have heval := State.evaluate_admits (s.modChannel b (BusChannel.accept s.now r x)) b r ((s.channel b).acceptedFrame b r x)
    exact (Admits.behind (s := s) heval rfl rfl).then (.of_eq rfl rfl)

theorem State.takeNextSense_admits (s : State) : Admits s s.takeNextSense := by
  unfold State.takeNextSense
  split
  · exact (Conserves.refl s).admits
  · exact Admits.behind (State.takeSense_admits _ _) rfl rfl

theorem State.settleAhead_admits (s : State) : Admits s s.settleAhead := by
  unfold State.settleAhead
  split
  · exact (Conserves.refl s).admits
  · split
    · exact s.takeNextSense_admits
    · exact (Conserves.refl s).admits

/-! ## The management requests -/

theorem State.unless_keeps {s : State} {reason : Option Reason} {go : Handled} (h : Keeps s go.1) :
    Keeps s (s.unless reason go).1 := by
  cases reason with
  | none => exact h
  | some r => exact .refl s

theorem State.onBus_keeps {s : State} {fields : List Byte} {go : Bus → Handled} (h : ∀ b, Keeps s (go b).1) :
    Keeps s (s.onBus fields go).1 := by
  unfold State.onBus
  split
  · exact .refl s
  · exact h _

theorem State.onRecorder_keeps {s : State} {n : Nat} {fields : List Byte} {go : CaptureIx → Handled}
    (h : ∀ k, Keeps s (go k).1) : Keeps s (s.onRecorder n fields go).1 := by
  unfold State.onRecorder
  split
  · exact .refl s
  · exact h _

theorem State.answerHead_keeps {f : Request → State → Handled} (h : ∀ r s, Keeps s (f r s).1) (row : RequestRow) (s : State) :
    Keeps s (s.answerHead row f) := by
  unfold State.answerHead
  split
  · exact .refl s
  · split
    · next r rest _ _ =>
      have htaken : Carries s { s with management.requests := rest } := .of_eq rfl rfl
      exact (State.respond_conserves _ _).keeps.after ((h r _).after htaken.keeps)
    · exact .refl s

theorem State.setStandby_keeps (s : State) (b : Bank) : Keeps s (s.setStandby b) := Carries.keeps (.of_eq rfl rfl)

theorem loadBusRow_keeps (r : Request) (s : State) : Keeps s (loadBusRow r s).1 := by
  refine State.unless_keeps (State.unless_keeps ?_)
  split
  · exact .refl s
  · refine State.unless_keeps ?_
    unfold State.loadRowOf
    split
    · exact s.setStandby_keeps _
    · refine State.unless_keeps ?_
      split
      · exact .refl s
      · exact s.setStandby_keeps _

theorem loadEnvelopeRow_keeps (r : Request) (s : State) : Keeps s (loadEnvelopeRow r s).1 := by
  refine State.unless_keeps (State.unless_keeps (State.unless_keeps ?_))
  split
  · exact .refl s
  · exact s.setStandby_keeps _

theorem loadStoreParameters_keeps (r : Request) (s : State) : Keeps s (loadStoreParameters r s).1 := by
  refine State.unless_keeps (State.unless_keeps (State.unless_keeps ?_))
  unfold State.loadStoreOf
  split
  · exact s.setStandby_keeps _
  · refine State.unless_keeps ?_
    split
    · exact .refl s
    · exact s.setStandby_keeps _

theorem readRow_keeps (r : Request) (s : State) : Keeps s (readRow r s).1 := by
  refine State.unless_keeps ?_
  split
  · exact .refl s
  · unfold State.readTable
    split
    · split <;> exact .refl s
    · split <;> exact .refl s
    · exact .refl s
    · exact .refl s

theorem commitBank_keeps (r : Request) (s : State) : Keeps s (commitBank r s).1 := by
  refine State.unless_keeps (State.unless_keeps ?_)
  obtain ⟨hp, -, he, -, -⟩ := s.switched_frame
  have hswitched : Carries s s.switched := .of_eq (by rw [he]) hp
  rw [State.commit_fst]
  exact (hswitched.conserves.trans s.switched.storeCommitted_conserves).keeps

theorem setServiceOff_keeps (r : Request) (s : State) : Keeps s (setServiceOff r s).1 :=
  State.unless_keeps (State.onBus_keeps fun b => State.unless_keeps (s.serviceOff_conserves b).keeps)

theorem setServiceOn_keeps (r : Request) (s : State) : Keeps s (setServiceOn r s).1 := by
  refine State.unless_keeps (State.onBus_keeps fun b => ?_)
  split
  · next h => exact (State.serviceOn_conserves h).keeps
  · exact .refl s

theorem State.maskRecorder_carries (s : State) (k : CaptureIx) : Carries s (s.maskRecorder k) := by
  unfold State.maskRecorder
  refine (State.modRecorder_carries _ _ _).after ?_
  split
  · exact s.truncatePass_carries k
  · exact .refl s

theorem captureMask_keeps (r : Request) (s : State) : Keeps s (captureMask r s).1 :=
  State.unless_keeps (State.onRecorder_keeps fun k => (s.maskRecorder_carries k).keeps)

theorem captureUnmask_keeps (r : Request) (s : State) : Keeps s (captureUnmask r s).1 :=
  State.unless_keeps (State.onRecorder_keeps fun k => State.unless_keeps (s.modRecorder_carries k _).keeps)

theorem loadCaptureChannel_keeps (r : Request) (s : State) : Keeps s (loadCaptureChannel r s).1 := by
  refine State.unless_keeps (State.onRecorder_keeps fun k => State.unless_keeps (State.unless_keeps (State.unless_keeps ?_)))
  split
  · exact .refl s
  · exact (s.modRecorder_carries k _).keeps

theorem readCaptureRecords_keeps (r : Request) (s : State) : Keeps s (readCaptureRecords r s).1 :=
  State.unless_keeps (State.unless_keeps (State.unless_keeps (State.unless_keeps (State.unless_keeps (.refl s)))))

theorem readCaptureChannel_keeps (r : Request) (s : State) : Keeps s (readCaptureChannel r s).1 :=
  State.unless_keeps (State.onRecorder_keeps fun _ => .refl s)

theorem readIdentity_keeps (r : Request) (s : State) : Keeps s (readIdentity r s).1 := State.unless_keeps (.refl s)

theorem readBus_keeps (r : Request) (s : State) : Keeps s (readBus r s).1 := State.unless_keeps (State.onBus_keeps fun _ => .refl s)

theorem takeAlarmsBus_keeps (r : Request) (s : State) : Keeps s (takeAlarmsBus r s).1 :=
  State.unless_keeps (State.onBus_keeps fun _ => Carries.keeps (.of_eq rfl rfl))

theorem takeAlarmsPool_keeps (r : Request) (s : State) : Keeps s (takeAlarmsPool r s).1 :=
  State.unless_keeps (Carries.keeps (.of_pool rfl rfl rfl rfl rfl))

theorem readEvent_keeps (r : Request) (s : State) : Keeps s (readEvent r s).1 := by
  refine State.unless_keeps ?_
  split <;> exact .refl s

theorem readPool_keeps (r : Request) (s : State) : Keeps s (readPool r s).1 := State.unless_keeps (.refl s)

theorem readRelease_keeps (r : Request) (s : State) : Keeps s (readRelease r s).1 := by
  refine State.unless_keeps ?_
  split <;> exact .refl s

theorem readPorts_keeps (r : Request) (s : State) : Keeps s (readPorts r s).1 := State.unless_keeps (.refl s)

theorem latchMetering_keeps (r : Request) (s : State) : Keeps s (latchMetering r s).1 := by
  refine State.unless_keeps ?_
  split
  · exact .refl s
  · exact Carries.keeps (.of_eq rfl rfl)

theorem readSnapshot_keeps (r : Request) (s : State) : Keeps s (readSnapshot r s).1 := by
  refine State.unless_keeps (State.unless_keeps (State.unless_keeps ?_))
  split
  · exact .refl s
  · show Keeps s (if byteAt r.fields 1 = 1 then { s with management.snapshot := none } else s)
    split
    · exact Carries.keeps (.of_eq rfl rfl)
    · exact .refl s

/-! ## RESTART (R189) -/

/-- Nothing is held and no term of the balance is left. -/
theorem energySound_of_empty {s : State} (he : ∀ i, s.entry i = none) (hr : ∀ r, s.release r = none) (hb : s.pool.budget = 0)
    (hf : s.pool.free = 0) (hd : s.pool.drawn = 0) : EnergySound s := by
  rw [energySound_iff]
  refine ⟨fun i e h => by simp [he] at h, fun i e h => by simp [he] at h, ?_⟩
  have hu : s.unspentSum = 0 := by
    rw [State.unspentSum_eq]
    exact Finset.sum_eq_zero fun i _ => State.unspentOf_none (he i)
  have ha : s.releaseSum = 0 := by
    rw [State.releaseSum_eq]
    exact Finset.sum_eq_zero fun r _ => State.amountOf_none (hr r)
  rw [State.funds, hu, ha, hb, hf, hd]

theorem State.emptied_pool (s : State) (l : List Station) :
    (∀ r, (s.emptied l).release r = none) ∧ (s.emptied l).pool.budget = 0 ∧ (s.emptied l).pool.free = 0 ∧
      (s.emptied l).pool.drawn = 0 :=
  ⟨fun r => by simp [State.emptied, State.emptyInjection, State.emptyPool, State.release], rfl, rfl, rfl⟩

theorem State.tidyBus_stands (s : State) (b : Bus) : Stands s (s.tidyBus b) := by
  unfold State.tidyBus
  split
  · exact .refl s
  · dsimp only
    split
    · exact s.queueCommand_stands _ _
    · exact .refl s

theorem State.restartBus_carries (s : State) (b : Bus) : Carries s (s.restartBus b) := by
  unfold State.restartBus
  split
  · exact .refl s
  · refine (State.startSilence_carries _ b).after ((State.enterNormal_carries _ b).after ?_)
    unfold State.endUntracked
    split
    · exact .of_eq rfl rfl
    · exact .refl s

theorem State.restartBus_stands (s : State) (b : Bus) : Stands s (s.restartBus b) := by
  unfold State.restartBus
  split
  · exact .refl s
  · have htidy : Stands s ((s.endUntracked b).enterNormal b) := (State.tidyBus_stands _ b).after (.of_eq (by simp))
    exact Stands.after (.of_eq (by simp)) htidy

theorem State.restart_energySound (s : State) (force : Bool) : EnergySound (s.restart force).1 := by
  obtain ⟨-, -, -, he, -⟩ := s.restart_parts force
  obtain ⟨hr, hb, hf, hd⟩ := s.emptied_pool s.restartStacks
  obtain ⟨hb', hf', hd', hr'⟩ : (allBuses.foldl State.restartBus (s.emptied s.restartStacks)).pool.budget = 0 ∧
      (allBuses.foldl State.restartBus (s.emptied s.restartStacks)).pool.free = 0 ∧
      (allBuses.foldl State.restartBus (s.emptied s.restartStacks)).pool.drawn = 0 ∧
      ∀ r, (allBuses.foldl State.restartBus (s.emptied s.restartStacks)).release r = none :=
    ⟨by simp [hb], by simp [hf], by simp [hd], fun r => (Stands.foldl State.restartBus_stands allBuses _).vacant (hr r)⟩
  rw [State.restart_fst] at he ⊢
  generalize allBuses.foldl State.restartBus (s.emptied s.restartStacks) = t at *
  exact energySound_of_empty he hr' hb' hf' hd'

theorem restart_keeps (r : Request) (s : State) : Keeps s (restart r s).1 := by
  refine State.unless_keeps (State.unless_keeps ?_)
  split
  · exact .refl s
  · refine ⟨fun _ => s.restart_energySound _, fun i e' he' => ?_⟩
    obtain ⟨-, -, -, he, -⟩ := s.restart_parts (decide (byteAt r.fields 0 = 1))
    simp [he i] at he'

/-! ## Every command -/

/-- What a command does to the accounts and to the outcomes of the entries held before and after it. -/
structure Reckons (s t : State) : Prop where
  sound : s.Owned → EnergySound s → EnergySound t
  outcome : ∀ i e e' o, s.entry i = some e → t.entry i = some e' → e.outcome = some o → e'.outcome = some o

theorem Keeps.reckons {s t : State} (h : Keeps s t) : Reckons s t := by
  refine ⟨fun _ => h.sound, fun i e e' o he he' ho => ?_⟩
  obtain ⟨x, hx, hk⟩ := h.tells i e' he'
  rw [he] at hx
  cases hx
  exact hk o ho

theorem Conserves.reckons {s t : State} (h : Conserves s t) : Reckons s t := h.keeps.reckons

theorem Admits.reckons {s t : State} (h : Admits s t) : Reckons s t := by
  refine ⟨fun _ hs => ?_, fun i e e' o he he' ho => ?_⟩
  · rw [energySound_iff] at hs ⊢
    obtain ⟨ha, hr, hb⟩ := hs
    exact ⟨h.accounted ha, h.settled hr, (h.funds ha hr).trans (hb.trans h.budget.symm)⟩
  · rcases h.fate i e' he' with ⟨hn, -⟩ | ⟨x, hx, hc⟩
    · simp [he] at hn
    · rw [he] at hx
      cases hx
      exact hc.outcome o ho

theorem Reckons.then {s t u : State} (h : Reckons s t) (k : Keeps t u) : Reckons s u := by
  refine ⟨fun hown hs => k.sound (h.sound hown hs), fun i e e'' o he he'' ho => ?_⟩
  obtain ⟨e', he', hk⟩ := k.tells i e'' he''
  exact hk o (h.outcome i e e' o he he' ho)

theorem State.answerSettled_reckons {f : Request → State → Handled} (h : ∀ r s, Keeps s (f r s).1) (row : RequestRow) (s : State) :
    Reckons s (s.answerSettled row f) := by
  unfold State.answerSettled
  refine Reckons.then ?_ (State.answerHead_keeps h row _)
  split
  · exact s.settleAhead_admits.reckons
  · exact (Keeps.refl s).reckons

theorem State.servicePass_reckons (s : State) : Reckons s s.servicePass := by
  refine ⟨fun hown => (State.servicePass_conserves hown).energySound, fun i e e' o he he' ho => ?_⟩
  obtain ⟨x, hx, hk⟩ := s.servicePass_tells i e' he'
  rw [he] at hx
  cases hx
  exact hk o ho

theorem State.markAhead_carries (s : State) (mark : TakenAhead → TakenAhead) : Carries s (s.markAhead mark) := by
  unfold State.markAhead
  split
  · exact .refl s
  · exact .of_eq rfl rfl

theorem exec_request_reckons (row : RequestRow) (s : State) : ∃ t, exec row.command s = .next t ∧ Reckons s t := by
  have head : ∀ {f : Request → State → Handled}, (∀ r s, Keeps s (f r s).1) → Reckons s (s.answerHead row f) :=
    fun h => (State.answerHead_keeps h row s).reckons
  cases row with
  | readIdentity => exact ⟨_, rfl, head readIdentity_keeps⟩
  | loadBusRow => exact ⟨_, rfl, head loadBusRow_keeps⟩
  | loadEnvelopeRow => exact ⟨_, rfl, head loadEnvelopeRow_keeps⟩
  | loadStoreParameters => exact ⟨_, rfl, head loadStoreParameters_keeps⟩
  | readRow => exact ⟨_, rfl, head readRow_keeps⟩
  | commitBank => exact ⟨_, rfl, State.answerSettled_reckons commitBank_keeps _ s⟩
  | setServiceOff => exact ⟨_, rfl, State.answerSettled_reckons setServiceOff_keeps _ s⟩
  | setServiceOn => exact ⟨_, rfl, head setServiceOn_keeps⟩
  | captureMask => exact ⟨_, rfl, head captureMask_keeps⟩
  | captureUnmask => exact ⟨_, rfl, head captureUnmask_keeps⟩
  | loadCaptureChannel => exact ⟨_, rfl, head loadCaptureChannel_keeps⟩
  | readBus => exact ⟨_, rfl, head readBus_keeps⟩
  | takeAlarmsBus => exact ⟨_, rfl, head takeAlarmsBus_keeps⟩
  | takeAlarmsPool => exact ⟨_, rfl, head takeAlarmsPool_keeps⟩
  | readEvent => exact ⟨_, rfl, head readEvent_keeps⟩
  | readPool => exact ⟨_, rfl, head readPool_keeps⟩
  | readRelease => exact ⟨_, rfl, head readRelease_keeps⟩
  | readPorts => exact ⟨_, rfl, head readPorts_keeps⟩
  | latchMetering => exact ⟨_, rfl, head latchMetering_keeps⟩
  | readSnapshot => exact ⟨_, rfl, head readSnapshot_keeps⟩
  | readCaptureRecords => exact ⟨_, rfl, head readCaptureRecords_keeps⟩
  | readCaptureChannel => exact ⟨_, rfl, head readCaptureChannel_keeps⟩
  | restart => exact ⟨_, rfl, State.answerSettled_reckons restart_keeps _ s⟩
  | unknownRequest => exact ⟨_, rfl, head fun _ s => .refl s⟩

/-- A command's next state, reckoned with. -/
def Reckoned (c : Instr) (s : State) : Prop := ∃ t, exec c s = .next t ∧ Reckons s t

theorem Conserves.reckoned {c : Instr} {s t : State} (h : Conserves s t) (he : exec c s = .next t) : Reckoned c s :=
  ⟨t, he, h.reckons⟩

/-- A unit's frame command. -/
theorem frameCommand_conserves {take : State → AcceptedFrame → State} (ht : ∀ s f, Conserves s (take s f)) (s : State) :
    (∀ f rest, Conserves s (take { s with handed.injection := rest } f)) ∧
    (∀ f rest, Conserves s (take { s with handed.envelope := rest } f)) ∧
    (∀ f rest, Conserves s (take { s with handed.capture := rest } f)) ∧
    (∀ f mark, Conserves s (take (s.markAhead mark) f)) :=
  ⟨fun _ _ => (ht _ _).after (.of_eq rfl rfl), fun _ _ => (ht _ _).after (.of_eq rfl rfl),
    fun _ _ => (ht _ _).after (.of_eq rfl rfl), fun _ _ => (ht _ _).after (s.markAhead_carries _).conserves⟩

theorem injectionFrame_reckoned (turn : FrameTurn) (s : State) : Reckoned (.injectionFrame turn) s := by
  obtain ⟨h, -, -, hahead⟩ := frameCommand_conserves (take := State.injectionTakes) State.injectionTakes_conserves s
  cases turn with
  | passedOn =>
    cases hq : s.handed.injection with
    | nil => exact (Conserves.refl s).reckoned (by simp [exec, execInjectionFrame, hq])
    | cons f rest => exact (h f rest).reckoned (by simp [exec, execInjectionFrame, hq])
  | ahead =>
    cases hq : s.frameAhead s.handed.injection (·.injection) with
    | none => exact (Conserves.refl s).reckoned (by simp [exec, execInjectionFrame, hq])
    | some f => exact (hahead f fun t => { t with injection := true }).reckoned (by simp [exec, execInjectionFrame, hq])

theorem envelopeJudge_reckoned (turn : FrameTurn) (s : State) : Reckoned (.envelopeJudge turn) s := by
  obtain ⟨-, h, -, hahead⟩ := frameCommand_conserves (take := State.envelopeTakes)
    (fun s f => (s.envelopeTakes_carries f).conserves) s
  cases turn with
  | passedOn =>
    cases hq : s.handed.envelope with
    | nil => exact (Conserves.refl s).reckoned (by simp [exec, execEnvelopeJudge, hq])
    | cons f rest => exact (h f rest).reckoned (by simp [exec, execEnvelopeJudge, hq])
  | ahead =>
    cases hq : s.frameAhead s.handed.envelope (·.envelope) with
    | none => exact (Conserves.refl s).reckoned (by simp [exec, execEnvelopeJudge, hq])
    | some f => exact (hahead f fun t => { t with envelope := true }).reckoned (by simp [exec, execEnvelopeJudge, hq])

theorem captureFrame_reckoned (turn : FrameTurn) (s : State) : Reckoned (.captureFrame turn) s := by
  obtain ⟨-, -, h, hahead⟩ := frameCommand_conserves (take := State.captureTakes) State.captureTakes_conserves s
  cases turn with
  | passedOn =>
    cases hq : s.handed.capture with
    | nil => exact (Conserves.refl s).reckoned (by simp [exec, execCaptureFrame, hq])
    | cons f rest => exact (h f rest).reckoned (by simp [exec, execCaptureFrame, hq])
  | ahead =>
    cases hq : s.frameAhead s.handed.capture (·.capture) with
    | none => exact (Conserves.refl s).reckoned (by simp [exec, execCaptureFrame, hq])
    | some f => exact (hahead f fun t => { t with capture := true }).reckoned (by simp [exec, execCaptureFrame, hq])

theorem storeFrame_reckoned (s : State) : Reckoned .storeFrame s := by
  cases hq : s.handed.store with
  | nil => exact (Conserves.refl s).reckoned (by simp [exec, execStoreFrame, hq])
  | cons x rest =>
    have h : Carries s { s with handed.store := rest } := .of_eq rfl rfl
    exact ⟨_, by simp [exec, execStoreFrame, hq], ((State.takeStore_keeps _ x).after h.keeps).reckons⟩

theorem stackStatus_reckoned (turn : NoticeTurn) (s : State) : Reckoned (.stackStatus turn) s := by
  cases hq : s.handed.status with
  | nil => exact (Conserves.refl s).reckoned (by simp [exec, execStackStatus, hq])
  | cons x rest =>
    have h : Conserves s { s with handed.status := rest } := .of_eq rfl rfl
    exact ((State.takeStatus_conserves _ x turn).after h).reckoned (by simp [exec, execStackStatus, hq])

theorem stackNotice_reckoned (s : State) : Reckoned .stackNotice s := by
  cases hq : s.handed.notices with
  | nil => exact (Conserves.refl s).reckoned (by simp [exec, execStackNotice, hq])
  | cons n rest =>
    have h : Conserves s { s with handed.notices := rest } := .of_eq rfl rfl
    exact ((State.takeNotice_conserves _ n).after h).reckoned (by simp [exec, execStackNotice, hq])

theorem topupRequest_reckoned (s : State) : Reckoned .topupRequest s := by
  cases hq : s.handed.topups with
  | nil => exact (Conserves.refl s).reckoned (by simp [exec, execTopupRequest, hq])
  | cons x rest =>
    have h : Carries s { s with handed.topups := rest } := .of_eq rfl rfl
    exact (h.trans (State.takeTopup_carries _ x)).conserves.reckoned (by simp [exec, execTopupRequest, hq])

theorem silenceExpiry_reckoned (time bus : Nat) (s : State) : Reckoned (.silenceExpiry time bus) s := by
  cases hb : busAt? bus with
  | none => exact (s.at_conserves time).reckoned (by simp [exec, execSilenceExpiry, hb])
  | some b =>
    exact ((State.silenceExpires_conserves _ b).after (s.at_conserves time)).reckoned (by simp [exec, execSilenceExpiry, hb])

theorem ackTimerExpiry_reckoned (time stack : Nat) (s : State) : Reckoned (.ackTimerExpiry time stack) s := by
  cases hk : stationAt? stack with
  | none => exact (s.at_conserves time).reckoned (by simp [exec, execAckTimerExpiry, hk])
  | some k =>
    exact ((State.ackExpires_conserves _ k).after (s.at_conserves time)).reckoned (by simp [exec, execAckTimerExpiry, hk])

theorem firstWaitExpiry_reckoned (time event : Nat) (s : State) : Reckoned (.firstWaitExpiry time event) s := by
  cases hi : eventAt? event with
  | none => exact (s.at_conserves time).reckoned (by simp [exec, execFirstWaitExpiry, hi])
  | some i =>
    exact ((State.firstExpires_carries _ i).conserves.after (s.at_conserves time)).reckoned
      (by simp [exec, execFirstWaitExpiry, hi])

theorem topupWaitExpiry_reckoned (time event : Nat) (s : State) : Reckoned (.topupWaitExpiry time event) s := by
  cases hi : eventAt? event with
  | none => exact (s.at_conserves time).reckoned (by simp [exec, execTopupWaitExpiry, hi])
  | some i =>
    exact ((State.topupExpires_carries _ i).conserves.after (s.at_conserves time)).reckoned
      (by simp [exec, execTopupWaitExpiry, hi])

/-- Every command but POWER_ON keeps the accounts and the outcomes. -/
theorem exec_reckoned (c : Instr) (s : State) (hc : c ≠ .powerOn) : Reckoned c s := by
  cases c with
  | powerOn => exact absurd rfl hc
  | frameArrival time bytes => exact ((State.arrive_conserves _ bytes).after (s.at_conserves time)).reckoned rfl
  | senseFrame => exact ⟨_, rfl, s.takeNextSense_admits.reckons⟩
  | injectionFrame turn => exact injectionFrame_reckoned turn s
  | envelopeJudge turn => exact envelopeJudge_reckoned turn s
  | captureFrame turn => exact captureFrame_reckoned turn s
  | silenceExpiry time bus => exact silenceExpiry_reckoned time bus s
  | storeFrame => exact storeFrame_reckoned s
  | storeSilenceExpiry time => exact ((State.storeExpires_conserves _).after (s.at_conserves time)).reckoned rfl
  | stackStatus turn => exact stackStatus_reckoned turn s
  | stackNotice => exact stackNotice_reckoned s
  | ackTimerExpiry time stack => exact ackTimerExpiry_reckoned time stack s
  | topupRequest => exact topupRequest_reckoned s
  | servicePass => exact ⟨_, rfl, s.servicePass_reckons⟩
  | firstWaitExpiry time event => exact firstWaitExpiry_reckoned time event s
  | topupWaitExpiry time event => exact topupWaitExpiry_reckoned time event s
  | frameCompletion time => exact ((State.complete_conserves _).after (s.at_conserves time)).reckoned rfl
  | readIdentity => exact exec_request_reckons .readIdentity s
  | loadBusRow => exact exec_request_reckons .loadBusRow s
  | loadEnvelopeRow => exact exec_request_reckons .loadEnvelopeRow s
  | loadStoreParameters => exact exec_request_reckons .loadStoreParameters s
  | readRow => exact exec_request_reckons .readRow s
  | commitBank => exact exec_request_reckons .commitBank s
  | setServiceOff => exact exec_request_reckons .setServiceOff s
  | setServiceOn => exact exec_request_reckons .setServiceOn s
  | captureMask => exact exec_request_reckons .captureMask s
  | captureUnmask => exact exec_request_reckons .captureUnmask s
  | loadCaptureChannel => exact exec_request_reckons .loadCaptureChannel s
  | readBus => exact exec_request_reckons .readBus s
  | takeAlarmsBus => exact exec_request_reckons .takeAlarmsBus s
  | takeAlarmsPool => exact exec_request_reckons .takeAlarmsPool s
  | readEvent => exact exec_request_reckons .readEvent s
  | readPool => exact exec_request_reckons .readPool s
  | readRelease => exact exec_request_reckons .readRelease s
  | readPorts => exact exec_request_reckons .readPorts s
  | latchMetering => exact exec_request_reckons .latchMetering s
  | readSnapshot => exact exec_request_reckons .readSnapshot s
  | readCaptureRecords => exact exec_request_reckons .readCaptureRecords s
  | readCaptureChannel => exact exec_request_reckons .readCaptureChannel s
  | restart => exact exec_request_reckons .restart s
  | unknownRequest => exact exec_request_reckons .unknownRequest s

theorem exec_reckons {c : Instr} {s t : State} (hc : c ≠ .powerOn) (h : exec c s = .next t) : Reckons s t := by
  obtain ⟨u, hu, hr⟩ := exec_reckoned c s hc
  rw [hu] at h
  cases h
  exact hr

/-- Every command, POWER_ON too, keeps the accounts. -/
theorem exec_energySound {c : Instr} {s t : State} (hown : s.Owned) (hs : EnergySound s) (h : exec c s = .next t) :
    EnergySound t := by
  by_cases hc : c = .powerOn
  · subst hc
    cases h
    have hreset : Conserves State.reset { State.reset with pending := s.pending } := .of_eq rfl rfl
    exact hreset.energySound reset_energySound
  · exact (exec_reckons hc h).sound hown hs

/-- Settles O6, by what every command does to the balance and to the accounts of the entries. -/
theorem energyKept : Obligations.EnergyKept := fun s t hq hs h => by
  cases hp : s.pending with
  | nil =>
    rw [step, hp] at h
    cases h
    exact (s.at_conserves _).energySound hs
  | cons c rest =>
    rw [step, hp] at h
    have hrest : Conserves s { s with pending := rest } := .of_eq rfl rfl
    exact exec_energySound (s := { s with pending := rest }) (hq.requestsOwned.congr rfl fun _ => rfl) (hrest.energySound hs) h

/-- Settles O13, by what every command but POWER_ON does to the entries. -/
theorem outcomeSetOnce : Obligations.OutcomeSetOnce := fun _ _ _ i e e' o h hc he ho he' _ =>
  (exec_reckons hc h).outcome i e e' o he he' ho

end Sys2Proof.Machine
end

section
/-! SUPPORT. The reads of the Management Unit (R48, R87, R108, R156, R157, R171, R184) and the settlement of O53. -/

namespace Sys2Proof.Machine

/-! ## Numbers of the tables -/

theorem eventAt?_of_val {i : EventIx} {n : Nat} (h : i.val = n) : eventAt? n = some i := h ▸ eventAt?_val i

theorem eventAt?_of_lt {n : Nat} (h : 31 < n) : eventAt? n = none := by
  simp [eventAt?]
  omega

theorem releaseAt?_of_val {p : ReleaseIx} {n : Nat} (h : p.val = n) : releaseAt? n = some p := by
  subst h
  simp [releaseAt?]

theorem releaseAt?_of_lt {n : Nat} (h : 15 < n) : releaseAt? n = none := by
  simp [releaseAt?]
  omega

theorem captureAt?_of_val {k : CaptureIx} {n : Nat} (h : k.val = n) : captureAt? n = some k := by
  subst h
  simp [captureAt?]

theorem captureAt?_of_lt {n : Nat} (h : 7 < n) : captureAt? n = none := by
  simp [captureAt?]
  omega

/-! ## The answers -/

theorem State.poolAnswer_eq (s : State) : s.poolAnswer =
    { budget := s.pool.budget
      free := s.pool.free
      drawn := s.pool.drawn
      releaseSum := (allReleases.map fun p => ((s.release p).map (·.amount)).getD 0).sum
      storeState := s.pool.storeState
      requests := s.pool.grantQueue.length
      releasesInUse := (allReleases.filter fun p => (s.release p).isSome).length
      waiting := (allEvents.filter fun i => ((s.entry i).bind (·.releaseWait)).isSome).length
      charger := s.pool.charger
      chargerFault := s.pool.chargerFault
      staleStore := s.pool.staleStore
      baseline := s.pool.storeBaseline } := by
  have hsum : s.releaseSum = (allReleases.map fun p => ((s.release p).map (·.amount)).getD 0).sum := by
    unfold State.releaseSum
    congr 2
    funext p
    cases s.release p <;> rfl
  have hwaiting : s.eventsWhere (fun e => e.releaseWait.isSome) =
      allEvents.filter fun i => ((s.entry i).bind (·.releaseWait)).isSome := by
    unfold State.eventsWhere
    congr 1
    funext i
    cases s.entry i <;> rfl
  simp only [State.poolAnswer, State.releasesInUse, hsum, hwaiting]

theorem State.ownerClass_eq (s : State) (x : Release) :
    s.ownerClass x = ((x.origin.bind s.entry).map (·.copy.cls)).getD 3 := by
  unfold State.ownerClass
  cases x.origin with
  | none => rfl
  | some i => cases h : s.entry i <;> simp [h]

theorem State.releaseAnswer_eq (s : State) (p : ReleaseIx) :
    s.releaseAnswer p = (s.release p).map fun y => ⟨p, y, ((y.origin.bind s.entry).map (·.copy.cls)).getD 3⟩ := by
  simp only [State.releaseAnswer, State.ownerClass_eq]

theorem recordsFrom_eq (m : Memory) (start n : Nat) :
    recordsFrom m start n = (List.range n).map fun j => Memory.read m (start + j) := by
  induction n generalizing start with
  | zero => rfl
  | succ n ih =>
    rw [recordsFrom, ih, List.range_succ_eq_map, List.map_cons, List.map_map]
    refine congrArg₂ _ rfl (List.map_congr_left fun j _ => ?_)
    simp only [Function.comp_apply]
    congr 1
    omega

/-! ## READ CAPTURE in the record form (R156) -/

theorem wordAt_one (x low high count : Byte) : wordAt [x, low, high, count] 1 = low.toNat + 256 * high.toNat := rfl

theorem byteAt_three (x low high count : Byte) : byteAt [x, low, high, count] 3 = count.toNat := rfl

/-- The answer to a record read, by its two checks of the count. -/
theorem readCaptureRecords_eq {r : Request} {low high count : Byte} (s : State) (hf : r.fields = [1, low, high, count]) :
    readCaptureRecords r s =
      s.unless (checkRange 2 count.toNat 1 16)
        (s.unless (checkRange 2 count.toNat 0 (65536 - (low.toNat + 256 * high.toNat)))
          (s.done (.records (recordsFrom s.capture.memory (low.toNat + 256 * high.toNat) count.toNat)))) := by
  have hlow := low.isLt
  have hhigh := high.isLt
  have hstart : checkRange 1 (low.toNat + 256 * high.toNat) 0 65535 = none := checkRange_of_le (by omega)
  have hform : checkRange 0 (1 : Byte).toNat 1 1 = none := by decide
  simp only [readCaptureRecords, hf, wordAt_one, byteAt_three, byteAt_zero, hstart, hform, checkLength, State.unless_none,
    List.length_cons, List.length_nil, if_true, Config.captureRecords]

theorem readCaptureRecords_within {r : Request} {low high count : Byte} (s : State) (hf : r.fields = [1, low, high, count])
    (hn : 1 ≤ count.toNat ∧ count.toNat ≤ 16 ∧ low.toNat + 256 * high.toNat + count.toNat ≤ 65536) :
    readCaptureRecords r s = (s, .done (.records
      ((List.range count.toNat).map fun j => Memory.read s.capture.memory (low.toNat + 256 * high.toNat + j)))) := by
  rw [readCaptureRecords_eq s hf, checkRange_of_le ⟨hn.1, hn.2.1⟩, checkRange_of_le (by omega), recordsFrom_eq]
  rfl

theorem readCaptureRecords_outside {r : Request} {low high count : Byte} (s : State) (hf : r.fields = [1, low, high, count])
    (hn : ¬ (1 ≤ count.toNat ∧ count.toNat ≤ 16 ∧ low.toNat + 256 * high.toNat + count.toNat ≤ 65536)) :
    readCaptureRecords r s = (s, .refused (.range 2 count.toNat)) := by
  rw [readCaptureRecords_eq s hf]
  by_cases h : 1 ≤ count.toNat ∧ count.toNat ≤ 16
  · have hhigh := high.isLt
    have hlow := low.isLt
    rw [checkRange_of_le h, checkRange_of_lt (by omega)]
    rfl
  · rw [checkRange, if_neg h]
    rfl

/-! ## The requests -/

/-- The reads that carry no field. -/
theorem reads_without_fields {s : State} {r : Request} {rest : List Request} (hh : s.Heads r rest) :
    (r.row = .readIdentity → r.fields = [] → Answers .readIdentity s r (s.taken rest)
      (.done (.identity s.banks.active s.differing.length))) ∧
    (r.row = .readPool → r.fields = [] → Answers .readPool s r (s.taken rest) (.done (.pool s.poolAnswer))) ∧
    (r.row = .readPorts → r.fields = [] → Answers .readPorts s r (s.taken rest) (.done (.ports (s.taken rest).portsAnswer))) := by
  refine ⟨fun hr hf => ?_, fun hr hf => ?_, fun hr hf => ?_⟩
  · exact answers_of_head (f := readIdentity) (by rw [hr]; rfl) hh (by rw [readIdentity, hf]; rfl)
  · exact answers_of_head (f := readPool) (by rw [hr]; rfl) hh (by rw [readPool, hf]; rfl)
  · exact answers_of_head (f := readPorts) (by rw [hr]; rfl) hh (by rw [readPorts, hf]; rfl)

theorem readBus_answers {s : State} {r : Request} {rest : List Request} (hh : s.Heads r rest) {x : Byte} (hf : r.fields = [x])
    (hr : r.row = .readBus) :
    (∀ b : Bus, b.val = x.toNat → Answers .readBus s r (s.taken rest) (.done (.bus (s.channel b)))) ∧
      (23 < x.toNat → Answers .readBus s r (s.taken rest) (.refused (.range 0 x.toNat))) := by
  refine ⟨fun b hb => ?_, fun hx => ?_⟩
  · refine answers_of_head (f := readBus) (by rw [hr]; rfl) hh ?_
    simp only [readBus, hf, State.onBus, byteAt_zero, busAt?_of_val hb]
    rfl
  · refine answers_of_head (f := readBus) (by rw [hr]; rfl) hh ?_
    simp only [readBus, hf, State.onBus, byteAt_zero, busAt?_of_lt hx]
    rfl

theorem readEvent_answers {s : State} {r : Request} {rest : List Request} (hh : s.Heads r rest) {x : Byte} (hf : r.fields = [x])
    (hr : r.row = .readEvent) :
    (∀ i : EventIx, i.val = x.toNat → Answers .readEvent s r (s.taken rest) (.done (.event (s.eventAnswer i)))) ∧
      (31 < x.toNat → Answers .readEvent s r (s.taken rest) (.refused (.range 0 x.toNat))) := by
  refine ⟨fun i hi => ?_, fun hx => ?_⟩
  · refine answers_of_head (f := readEvent) (by rw [hr]; rfl) hh ?_
    simp only [readEvent, hf, byteAt_zero, eventAt?_of_val hi]
    rfl
  · refine answers_of_head (f := readEvent) (by rw [hr]; rfl) hh ?_
    simp only [readEvent, hf, byteAt_zero, eventAt?_of_lt hx]
    rfl

theorem readRelease_answers {s : State} {r : Request} {rest : List Request} (hh : s.Heads r rest) {x : Byte}
    (hf : r.fields = [x]) (hr : r.row = .readRelease) :
    (∀ p : ReleaseIx, p.val = x.toNat → Answers .readRelease s r (s.taken rest) (.done (.release (s.releaseAnswer p)))) ∧
      (15 < x.toNat → Answers .readRelease s r (s.taken rest) (.refused (.range 0 x.toNat))) := by
  refine ⟨fun p hp => ?_, fun hx => ?_⟩
  · refine answers_of_head (f := readRelease) (by rw [hr]; rfl) hh ?_
    simp only [readRelease, hf, byteAt_zero, releaseAt?_of_val hp]
    rfl
  · refine answers_of_head (f := readRelease) (by rw [hr]; rfl) hh ?_
    simp only [readRelease, hf, byteAt_zero, releaseAt?_of_lt hx]
    rfl

theorem readCaptureChannel_answers {s : State} {r : Request} {rest : List Request} (hh : s.Heads r rest) {x : Byte}
    (hr : r.row = .readCaptureChannel) (hf : r.fields = [0, x]) :
    (∀ k : CaptureIx, k.val = x.toNat →
      Answers .readCaptureChannel s r (s.taken rest) (.done (.captureChannel (s.recorder k)))) ∧
      (7 < x.toNat → Answers .readCaptureChannel s r (s.taken rest) (.refused (.range 1 x.toNat))) := by
  refine ⟨fun k hk => ?_, fun hx => ?_⟩
  · refine answers_of_head (f := readCaptureChannel) (by rw [hr]; rfl) hh ?_
    simp only [readCaptureChannel, hf, State.onRecorder, byteAt_one, captureAt?_of_val hk]
    rfl
  · refine answers_of_head (f := readCaptureChannel) (by rw [hr]; rfl) hh ?_
    simp only [readCaptureChannel, hf, State.onRecorder, byteAt_one, captureAt?_of_lt hx]
    rfl

theorem identity_bytes (active : BankIx) (differing : Nat) : Answer.bytes (.identity active differing) =
    [1, 120, 9, 1, 24, 32, 16, 8, 0, 0, 1, 0, 62, 8, 16, 32, 4, BitVec.ofNat 8 active.val, BitVec.ofNat 8 differing] := by
  rfl

/-- Settles O53, request by request. -/
theorem readsAnswered : Obligations.ReadsAnswered := by
  refine ⟨fun s r rest hh => ?_, identity_bytes⟩
  obtain ⟨hidentity, hpool, hports⟩ := reads_without_fields hh
  refine ⟨hidentity, fun hr hf => s.poolAnswer_eq ▸ hpool hr hf, hports,
    fun x hf => ⟨readBus_answers hh hf, readEvent_answers hh hf, fun hr => ?_⟩,
    fun x hr hf => readCaptureChannel_answers hh hr hf, fun low high count hr hf => ⟨fun hn => ?_, fun hn => ?_⟩⟩
  · obtain ⟨hheld, hout⟩ := readRelease_answers hh hf hr
    exact ⟨fun p hp => s.releaseAnswer_eq p ▸ hheld p hp, hout⟩
  · exact answers_of_head (f := readCaptureRecords) (by rw [hr]; rfl) hh (readCaptureRecords_within _ hf hn)
  · exact answers_of_head (f := readCaptureRecords) (by rw [hr]; rfl) hh (readCaptureRecords_outside _ hf hn)

end Sys2Proof.Machine
end

section
/-! SUPPORT. The egress port: the entry that a freed report slot serves (R45, R46, R187), the choice of the next frame (R166, R167), and
the settlement of O17. -/

namespace Sys2Proof.Machine

/-! ## A freed report slot -/

/-- An older order has a smaller key. -/
theorem oldestKey_lt {counter a b : U32} (h : orderAge counter b < orderAge counter a) : oldestKey counter a < oldestKey counter b := by
  have ha : orderAge counter a < 4294967296 := (counter - a).isLt
  unfold oldestKey
  omega

/-- The state in which an entry has been freed after its EVENT-CLOSED report was queued. -/
def State.closedReported (s : State) (i : EventIx) (e : Event) : State :=
  { s.setEntry i none with
    ring.reports := s.ring.reports ++ [⟨s.management.reportCounter, .eventClosed i e⟩]
    management.reportCounter := s.management.reportCounter + 1
    pool.releases := s.pool.releases.map (Option.map fun x =>
      if x.origin = some i then { x with origin := none } else x)
    capture.channels := s.capture.channels.map fun c =>
      if c.event = some i then { c with status := .freed } else c
    injection.records := s.injection.records.map fun x =>
      if x.drawingEvent = some i then { x with drawingEvent := none } else x
    injection.rates := s.injection.rates.set i none }

theorem State.queueClosed_eq {s : State} {i : EventIx} {e : Event} (he : s.entry i = some e) :
    s.queueClosed i = s.closedReported i e := by
  have hfreed : CaptureChannel.eventFreed i = fun c => if c.event = some i then { c with status := .freed } else c :=
    funext (CaptureChannel.eventFreed_eq i)
  simp only [State.queueClosed, he, State.freeEvent, State.forgetDrawing, eachMember_eq_map, hfreed]
  rfl

theorem State.mem_reporting {s : State} {i : EventIx} :
    i ∈ s.eventsWhere (fun e => e.state = .reporting) ↔ ∃ e, s.entry i = some e ∧ e.state = .reporting := by
  rw [State.mem_eventsWhere]
  cases s.entry i <;> simp

theorem State.serveReporting_full {s : State} (h : 32 ≤ s.ring.reports.length) : s.serveReporting = s :=
  if_neg (Nat.not_lt.2 h)

theorem State.serveReporting_none {s : State} (h : ∀ i e, s.entry i = some e → e.state ≠ .reporting) : s.serveReporting = s := by
  have hnone : s.eventsWhere (fun e => e.state = .reporting) = [] := List.eq_nil_iff_forall_not_mem.2 fun i hi => by
    obtain ⟨e, he, hr⟩ := State.mem_reporting.1 hi
    exact h i e he hr
  unfold State.serveReporting State.oldestReporting
  rw [head?_sortByKey_nil _ hnone]
  split <;> rfl

theorem State.serveReporting_oldest {s : State} {i : EventIx} {e : Event} (hroom : s.ring.reports.length < 32)
    (he : s.entry i = some e) (hr : e.state = .reporting)
    (hold : ∀ j y, s.entry j = some y → y.state = .reporting → j ≠ i →
      orderAge s.events.closeCounter (y.closeOrder.getD 0) < orderAge s.events.closeCounter (e.closeOrder.getD 0)) :
    s.serveReporting = s.closedReported i e := by
  have hfirst : s.oldestReporting = some i := by
    refine head?_sortByKey (State.mem_reporting.2 ⟨e, he, hr⟩) fun j hj hne => ?_
    obtain ⟨y, hy, hyr⟩ := State.mem_reporting.1 hj
    simp only [he, hy]
    exact oldestKey_lt (hold j y hy hyr hne)
  have hcap : s.ring.reports.length < Config.reportCapacity := hroom
  simp only [State.serveReporting, if_pos hcap, hfirst, State.queueClosed_eq he]

/-! ## The choice of a frame -/

theorem Ring.choose_none {r : Ring} (hd : r.drive = []) (hr : r.responses = []) (ht : r.transit = []) (hp : r.reports = []) :
    r.choose = none := by simp only [Ring.choose, hd, hr, ht, hp]

theorem Ring.choose_drive {r : Ring} {f : DriveFrame} {rest : List DriveFrame} (hd : r.drive = f :: rest) :
    r.choose = some (.drive f, { r with drive := rest }) := by simp only [Ring.choose, hd]

theorem Ring.choose_response {r : Ring} {x : Response} {rest : List Response} (hd : r.drive = []) (hr : r.responses = x :: rest) :
    r.choose = some (.response x, { r with responses := rest }) := by simp only [Ring.choose, hd, hr]

theorem Ring.choose_transit {r : Ring} {bytes : List Byte} {rest : List (List Byte)} (hd : r.drive = []) (hr : r.responses = [])
    (ht : r.transit = bytes :: rest) : r.choose = some (.transit bytes, { r with transit := rest }) := by
  simp only [Ring.choose, hd, hr, ht]

theorem Ring.choose_report {r : Ring} {x : NumberedReport} {rest : List NumberedReport} (hd : r.drive = []) (hr : r.responses = [])
    (ht : r.transit = []) (hp : r.reports = x :: rest) : r.choose = some (.report x, { r with reports := rest }) := by
  simp only [Ring.choose, hd, hr, ht, hp]

theorem State.kick_sending {s : State} {p : Sending} (h : s.ring.port = some p) : s.kick = s := by
  simp only [State.kick, h]

/-- The port IDLE: the frame chosen is put on the link, and its start is noticed. -/
theorem State.kick_chosen {s : State} (h : s.ring.port = none) {frame : EgressFrame} {rest : Ring}
    (hc : s.ring.choose = some (frame, rest)) : s.kick = State.startNotices { s with ring := rest.transmit frame } frame := by
  simp only [State.kick, h, hc]

theorem State.kick_empty {s : State} (h : s.ring.port = none) (hc : s.ring.choose = none) : s.kick = s := by
  simp only [State.kick, h, hc]

theorem Station.node_val (k : Station) : k.node.val = k.address := by
  have h := k.isLt
  rw [Station.node, Fin.val_ofNat, Station.address]
  omega

/-- A DRIVE frame starts, its command IN-TRANSMISSION. -/
theorem State.kick_drives {s : State} (h : s.ring.port = none) {f : DriveFrame} {rest : List DriveFrame}
    (hd : s.ring.drive = f :: rest) :
    let n := s.ring.egressSequence[f.stack.node]
    let u : State := { s with
      ring.drive := rest
      ring.egressSequence := s.ring.egressSequence.set f.stack.node (n + 1)
      ring.port := some ⟨.drive f, originate f.stack.address 4 n f.body⟩ }
    s.kick = match f.command with
      | none => u
      | some c => u.setView f.stack { s.view f.stack with
          unsent := none
          outstanding := (s.view f.stack).outstanding ++ [⟨c, .inTransmission⟩] } := by
  rw [State.kick_chosen h (Ring.choose_drive hd)]
  cases hc : f.command with
  | none => simp only [State.startNotices, hc, Ring.transmit, Ring.number, Station.node_val]
  | some c =>
    simp only [State.startNotices, hc, Ring.transmit, Ring.number, Station.node_val]
    rfl

/-- Settles O17, by the entry a freed slot serves and by the queue the next frame is chosen from. -/
theorem nextFrameChosen : Obligations.NextFrameChosen := by
  refine ⟨fun s => ⟨State.serveReporting_full, State.serveReporting_none, fun i e => State.serveReporting_oldest⟩, fun s =>
    ⟨fun p => State.kick_sending, fun h => ⟨fun hd hr ht hp => State.kick_empty h (Ring.choose_none hd hr ht hp),
      fun f rest => State.kick_drives h, fun x rest hd hr => ?_, fun bytes rest hd hr ht => ?_, fun x rest hd hr ht hp => ?_⟩⟩⟩
  · rw [State.kick_chosen h (Ring.choose_response hd hr)]
    rfl
  · rw [State.kick_chosen h (Ring.choose_transit hd hr ht)]
    rfl
  · rw [State.kick_chosen h (Ring.choose_report hd hr ht hp)]
    rfl

end Sys2Proof.Machine
end

section
/-! SUPPORT. Entering BYPASSED, the disposal of unspent, and a new release (R37, R38, R42, R90, R92, R96); the settlement of O31. -/

namespace Sys2Proof.Machine

/-! ## The Release Map -/

theorem State.freeRelease_eq {s : State} {r : ReleaseIx} (h : s.release r = none) (hlt : ∀ q, q < r → (s.release q).isSome) :
    s.freeRelease = some r := by
  refine List.find?_eq_some_iff_getElem.2 ⟨by simp [h], r.val, by simp [allReleases], by simp [allReleases], fun j hj => ?_⟩
  obtain ⟨x, hx⟩ := Option.isSome_iff_exists.1 (hlt ⟨j, hj.trans r.isLt⟩ hj)
  simp [allReleases, hx]

theorem State.freeRelease_none {s : State} (h : ∀ r, (s.release r).isSome) : s.freeRelease = none := by
  refine List.find?_eq_none.2 fun r _ => ?_
  obtain ⟨x, hx⟩ := Option.isSome_iff_exists.1 (h r)
  simp [hx]

theorem State.releaseOf_isSome {s : State} {k : Station} :
    (s.releaseOf k).isSome = true ↔ ∃ r y, s.release r = some y ∧ y.stack = k := by
  have h := State.releaseOf_isNone (s := s) (k := k)
  cases ho : s.releaseOf k with
  | none =>
    rw [ho] at h
    have hnone := h.1 rfl
    simp only [Option.isSome_none, Bool.false_eq_true, false_iff]
    exact fun ⟨r, y, hy, hk⟩ => hnone r y hy hk
  | some r =>
    rw [ho] at h
    simp only [Option.isSome_some, true_iff]
    by_contra hn
    refine absurd (h.2 fun q y hq hk => hn ⟨q, y, hq, hk⟩) (by simp)

/-! ## Entries that an availability check leaves alone -/

theorem State.entry_enterInjecting (s : State) {i j : EventIx} (h : i ≠ j) : (s.enterInjecting i).entry j = s.entry j := by
  unfold State.enterInjecting
  split
  · rfl
  · rw [State.queueCommand_entry]
    exact (State.entry_setEntry s i j _).trans (if_neg h)

theorem State.entry_dropRequest (s : State) (i j : EventIx) : (s.dropRequest i).entry j = s.entry j := rfl

theorem State.entry_addFree (s : State) (n : Nat) (j : EventIx) : (s.addFree n).entry j = s.entry j := rfl

theorem State.entry_giveToFree (s : State) (i j : EventIx) :
    (s.giveToFree i).entry j = if i = j then (s.entry i).map Event.giveUp else s.entry j := by
  unfold State.giveToFree
  split
  · next h =>
    split
    · next hij => rw [← hij, h]; rfl
    · rfl
  · next e h =>
    rw [State.entry_addFree, State.entry_setEntry, h]
    rfl

theorem State.entry_bypassIdle (s : State) {i j : EventIx} (cause : EventOutcome) (h : i ≠ j) :
    (s.bypassIdle i cause).entry j = s.entry j := by
  rw [State.bypassIdle, State.entry_giveToFree, if_neg h, State.leavePath, State.entry_modEvent, if_neg h,
    State.entry_dropRequest]

theorem State.entry_leaveHeld (s : State) {i j : EventIx} (h : i ≠ j) : (s.leaveHeld i).entry j = s.entry j := by
  unfold State.leaveHeld
  split
  · rfl
  · split
    · split
      · exact s.entry_bypassIdle _ h
      · split
        · rw [State.entry_bypassIdle _ _ h, State.addMark, State.entry_modEvent, if_neg h]
        · exact s.entry_enterInjecting h
    · rfl

theorem State.entry_freeOfStack (k : Station) (s : State) {i j : EventIx} (h : i ≠ j) :
    (State.freeOfStack k s i).entry j = s.entry j := by
  unfold State.freeOfStack
  split
  · rfl
  · split
    · rw [State.entry_leaveHeld _ h, State.entry_setEntry, if_neg h]
    · rfl

/-- An event that is not HELD for the stack is none of the check's. -/
theorem State.freeOfStack_idle {k : Station} {s : State} {i : EventIx}
    (h : ∀ e, s.entry i = some e → ¬ (e.state = .held ∧ e.held.stack = true ∧ e.copy.stack = k)) : State.freeOfStack k s i = s := by
  unfold State.freeOfStack
  split
  · rfl
  · next e he => exact if_neg fun ⟨ha, hb, hc, _⟩ => h e he ⟨ha, hb, hc⟩

theorem State.availabilityCheck_entry {k : Station} {s : State} {i : EventIx} {e : Event} (he : s.entry i = some e)
    (hh : e.state ≠ .held) : (s.availabilityCheck k).entry i = some e := by
  have hkept : ∀ (l : List EventIx) (s : State), s.entry i = some e → (l.foldl (State.freeOfStack k) s).entry i = some e := by
    intro l
    induction l with
    | nil => exact fun s hs => hs
    | cons j l ih =>
      intro s hs
      refine ih _ ?_
      by_cases hj : j = i
      · subst hj
        rwa [State.freeOfStack_idle fun x hx h => hh (by rw [hs] at hx; cases hx; exact h.1)]
      · rwa [State.entry_freeOfStack k s hj]
  exact hkept _ s he

/-! ## A new release (R90, R96) -/

/-- The release that an event's unspent makes, by the stack's view. -/
theorem Event.releaseFor_eq (e : Event) (i : EventIx) (v : StackView) (order : U32) :
    e.releaseFor i v order =
      { state := if e.marks.stackFault = true ∨ v.tripped = true ∨ v.unresponsive = true then .unresolved else .pending
        stack := e.copy.stack
        bus := e.bus
        origin := some i
        creationOrder := order
        amount := e.grant - e.spent
        accumulator := 0
        overdraw := 0
        awaited := v.nextSequence - 1
        claims := [] } := by
  simp only [Event.releaseFor, StackView.faulted, Bool.or_eq_true, StackView.lastQueued, Event.unspent]

theorem State.toldToStop_eq (s : State) (e : Event) :
    s.toldToStop e = if e.stackOrder = .inject ∧ e.releaseQueued = false then s.queueCommand e.copy.stack .release else s := by
  simp only [State.toldToStop, Event.needsRelease, Bool.and_eq_true, decide_eq_true_eq, Bool.not_eq_true']

/-- RELEASE queued leaves the pool's figures and the stack records alone. -/
theorem State.toldToStop_keeps (s : State) (e : Event) : (s.toldToStop e).pool.creationCounter = s.pool.creationCounter ∧
    (s.toldToStop e).pool.free = s.pool.free ∧ (s.toldToStop e).injection = s.injection := by
  unfold State.toldToStop
  split
  · obtain ⟨r, v, x, h⟩ := s.queueCommand_only e.copy.stack .release
    rw [h]
    exact ⟨rfl, rfl, rfl⟩
  · exact ⟨rfl, rfl, rfl⟩

/-- The event of a new release settled, before the release is written into its entry. -/
def State.releaseMade (told : State) (s : State) (i : EventIx) (e : Event) : State :=
  { (told.setEntry i (some { e.giveUp with releaseCreated := true, releaseWait := none })) with
    pool.creationCounter := s.pool.creationCounter + 1
    injection.records := s.injection.records.map fun y =>
      if y.drawingEvent = some i then { y with drawingEvent := none } else y }

theorem State.putNewRelease_eq (s : State) (i : EventIx) (r : ReleaseIx) (e : Event) :
    (s.toldToStop e).putNewRelease i r e = ((s.toldToStop e).releaseMade s i e).setRelease r
      (some (e.releaseFor i ((s.toldToStop e).view e.copy.stack) s.pool.creationCounter)) := by
  obtain ⟨hcounter, -, hinjection⟩ := s.toldToStop_keeps e
  unfold State.putNewRelease State.releaseMade State.forgetDrawing
  dsimp only
  rw [eachMember_eq_map, hcounter, ← hinjection]
  rfl

theorem State.newRelease_put {s : State} {i : EventIx} {e : Event} (he : s.entry i = some e) (r : ReleaseIx)
    {made : Release} (hm : e.releaseFor i ((s.toldToStop e).view e.copy.stack) s.pool.creationCounter = made)
    (hq : ¬ (made.state = .pending ∧ ((s.toldToStop e).view e.copy.stack).quiescentAt made.awaited = true)) :
    s.newRelease i r = ((s.toldToStop e).releaseMade s i e).setRelease r (some made) := by
  obtain ⟨hcounter, -, -⟩ := s.toldToStop_keeps e
  subst hm
  rw [State.newRelease_eq he, ← State.putNewRelease_eq]
  dsimp only
  rw [hcounter]
  exact if_neg hq

/-- A release of a quiescent stack: its amount goes to Free at once. -/
theorem State.newRelease_quiescent {s : State} {i : EventIx} {e : Event} (he : s.entry i = some e) (r : ReleaseIx)
    {made : Release} (hm : e.releaseFor i ((s.toldToStop e).view e.copy.stack) s.pool.creationCounter = made)
    (hq : made.state = .pending ∧ ((s.toldToStop e).view e.copy.stack).quiescentAt made.awaited = true) :
    s.newRelease i r = State.availabilityCheck { ((s.toldToStop e).releaseMade s i e).setRelease r none with
      pool.free := s.pool.free + (e.grant - e.spent)
      pool.passDue := true } e.copy.stack := by
  obtain ⟨hcounter, hfree, -⟩ := s.toldToStop_keeps e
  subst hm
  rw [State.newRelease_eq he]
  dsimp only
  rw [hcounter]
  refine (if_pos hq).trans ?_
  rw [State.putNewRelease_eq, State.payOut_unclaimed _ _ rfl, ← hfree]
  congr 1
  unfold State.duePass State.addFree State.setRelease
  simp only [Vector.set_set]
  rfl

/-! ## Disposal (R42, R92) -/

theorem State.dispose_settled {s : State} {i : EventIx} {e : Event} (he : s.entry i = some e)
    (h : e.grant - e.spent = 0 ∨ e.releaseWait.isSome = true) : s.dispose i = s := by
  unfold State.dispose
  simp only [he]
  exact if_pos h

/-- The unspent in Free. -/
theorem State.giveToFree_eq {s : State} {i : EventIx} {e : Event} (he : s.entry i = some e) :
    s.giveToFree i = { s.setEntry i (some e.giveUp) with
      pool.free := s.pool.free + (e.grant - e.spent)
      pool.passDue := s.pool.passDue || decide (0 < e.grant - e.spent) } := by
  simp only [State.giveToFree, he]
  rfl

theorem Event.undisposed {e : Event} (hu : 0 < e.grant - e.spent) (hw : e.releaseWait = none) :
    ¬ (e.unspent = 0 ∨ e.releaseWait.isSome = true) := by
  rw [hw, Event.unspent]
  simp only [Option.isSome_none, Bool.false_eq_true, or_false]
  omega

section Disposal
variable {s : State} {i : EventIx} {e : Event} (he : s.entry i = some e) (hu : 0 < e.grant - e.spent) (hw : e.releaseWait = none)
include he hu hw

theorem State.dispose_to_free
    (h : e.stackOrder = .none ∨ e.releaseCreated = true ∨ ∃ r y, s.release r = some y ∧ y.stack = e.copy.stack) :
    s.dispose i = { s.setEntry i (some e.giveUp) with
      pool.free := s.pool.free + (e.grant - e.spent)
      pool.passDue := true } := by
  have hpass : (s.pool.passDue || decide (0 < e.grant - e.spent)) = true := by simp [hu]
  rw [← State.releaseOf_isSome] at h
  unfold State.dispose
  simp only [he]
  rw [if_neg (Event.undisposed hu hw), if_pos h, State.giveToFree_eq he, hpass]

theorem State.dispose_unreleased (ho : e.stackOrder ≠ .none) (hc : e.releaseCreated = false)
    (hr : ∀ r y, s.release r = some y → y.stack ≠ e.copy.stack) :
    (∀ r, s.freeRelease = some r → s.dispose i = s.newRelease i r) ∧ (s.freeRelease = none → s.dispose i = s.beginWait i) := by
  have hown : ¬ (e.stackOrder = .none ∨ e.releaseCreated = true ∨ (s.releaseOf e.copy.stack).isSome = true) := by
    rw [State.releaseOf_isSome, hc]
    simp only [Bool.false_eq_true, false_or, not_or]
    exact ⟨ho, fun ⟨r, y, hy, hk⟩ => hr r y hy hk⟩
  constructor
  · intro r hf
    unfold State.dispose
    simp only [he, hf]
    rw [if_neg (Event.undisposed hu hw), if_neg hown]
  · intro hf
    unfold State.dispose
    simp only [he, hf]
    rw [if_neg (Event.undisposed hu hw), if_neg hown]

end Disposal

/-- The disposal changes of an event that is not HELD what it was granted and returned, its wait and its release alone. -/
theorem State.dispose_entry {s : State} {i : EventIx} {e : Event} (he : s.entry i = some e) (hh : e.state ≠ .held) :
    ∃ grant returned wait queued created, (s.dispose i).entry i = some { e with
      grant := grant, returned := returned, releaseWait := wait, releaseQueued := queued, releaseCreated := created } := by
  unfold State.dispose
  simp only [he]
  split
  · exact ⟨_, _, _, _, _, he⟩
  · split
    · exact ⟨_, _, _, _, _, (s.entry_giveToFree i i).trans (by rw [if_pos rfl, he]; rfl)⟩
    · split
      · next r _ =>
        have hput := ((s.toldToStop e).putNewRelease_entry i i r e).trans (if_pos rfl)
        rw [State.newRelease_eq he]
        dsimp only
        split
        · rw [State.payOut_unclaimed _ _ rfl]
          exact ⟨_, _, _, _, _, State.availabilityCheck_entry (e := { e.giveUp with releaseCreated := true, releaseWait := none })
            hput hh⟩
        · exact ⟨_, _, _, _, _, hput⟩
      · exact ⟨_, _, _, _, _, (State.beginWait_entry he i).trans (if_pos rfl)⟩

/-! ## BYPASSED (R37, R38) -/

/-- An event's entry in BYPASSED, its stack ordered to stop (R37). -/
def Event.bypassed (cause : EventOutcome) (e : Event) : Event :=
  { e with
    state := .bypassed
    outcome := some (e.outcome.getD cause)
    ladderStep := 3
    held := ⟨false, false, false⟩
    stackOrder := match e.stackOrder with
      | .inject => .bypass
      | order => order }

/-- The state in which an event is BYPASSED and its request withdrawn, before its stack is commanded. -/
def State.bypassEntered (s : State) (i : EventIx) (e : Event) (cause : EventOutcome) : State :=
  State.setEntry { s with
    pool.grantQueue := s.pool.grantQueue.filter fun q => decide (q.event ≠ i)
    pool.passDue := s.pool.passDue || decide (s.pool.grantQueue.head?.map GrantRequest.event = some i) } i
    (some (e.bypassed cause))

theorem State.dropRequest_eq (s : State) (i : EventIx) : s.dropRequest i = { s with
    pool.grantQueue := s.pool.grantQueue.filter fun q => decide (q.event ≠ i)
    pool.passDue := s.pool.passDue || decide (s.pool.grantQueue.head?.map GrantRequest.event = some i) } := by
  unfold State.dropRequest
  cases s.pool.grantQueue <;> simp

theorem State.bypass_eq {s : State} {i : EventIx} {e : Event} (he : s.entry i = some e) (cause : EventOutcome)
    (commanded : Bool) : s.bypass i cause commanded =
      (if e.stackOrder = .inject ∧ commanded = false then (s.bypassEntered i e cause).queueCommand e.copy.stack .bypass
        else s.bypassEntered i e cause).dispose i := by
  have hleft := State.leavePath_eq he cause
  rw [State.dropRequest_eq, firstOutcome_eq] at hleft
  unfold State.bypass
  rw [hleft]
  simp only [State.entry_setEntry, if_true]
  by_cases ho : e.stackOrder = .inject
  · simp only [State.setEntry_setEntry, State.bypassEntered, Event.bypassed, ho, true_and]
    cases commanded <;> rfl
  · simp only [ho, false_and, if_false, State.bypassEntered, Event.bypassed]
    rfl

theorem State.bypassEntered_entry (s : State) (i : EventIx) (e : Event) (cause : EventOutcome) :
    (s.bypassEntered i e cause).entry i = some (e.bypassed cause) := (State.entry_setEntry _ i i _).trans (if_pos rfl)

theorem State.bypassEntered_queue (s : State) (i : EventIx) (e : Event) (cause : EventOutcome) :
    ∀ q ∈ (s.bypassEntered i e cause).pool.grantQueue, q.event ≠ i := fun q hq => by
  have hq : q ∈ s.pool.grantQueue.filter fun q => decide (q.event ≠ i) := hq
  simpa using (List.mem_filter.1 hq).2

/-- Settles O31, by the equations of the entry to BYPASSED, of the disposal and of a new release. -/
theorem bypassEntered : Obligations.BypassEntered := by
  refine ⟨fun s i e he => ⟨State.bypass_eq he, State.dispose_settled he, fun hu hw => ⟨State.dispose_to_free he hu hw,
    fun ho hc hr => ⟨fun r hn hlt => ?_, fun hfull => ?_⟩⟩, fun r => ⟨fun hq => ?_, fun hq => ?_⟩⟩,
    fun s i e cause commanded he => ?_⟩
  · exact (State.dispose_unreleased he hu hw ho hc hr).1 r (State.freeRelease_eq hn hlt)
  · exact ((State.dispose_unreleased he hu hw ho hc hr).2 (State.freeRelease_none hfull)).trans (State.beginWait_eq he)
  · rw [← State.toldToStop_eq] at hq ⊢
    refine State.newRelease_put he r (e.releaseFor_eq i _ _) fun ⟨hp, hv⟩ => hq ⟨hp, ?_⟩
    simpa [StackView.quiescentAt] using hv
  · rw [← State.toldToStop_eq] at hq ⊢
    obtain ⟨hp, hv⟩ := hq
    refine State.newRelease_quiescent he r (e.releaseFor_eq i _ _) ⟨hp, ?_⟩
    simpa [StackView.quiescentAt] using hv
  · rw [State.bypass_eq he]
    generalize hu : (if e.stackOrder = .inject ∧ commanded = false then
      (s.bypassEntered i e cause).queueCommand e.copy.stack .bypass else s.bypassEntered i e cause) = u
    have hentry : u.entry i = some (e.bypassed cause) := by
      subst hu
      split
      · exact (State.queueCommand_entry _ _ _ i).trans (s.bypassEntered_entry i e cause)
      · exact s.bypassEntered_entry i e cause
    have hqueue : u.pool.grantQueue = (s.bypassEntered i e cause).pool.grantQueue := by
      subst hu
      split
      · simp
      · rfl
    obtain ⟨grant, returned, wait, queued, created, hd⟩ := State.dispose_entry hentry (by simp [Event.bypassed])
    refine ⟨_, hd, rfl, rfl, rfl, rfl, rfl, ?_, rfl, fun q hq => ?_⟩
    · show some (e.outcome.getD cause) = _
      cases e.outcome <;> rfl
    · exact s.bypassEntered_queue i e cause q (hqueue ▸ (u.dispose_firm i).queue.subset hq)

end Sys2Proof.Machine
end

section
/-! SUPPORT. Stage 1 of an accepted frame: the metering of the stacks (R92, R94, R121 to R124) and the settlement of O35. -/

namespace Sys2Proof.Machine

/-! ## What is metered (R121, R122) -/

theorem State.meteringTime_eq {s : State} {f : AcceptedFrame} {r : BusRow} (hr : s.row f.bus = some r) :
    s.meteringTime f = match f.previous with
      | none => 0
      | some p => min (f.frame.timestamp - p).toNat r.silenceTimeout := by
  unfold State.meteringTime
  cases f.previous with
  | none => rfl
  | some p =>
    simp only [hr]
    rfl

theorem State.meter_of_time {s : State} {f : AcceptedFrame} {n : Nat} (h : s.meteringTime f = n) :
    s.meter f = allStations.foldl (fun w k => State.meterStack f n w k) s := by
  subst h
  rfl

theorem StackRecord.increment_eq (x : StackRecord) (amps : Currents) (micros : Nat) :
    x.increment amps micros = match x.inEffect with
      | none => 0
      | some r => (r.volts.a.magnitude * r.nominal * amps.a + r.volts.b.magnitude * r.nominal * amps.b
          + r.volts.c.magnitude * r.nominal * amps.c) * micros := by
  unfold StackRecord.increment
  cases x.inEffect <;> rfl

theorem State.metersStack_iff {s : State} {b : Bus} {k : Station} : s.metersStack b k = true ↔
    (s.record k).boundBus = some b ∧ (s.view k).reported = .injecting ∧ (s.view k).unresponsive = false := by
  simp only [State.metersStack, Bool.and_eq_true, decide_eq_true_eq, Bool.not_eq_true', and_assoc]

theorem State.meterStack_unmetered {s : State} {f : AcceptedFrame} {k : Station} (micros : Nat)
    (h : (s.record k).boundBus ≠ some f.bus ∨ (s.view k).reported ≠ .injecting ∨ (s.view k).unresponsive = true) :
    State.meterStack f micros s k = s := by
  refine if_neg fun hm => ?_
  obtain ⟨hb, hr, hu⟩ := State.metersStack_iff.1 hm
  rcases h with h | h | h
  · exact h hb
  · exact h hr
  · simp [hu] at h

theorem State.meterStack_metered {s : State} {f : AcceptedFrame} {k : Station} (micros : Nat)
    (hb : (s.record k).boundBus = some f.bus) (hr : (s.view k).reported = .injecting) (hu : (s.view k).unresponsive = false) :
    State.meterStack f micros s k =
      s.meterInto k ((s.record k).increment f.frame.amps micros) micros f.frame.timestamp :=
  if_pos (State.metersStack_iff.2 ⟨hb, hr, hu⟩)

/-! ## The accounts an increment goes to (R94, R121) -/

section Accounts
variable {s : State} {k : Station} (n micros : Nat) (timestamp : U32)

theorem State.meterInto_release {q : ReleaseIx} {x : Release} (hq : s.releaseOf k = some q) (hx : s.release q = some x) :
    s.meterInto k n micros timestamp = if x.state = .pending then s.meterRelease q x n else s := by
  simp only [State.meterInto, hq, hx]

theorem State.meterInto_undrawn (hq : s.releaseOf k = none) (hd : (s.record k).drawingEvent = none) :
    s.meterInto k n micros timestamp = s := by
  simp only [State.meterInto, hq, hd]

theorem State.meterInto_vacant {i : EventIx} (hq : s.releaseOf k = none) (hd : (s.record k).drawingEvent = some i)
    (he : s.entry i = none) : s.meterInto k n micros timestamp = s := by
  simp only [State.meterInto, hq, hd, he]

theorem State.meterInto_event {i : EventIx} {e : Event} (hq : s.releaseOf k = none)
    (hd : (s.record k).drawingEvent = some i) (he : s.entry i = some e) :
    s.meterInto k n micros timestamp = if e.state.metered then s.meterEvent i e n micros timestamp else s := by
  simp only [State.meterInto, hq, hd, he]

end Accounts

/-! ## An event metered (R92, R123) -/

/-- The state in which an event has drawn an increment, its entry left to be named. -/
def State.drew (s : State) (i : EventIx) (e : Event) (n micros : Nat) (timestamp : U32) (x : Event) : State :=
  { s.setEntry i (some x) with
    pool.drawn := s.pool.drawn + ((e.metered n timestamp).recount.spent - e.spent)
    injection.rates := if 0 < micros then s.injection.rates.set i (some (n / micros)) else s.injection.rates }

theorem State.drew_entry (s : State) (i : EventIx) (e : Event) (n micros : Nat) (timestamp : U32) (x : Event) :
    (s.drew i e n micros timestamp x).entry i = some x := (State.entry_setEntry s i i _).trans (if_pos rfl)

theorem State.meterEvent_eq (s : State) (i : EventIx) (e : Event) (n micros : Nat) (timestamp : U32) :
    s.meterEvent i e n micros timestamp =
      (s.drew i e n micros timestamp (e.metered n timestamp).recount).endSpentWait i := by
  unfold State.meterEvent State.drew
  by_cases h : 0 < micros
  · simp only [if_pos h]
    rfl
  · simp only [if_neg h]
    rfl

theorem State.drew_modEvent (s : State) (i : EventIx) (e : Event) (n micros : Nat) (timestamp : U32) (x : Event)
    (f : Event → Event) :
    (s.drew i e n micros timestamp x).modEvent i f = s.drew i e n micros timestamp (f x) := by
  rw [State.modEvent_eq f (s.drew_entry i e n micros timestamp x)]
  unfold State.drew State.setEntry
  simp only [Vector.set_set]

/-- An event that does not wait, or has something left, goes on. -/
theorem State.endSpentWait_unspent {s : State} {i : EventIx} {e : Event} (he : s.entry i = some e)
    (h : e.releaseWait = none ∨ e.spent < e.grant) : s.endSpentWait i = s := by
  unfold State.endSpentWait
  simp only [he]
  refine if_neg fun ⟨hw, hu⟩ => ?_
  rw [Event.unspent] at hu
  rcases h with h | h
  · simp [h] at hw
  · omega

theorem State.endSpentWait_ends {s : State} {i : EventIx} {e : Event} (he : s.entry i = some e)
    (hw : e.releaseWait.isSome = true) (hu : e.unspent = 0) : s.endSpentWait i = s.endWait i := by
  unfold State.endSpentWait
  simp only [he]
  exact if_pos ⟨hw, hu⟩

theorem State.afterWait_eq {s : State} {i : EventIx} {e : Event} (he : s.entry i = some e) :
    s.afterWait i = (if e.state = .closing then s.enterReporting i else s).availabilityCheck e.copy.stack := by
  simp only [State.afterWait, he]

theorem EventState.metered_iff {x : EventState} : x.metered = true ↔ x = .injecting ∨ x = .bypassed ∨ x = .closing := by
  cases x <;> decide

/-- An event metered that waits for nothing or has something left. -/
theorem State.meterEvent_goes_on (s : State) (i : EventIx) {e : Event} (n micros : Nat) (timestamp : U32)
    (h : e.releaseWait = none ∨ (e.metered n timestamp).recount.spent < e.grant) :
    s.meterEvent i e n micros timestamp = s.drew i e n micros timestamp (e.metered n timestamp).recount := by
  rw [State.meterEvent_eq]
  exact State.endSpentWait_unspent (s.drew_entry i e n micros timestamp _) h

/-- An event metered that spends the last of what it waited with. -/
theorem State.meterEvent_ends_wait (s : State) (i : EventIx) {e : Event} (n micros : Nat) (timestamp : U32)
    (hw : e.releaseWait.isSome = true) (hs : (e.metered n timestamp).recount.spent = e.grant) :
    s.meterEvent i e n micros timestamp =
      (if e.state = .closing then
        (s.drew i e n micros timestamp { (e.metered n timestamp).recount with releaseWait := none }).enterReporting i
      else s.drew i e n micros timestamp { (e.metered n timestamp).recount with releaseWait := none }).availabilityCheck
        e.copy.stack := by
  have hu : (e.metered n timestamp).recount.unspent = 0 := by
    have hg : (e.metered n timestamp).recount.grant = e.grant := rfl
    rw [Event.unspent, hg, hs, Nat.sub_self]
  rw [State.meterEvent_eq, State.endSpentWait_ends (e := (e.metered n timestamp).recount)
    (s.drew_entry i e n micros timestamp _) hw hu, State.endWait, State.drew_modEvent]
  exact State.afterWait_eq (e := { (e.metered n timestamp).recount with releaseWait := none })
    (s.drew_entry i e n micros timestamp _)

/-! ## The frame -/

/-- A frame whose bus has no INJECTING open event after the metering goes no further. -/
theorem State.injectionTakes_metered {s : State} {f : AcceptedFrame}
    (h : ∀ i e, ((s.meter f).channel f.bus).openEvent = some i → (s.meter f).entry i = some e → e.state ≠ .injecting) :
    s.injectionTakes f = s.meter f := by
  unfold State.injectionTakes
  dsimp only
  split
  · rfl
  · next i hi =>
    split
    · rfl
    · next e he => exact if_neg (h i e hi he)

/-- Settles O35, by the account that a stack's increment goes to. -/
theorem meteringTaken : Obligations.MeteringTaken := by
  refine ⟨fun s f rest r hq hr => ?_, fun s f micros k => ⟨State.meterStack_unmetered micros, fun hb hv hu => ?_⟩⟩
  · intro micros u
    have hmicros : u.meteringTime f = micros := State.meteringTime_eq hr
    refine ⟨State.meter_of_time hmicros, fun h => ?_⟩
    rw [← State.injectionTakes_metered h]
    simp [exec, execInjectionFrame, hq, u]
  · intro increment sum
    have hincrement : (s.record k).increment f.frame.amps micros = increment := (s.record k).increment_eq _ _
    clear_value increment
    rw [State.meterStack_metered micros hb hv hu, hincrement]
    refine ⟨fun q x hq hx => ?_, fun hq => ⟨State.meterInto_undrawn increment micros _ hq, fun i hd => ⟨State.meterInto_vacant increment micros _ hq hd,
      fun e he => ⟨fun ho => ?_, fun hm => ?_⟩⟩⟩⟩
    · rw [State.meterInto_release increment micros _ hq hx]
      exact ⟨fun hs => if_neg (by simp [hs]), fun hs => if_pos hs⟩
    · rw [State.meterInto_event increment micros _ hq hd he]
      refine if_neg fun hm => ?_
      rw [EventState.metered_iff] at hm
      rcases ho with ho | ho | ho <;> simp [ho] at hm
    · rw [State.meterInto_event increment micros _ hq hd he, if_pos (EventState.metered_iff.2 hm)]
      exact ⟨State.meterEvent_goes_on s i increment micros _, State.meterEvent_ends_wait s i increment micros _⟩

end Sys2Proof.Machine
end

section
/-! SUPPORT. The Allocator's taking of a notice and what follows from it: availability, the ways out of HELD, the settlement of a borrower
and the offer of a freed entry (R35, R79, R92, R96 to R98); the settlement of O49. -/

namespace Sys2Proof.Machine

/-! ## The ways out of HELD (R35 to R37) -/

/-- The state in which an event is BYPASSED with its request withdrawn and its unspent in Free. -/
theorem State.bypassIdle_eq {s : State} {i : EventIx} {e : Event} (he : s.entry i = some e) (cause : EventOutcome) :
    s.bypassIdle i cause = { s.setEntry i (some { e with
        state := .bypassed
        outcome := some (e.outcome.getD cause)
        ladderStep := 3
        held := .empty
        returned := min (e.returned + (e.grant - e.spent)) 4294967295
        grant := e.spent }) with
      pool.grantQueue := s.pool.grantQueue.filter fun q => decide (q.event ≠ i)
      pool.free := s.pool.free + (e.grant - e.spent)
      pool.passDue := s.pool.passDue || decide (s.pool.grantQueue.head?.map GrantRequest.event = some i)
        || decide (0 < e.grant - e.spent) } := by
  rw [State.bypassIdle, State.leavePath_eq he, State.dropRequest_eq, firstOutcome_eq,
    State.giveToFree_eq ((State.entry_setEntry _ i i _).trans (if_pos rfl)), State.setEntry_setEntry]
  rfl

theorem HeldReasons.isEmpty_iff {h : HeldReasons} : h.isEmpty = true ↔ h = ⟨false, false, false⟩ := by
  obtain ⟨a, b, c⟩ := h
  simp [HeldReasons.isEmpty, and_assoc]

theorem State.leaveHeld_stays {s : State} {i : EventIx} {e : Event} (he : s.entry i = some e)
    (h : e.state ≠ .held ∨ e.held ≠ ⟨false, false, false⟩) : s.leaveHeld i = s := by
  unfold State.leaveHeld
  simp only [he]
  refine if_neg fun ⟨hs, hh⟩ => ?_
  rw [HeldReasons.isEmpty_iff] at hh
  rcases h with h | h
  · exact h hs
  · exact h hh

section LeavingHeld
variable {s : State} {i : EventIx} {e : Event} (he : s.entry i = some e) (hs : e.state = .held)
  (hh : e.held = ⟨false, false, false⟩)
include he hs hh

theorem State.leaveHeld_leaves : s.leaveHeld i =
    if e.grant = 0 then s.bypassIdle i .denied
    else if (s.view e.copy.stack).faulted then (s.addMark i .stackFault).bypassIdle i .stackFault
    else s.enterInjecting i := by
  unfold State.leaveHeld
  simp only [he]
  exact if_pos ⟨hs, HeldReasons.isEmpty_iff.2 hh⟩

theorem State.leaveHeld_denied (hg : e.grant = 0) : s.leaveHeld i = s.bypassIdle i .denied := by
  rw [State.leaveHeld_leaves he hs hh, if_pos hg]

theorem State.leaveHeld_faulted (hg : 0 < e.grant) (hf : (s.view e.copy.stack).faulted = true) :
    s.leaveHeld i = (s.addMark i .stackFault).bypassIdle i .stackFault := by
  rw [State.leaveHeld_leaves he hs hh, if_neg (by omega), if_pos hf]

theorem State.leaveHeld_injects (hg : 0 < e.grant) (hf : ¬ (s.view e.copy.stack).faulted = true) :
    s.leaveHeld i = ((s.setEntry i (some { e with
      state := .injecting
      stackOrder := .inject
      deepestStep := some (e.deepestStep.getD e.ladderStep) })).setRecord e.copy.stack
        { s.record e.copy.stack with boundBus := some e.bus, drawingEvent := some i }).queueCommand e.copy.stack (.inject i) := by
  have hempty : HeldReasons.empty = e.held := hh.symm
  rw [State.leaveHeld_leaves he hs hh, if_neg (by omega), if_neg hf]
  unfold State.enterInjecting
  simp only [he, hempty]
  rfl

end LeavingHeld

theorem StackView.faulted_iff {v : StackView} : v.faulted = true ↔ v.tripped = true ∨ v.unresponsive = true := by
  simp only [StackView.faulted, Bool.or_eq_true]

/-! ## Availability (R78, R79) -/

theorem State.waitsOn_iff {s : State} {k : Station} : s.waitsOn k = true ↔
    ∃ j x, s.entry j = some x ∧ x.releaseWait.isSome = true ∧ x.copy.stack = k := by
  simp only [State.waitsOn, List.any_eq_true]
  constructor
  · rintro ⟨j, -, hj⟩
    cases hx : s.entry j with
    | none => simp [hx] at hj
    | some x =>
      simp only [hx, Bool.and_eq_true, decide_eq_true_eq] at hj
      exact ⟨j, x, hx, hj⟩
  · rintro ⟨j, x, hx, hw, hk⟩
    exact ⟨j, List.mem_finRange j, by simp [hx, hw, hk]⟩

theorem State.stackAvailable_iff {s : State} {k : Station} : s.stackAvailable k = true ↔
    ¬ ((s.view k).tripped = true ∨ (s.view k).unresponsive = true) ∧ (∀ r y, s.release r = some y → y.stack ≠ k) ∧
      ∀ j x, s.entry j = some x → x.releaseWait.isSome = true → x.copy.stack ≠ k := by
  have hwait : s.waitsOn k = false ↔ ∀ j x, s.entry j = some x → x.releaseWait.isSome = true → x.copy.stack ≠ k := by
    rw [← Bool.not_eq_true, State.waitsOn_iff]
    exact ⟨fun h j x hx hw hk => h ⟨j, x, hx, hw, hk⟩, fun h ⟨j, x, hx, hw, hk⟩ => h j x hx hw hk⟩
  rw [← StackView.faulted_iff, ← State.releaseOf_isNone, ← hwait]
  simp only [State.stackAvailable, Bool.and_eq_true, Bool.not_eq_true', and_assoc, Bool.not_eq_true]

theorem State.freeOfStack_frees {s : State} {i : EventIx} {e : Event} (he : s.entry i = some e) (hs : e.state = .held)
    (hh : e.held.stack = true) (ha : s.stackAvailable e.copy.stack = true) :
    State.freeOfStack e.copy.stack s i = (s.setEntry i (some { e with held := { e.held with stack := false } })).leaveHeld i := by
  unfold State.freeOfStack
  simp only [he]
  exact if_pos ⟨hs, hh, trivial, ha⟩

theorem State.freeOfStack_stays {k : Station} {s : State} {i : EventIx} {e : Event} (he : s.entry i = some e)
    (h : e.state ≠ .held ∨ e.held.stack = false ∨ e.copy.stack ≠ k ∨ ¬ s.stackAvailable e.copy.stack = true) :
    State.freeOfStack k s i = s := by
  unfold State.freeOfStack
  simp only [he]
  refine if_neg fun ⟨hs, hh, hk, ha⟩ => ?_
  rcases h with h | h | h | h
  · exact h hs
  · simp [hh] at h
  · exact h hk
  · exact h (hk ▸ ha)

/-- With no event HELD the check frees none. -/
theorem State.availabilityCheck_idle {s : State} (h : ∀ i e, s.entry i = some e → e.state ≠ .held) (k : Station) :
    s.availabilityCheck k = s := by
  have hkept : ∀ l : List EventIx, l.foldl (State.freeOfStack k) s = s := by
    intro l
    induction l with
    | nil => rfl
    | cons i l ih => rw [List.foldl_cons, State.freeOfStack_idle fun e he hx => h i e he hx.1, ih]
  exact hkept _

/-! ## A borrower settled (R98) -/

/-- The reason BORROW removed where the last claim has gone. -/
def State.freeOfBorrow (s : State) (i : EventIx) (e : Event) : State :=
  if e.claims = [] then s.setEntry i (some { e with held := { e.held with borrow := false } }) else s

theorem State.settleBorrower_eq {s : State} {i : EventIx} {e : Event} (he : s.entry i = some e) :
    s.settleBorrower i = if e.state.stopped then
      if e.releaseWait.isSome ∧ e.state ≠ .reporting then s.freeOfBorrow i e else (s.freeOfBorrow i e).giveToFree i
    else (s.freeOfBorrow i e).leaveHeld i := by
  simp only [State.settleBorrower, he]
  rfl

theorem State.settleBorrower_open {s : State} {i : EventIx} {e : Event} (he : s.entry i = some e)
    (h : e.state = .requesting ∨ e.state = .held ∨ e.state = .injecting) :
    s.settleBorrower i = (s.freeOfBorrow i e).leaveHeld i := by
  rw [State.settleBorrower_eq he]
  rcases h with h | h | h <;> simp [h, EventState.stopped]

theorem State.settleBorrower_waiting {s : State} {i : EventIx} {e : Event} (he : s.entry i = some e)
    (h : e.state = .bypassed ∨ e.state = .closing) (hw : e.releaseWait.isSome = true) :
    s.settleBorrower i = s.freeOfBorrow i e := by
  rw [State.settleBorrower_eq he]
  rcases h with h | h <;> simp [h, EventState.stopped, hw]

theorem State.settleBorrower_stopped {s : State} {i : EventIx} {e : Event} (he : s.entry i = some e)
    (h : e.state = .bypassed ∨ e.state = .closing) (hw : e.releaseWait = none) :
    s.settleBorrower i = (s.freeOfBorrow i e).giveToFree i := by
  rw [State.settleBorrower_eq he]
  rcases h with h | h <;> simp [h, EventState.stopped, hw]

/-! ## The offer (R92) -/

theorem State.mem_waiting {s : State} {i : EventIx} :
    i ∈ s.eventsWhere (fun e => e.releaseWait.isSome) ↔ ∃ e w, s.entry i = some e ∧ e.releaseWait = some w := by
  rw [State.mem_eventsWhere]
  cases s.entry i <;> simp [Option.isSome_iff_exists]

theorem State.oldestWaiting_none {s : State} (h : ∀ i e, s.entry i = some e → e.releaseWait = none) : s.oldestWaiting = none := by
  refine head?_sortByKey_nil _ (List.eq_nil_iff_forall_not_mem.2 fun i hi => ?_)
  obtain ⟨e, w, he, hw⟩ := State.mem_waiting.1 hi
  simp [h i e he] at hw

theorem State.oldestWaiting_eq {s : State} {i : EventIx} {e : Event} {w : ReleaseWait} (he : s.entry i = some e)
    (hw : e.releaseWait = some w)
    (hold : ∀ j x z, s.entry j = some x → x.releaseWait = some z → j ≠ i → w.order < z.order) : s.oldestWaiting = some i := by
  refine head?_sortByKey (State.mem_waiting.2 ⟨e, w, he, hw⟩) fun j hj hne => ?_
  obtain ⟨x, z, hx, hz⟩ := State.mem_waiting.1 hj
  simp only [he, hw, hx, hz]
  exact hold j x z hx hz hne

/-- Nothing to offer, or none to offer it to. -/
theorem State.offer_idle {s : State} (n : Nat)
    (h : (∀ r, (s.release r).isSome) ∨ ∀ i e, s.entry i = some e → e.releaseWait = none) : State.offer n s = s := by
  cases n with
  | zero => rfl
  | succ n =>
    unfold State.offer
    rcases h with h | h
    · rw [State.freeRelease_none h]
    · rw [State.oldestWaiting_none h]
      cases s.freeRelease <;> rfl

theorem State.offer_oldest {s : State} (n : Nat) {r : ReleaseIx} {i : EventIx} {e : Event} {w : ReleaseWait}
    (hr : s.release r = none) (hlt : ∀ q, q < r → (s.release q).isSome) (he : s.entry i = some e) (hw : e.releaseWait = some w)
    (hold : ∀ j x z, s.entry j = some x → x.releaseWait = some z → j ≠ i → w.order < z.order) :
    State.offer (n + 1) s = State.offer n ((s.newRelease i r).afterWait i) := by
  simp only [State.offer, State.freeRelease_eq hr hlt, State.oldestWaiting_eq he hw hold]

/-! ## The notice (R96) -/

theorem execStackNotice_eq {s : State} {n : Notice} {rest : List Notice} (h : s.handed.notices = n :: rest) :
    exec .stackNotice s = .next (State.takeNotice { s with handed.notices := rest } n) := by
  simp only [exec, execStackNotice, h]

theorem State.takeNotice_unowned {s : State} {n : Notice} (h : s.releaseOf n.stack = none) :
    s.takeNotice n = if n.recovered then s.availabilityCheck n.stack else s := by
  simp only [State.takeNotice, h]

theorem State.takeNotice_owned {s : State} {n : Notice} (hn : n.recovered = false) {q : ReleaseIx} {y : Release}
    (hq : s.releaseOf n.stack = some q) (hy : s.release q = some y) :
    s.takeNotice n = if n.confirms y then s.confirmRelease q else s := by
  simp only [State.takeNotice, hq, hy, hn]
  rfl

theorem Notice.confirms_iff {n : Notice} {y : Release} : n.confirms y = true ↔
    y.state = .pending ∧ n.acknowledged = some y.awaited ∧ n.reported = y.awaited ∧
      (n.state = .standby ∨ n.state = .bypassed) := by
  have hquiet : n.state.quiet = true ↔ n.state = .standby ∨ n.state = .bypassed := by
    cases n.state <;> decide
  simp only [Notice.confirms, Bool.and_eq_true, decide_eq_true_eq, and_assoc, hquiet]

/-- The state in which a release's whole amount has gone to Free. -/
def State.paidWhole (s : State) (q : ReleaseIx) (amount : Nat) : State :=
  { s.setRelease q none with
    pool.free := s.pool.free + amount
    pool.passDue := true }

/-- A release without claims confirmed where no event is HELD and none waits: its whole amount goes to Free. -/
theorem State.confirmRelease_unclaimed {s : State} {q : ReleaseIx} {y : Release} (hy : s.release q = some y) (hc : y.claims = [])
    (hi : ∀ i e, s.entry i = some e → e.releaseWait = none ∧ e.state ≠ .held) :
    s.confirmRelease q = s.paidWhole q y.amount := by
  have hpaid : ((s.setRelease q none).addFree y.amount).duePass = s.paidWhole q y.amount := rfl
  have hi' : ∀ i e, (s.paidWhole q y.amount).entry i = some e → e.releaseWait = none ∧ e.state ≠ .held := hi
  unfold State.confirmRelease
  simp only [hy, hc, State.payOut_unclaimed s q hc, List.foldl_nil, hpaid]
  rw [State.availabilityCheck_idle fun i e he => (hi' i e he).2, State.offerEntries,
    State.offer_idle _ (.inr fun i e he => (hi' i e he).1)]
  rfl

/-- Settles O49, by the equations of each operation the notice leads to. -/
theorem stackNoticeTaken : Obligations.StackNoticeTaken := by
  refine ⟨fun s i e he => ⟨State.leaveHeld_stays he, fun hs hh => ⟨fun hg => ?_, fun hg hf => ?_, fun hg hf => ?_⟩,
    fun k => ⟨fun hs hh hk ha => ?_, fun h => State.freeOfStack_stays he ?_⟩,
    ⟨State.settleBorrower_open he, State.settleBorrower_waiting he, State.settleBorrower_stopped he⟩, State.giveToFree_eq he,
    State.afterWait_eq he⟩, fun s k n => ⟨rfl, rfl, State.offer_idle n, fun r i e w => State.offer_oldest n⟩,
    fun s n rest h ho hr => ?_, fun s n rest h hr => ⟨fun ho => ?_, fun q y hq hy => ⟨fun hn => ?_, fun hp ha hv hx hc hi => ?_⟩⟩⟩
  · rw [State.leaveHeld_denied he hs hh hg, State.bypassIdle_eq he]
    simp only [hh, HeldReasons.empty]
  · rw [State.leaveHeld_faulted he hs hh hg (StackView.faulted_iff.2 hf), State.addMark, State.modEvent_eq _ he,
      State.bypassIdle_eq ((State.entry_setEntry _ i i _).trans (if_pos rfl)), State.setEntry_setEntry]
    simp only [hh, HeldReasons.empty]
    rfl
  · exact State.leaveHeld_injects he hs hh hg fun h => hf (StackView.faulted_iff.1 h)
  · subst hk
    exact State.freeOfStack_frees he hs hh (State.stackAvailable_iff.2 ha)
  · rwa [State.stackAvailable_iff]
  · rw [execStackNotice_eq h, State.takeNotice_unowned (s := { s with handed.notices := rest }) ho, if_pos hr]
  · rw [execStackNotice_eq h, State.takeNotice_unowned (s := { s with handed.notices := rest }) ho, if_neg (by simp [hr])]
  · rw [execStackNotice_eq h, State.takeNotice_owned (s := { s with handed.notices := rest }) hr hq hy, if_neg]
    rw [Notice.confirms_iff]
    rintro ⟨hp, ha, hv, hx⟩
    rcases hn with hn | hn | hn | hn | hn
    · simp [hp] at hn
    · exact hn ha
    · exact hn hv
    · simp [hn] at hx
    · simp [hn] at hx
  · rw [execStackNotice_eq h, State.takeNotice_owned (s := { s with handed.notices := rest }) hr hq hy, if_pos (Notice.confirms_iff.2 ⟨hp, ha, hv, hx⟩)]
    exact congrArg _ (State.confirmRelease_unclaimed hy hc hi)

end Sys2Proof.Machine
end

section
/-! SUPPORT. An accepted STORE frame up to its confirmation (R102, R103), and what a confirmation makes of the dissolved releases and
the claims on them (R98, R101). -/

namespace Sys2Proof.Machine

/-! ## The frame taken (R102) -/

/-- The frame taken: the baseline and what it says of the charger. -/
def State.storeTaken (s : State) (x : HandedStore) (rest : List HandedStore) : State :=
  { s with
    handed.store := rest
    pool.storeBaseline := some x.timestamp
    pool.charger := some x.charger
    pool.chargerFault := s.pool.chargerFault || decide (x.charger = .fault) }

theorem State.storeFrame_confirms {s : State} {x : HandedStore} {rest : List HandedStore} {p : StoreParameters}
    (hq : s.handed.store = x :: rest) (hp : s.activeBank.store = some p) (ha : p.head.address = x.source)
    (hb : ∀ base, s.pool.storeBaseline = some base → (x.timestamp - base).toNat ≤ 2147483648) :
    exec .storeFrame s = .next ((s.storeTaken x rest).confirmStore p x.timestamp (min x.voltage 16000)) := by
  have hfresh : s.staleStoreFrame x.timestamp = false := by
    unfold State.staleStoreFrame
    split
    · next base hbase => exact decide_eq_false (Nat.not_lt.2 (hb base hbase))
    · rfl
  have hp' : State.activeBank { s with handed.store := rest } = s.activeBank := rfl
  have hfresh' : State.staleStoreFrame { s with handed.store := rest } x.timestamp = false := hfresh
  simp only [exec, execStoreFrame, hq, State.takeStore, hp', hp, ha, hfresh', ne_eq, not_true_eq_false, if_false,
    Bool.false_eq_true]
  rfl

/-- The confirmation by its steps. -/
theorem State.confirmStore_eq (s : State) (p : StoreParameters) (timestamp : U32) (voltage : Nat) :
    s.confirmStore p timestamp voltage =
      let balanced := (s.unresolvedGone p voltage).setFree timestamp voltage
      (((balanced.1.enterLive p balanced.2 timestamp voltage).cutConsequences balanced.2).dissolutionConsequences
        (s.unresolvedOldestFirst.filterMap s.release)).duePass := rfl

/-! ## An event cut to nothing (R104) -/

theorem State.reachesCut_iff {s : State} {i : EventIx} {e : Event} (he : s.entry i = some e) : s.reachesCut i = true ↔
    e.unspent = 0 ∧ (e.state = .injecting ∨ e.state = .held ∧ e.claims = []) := by
  simp only [State.reachesCut, he, Bool.and_eq_true, Bool.or_eq_true, decide_eq_true_eq, List.isEmpty_iff]

theorem State.reachesCut_held {s : State} {i : EventIx} (h : s.reachesCut i = true) : ∃ e, s.entry i = some e := by
  cases he : s.entry i with
  | none => simp [State.reachesCut, he] at h
  | some e => exact ⟨e, rfl⟩

/-- The outcome CUT: BYPASSED with nothing to dispose of. -/
theorem State.cutOutcome_eq {s : State} {i : EventIx} {e : Event} (he : s.entry i = some e) (h : s.reachesCut i = true) :
    s.cutOutcome i = if e.stackOrder = .inject then (s.bypassEntered i e .cut).queueCommand e.copy.stack .bypass
      else s.bypassEntered i e .cut := by
  have hu := ((State.reachesCut_iff he).1 h).1
  have hentry : ∀ u : State, (u = s.bypassEntered i e .cut ∨ u = (s.bypassEntered i e .cut).queueCommand e.copy.stack .bypass) →
      u.dispose i = u := by
    intro u hcase
    have hi : u.entry i = some (e.bypassed .cut) := by
      rcases hcase with rfl | rfl
      · exact s.bypassEntered_entry i e .cut
      · exact (State.queueCommand_entry _ _ _ i).trans (s.bypassEntered_entry i e .cut)
    exact State.dispose_settled hi (.inl hu)
  rw [State.cutOutcome, if_pos h, State.bypass_eq he]
  by_cases ho : e.stackOrder = .inject
  · rw [if_pos ⟨ho, rfl⟩, if_pos ho]
    exact hentry _ (.inr rfl)
  · rw [if_neg fun hx => ho hx.1, if_neg ho]
    exact hentry _ (.inl rfl)

theorem State.cutOutcome_none {s : State} {i : EventIx} (h : ¬ s.reachesCut i = true) : s.cutOutcome i = s := if_neg h

/-! ## Claims and waits that only go -/

/-- An event's claims are among those it had, it waits only if it did, and is HELD only if it was. -/
structure Event.Wanes (e e' : Event) : Prop where
  wait : e.releaseWait = none → e'.releaseWait = none
  claims : ∀ d ∈ e'.claims, d ∈ e.claims
  copy : e'.copy = e.copy
  held : e'.state = .held → e.state = .held

theorem Event.Wanes.refl (e : Event) : e.Wanes e := ⟨id, fun _ => id, rfl, id⟩

theorem Event.Wanes.trans {e f g : Event} (h : e.Wanes f) (k : f.Wanes g) : e.Wanes g :=
  ⟨fun x => k.wait (h.wait x), fun d hd => h.claims d (k.claims d hd), k.copy.trans h.copy, fun x => h.held (k.held x)⟩

theorem Event.Wanes.of_same {e e' : Event} (hw : e'.releaseWait = e.releaseWait) (hc : e'.claims = e.claims)
    (hk : e'.copy = e.copy) (hs : e'.state = e.state) : e.Wanes e' :=
  ⟨fun h => hw.trans h, fun _ hd => hc ▸ hd, hk, fun h => hs.symm.trans h⟩

theorem Event.Wanes.of_left {e e' : Event} (hw : e'.releaseWait = e.releaseWait) (hc : e'.claims = e.claims)
    (hk : e'.copy = e.copy) (hs : e'.state ≠ .held) : e.Wanes e' :=
  ⟨fun h => hw.trans h, fun _ hd => hc ▸ hd, hk, fun h => absurd h hs⟩

/-- No release and no entry is new; claims, waits and stays in HELD only go. -/
structure Wanes (s t : State) : Prop where
  release : ∀ r, s.release r = none → t.release r = none
  entry : ∀ i e', t.entry i = some e' → ∃ e, s.entry i = some e ∧ e.Wanes e'

theorem Wanes.refl (s : State) : Wanes s s := ⟨fun _ h => h, fun _ e he => ⟨e, he, .refl e⟩⟩

theorem Wanes.trans {s t u : State} (h : Wanes s t) (k : Wanes t u) : Wanes s u := by
  refine ⟨fun r hr => k.release r (h.release r hr), fun i e'' he'' => ?_⟩
  obtain ⟨e', he', hk⟩ := k.entry i e'' he''
  obtain ⟨e, he, hh⟩ := h.entry i e' he'
  exact ⟨e, he, hh.trans hk⟩

/-- The second of two changes named first. -/
theorem Wanes.after {s t u : State} (k : Wanes t u) (h : Wanes s t) : Wanes s u := h.trans k

theorem Wanes.foldl {α : Type} {f : State → α → State} (h : ∀ s x, Wanes s (f s x)) (l : List α) (s : State) :
    Wanes s (l.foldl f s) := foldl_relates .refl .trans h l s

theorem Wanes.waitless {s t : State} (h : Wanes s t) (hs : ∀ i e, s.entry i = some e → e.releaseWait = none) :
    ∀ i e, t.entry i = some e → e.releaseWait = none := fun i e' he' => by
  obtain ⟨e, he, hw⟩ := h.entry i e' he'
  exact hw.wait (hs i e he)

theorem Wanes.of_stands {s t : State} (hr : Stands s t)
    (he : ∀ i e', t.entry i = some e' → ∃ e, s.entry i = some e ∧ e.Wanes e') : Wanes s t := ⟨fun _ => hr.vacant, he⟩

theorem Wanes.of_eq {s t : State} (he : t.events.entries = s.events.entries) (hr : t.pool.releases = s.pool.releases) :
    Wanes s t := .of_stands (.of_eq hr) fun i e h => ⟨e, (State.entry_congr he i).symm.trans h, .refl e⟩

/-- The same as of a state of the same entries and the same releases. -/
theorem Wanes.as {s t u : State} (h : Wanes s t) (he : u.events.entries = t.events.entries)
    (hr : u.pool.releases = t.pool.releases) : Wanes s u := h.trans (.of_eq he hr)

theorem Wanes.of_sheds {s t : State} (h : Sheds s t) (hr : Stands s t) : Wanes s t :=
  .of_stands hr fun _ e he => ⟨e, h.held he, .refl e⟩

theorem State.setEntry_wanes {s : State} {i : EventIx} {e e' : Event} (he : s.entry i = some e) (h : e.Wanes e') :
    Wanes s (s.setEntry i (some e')) := by
  refine .of_stands (.of_eq rfl) fun j x hx => ?_
  rw [State.entry_setEntry] at hx
  split at hx
  · next hij =>
    subst hij
    cases hx
    exact ⟨e, he, h⟩
  · exact ⟨x, hx, .refl x⟩

theorem State.modEvent_wanes (s : State) (i : EventIx) {f : Event → Event} (h : ∀ e : Event, e.Wanes (f e)) : Wanes s (s.modEvent i f) := by
  cases he : s.entry i with
  | none => rw [State.modEvent_free f he]; exact .refl s
  | some e => rw [State.modEvent_eq f he]; exact State.setEntry_wanes he (h e)

theorem State.queueCommand_wanes (s : State) (k : Station) (c : CommandKind) : Wanes s (s.queueCommand k c) :=
  .of_stands (s.queueCommand_stands k c) fun i e he => ⟨e, (s.queueCommand_entry k c i).symm.trans he, .refl e⟩

theorem State.kick_wanes (s : State) : Wanes s s.kick := .of_sheds s.kick_sheds s.kick_stands

theorem State.report_wanes (s : State) (n : Report) : Wanes s (s.report n) := by
  unfold State.report
  split
  · exact (State.kick_wanes _).after (.of_eq rfl rfl)
  · exact .of_eq rfl rfl

theorem State.giveToFree_wanes (s : State) (i : EventIx) : Wanes s (s.giveToFree i) := by
  cases he : s.entry i with
  | none => simp only [State.giveToFree, he]; exact .refl s
  | some e => rw [State.giveToFree_eq he]; exact Wanes.as (State.setEntry_wanes (e' := e.giveUp) he (.of_same rfl rfl rfl rfl)) rfl rfl

theorem State.bypassIdle_wanes (s : State) (i : EventIx) (cause : EventOutcome) : Wanes s (s.bypassIdle i cause) := by
  have hleft : Wanes s (s.leavePath i cause) :=
    Wanes.after (State.modEvent_wanes _ i fun _ => .of_left rfl rfl rfl nofun) (.of_eq (t := s.dropRequest i) rfl rfl)
  exact hleft.trans (State.giveToFree_wanes _ i)

theorem State.enterInjecting_wanes (s : State) (i : EventIx) : Wanes s (s.enterInjecting i) := by
  unfold State.enterInjecting
  split
  · exact .refl s
  · next e he =>
    have hrecord : ∀ (u : State) (f : StackRecord → StackRecord), Wanes u (u.modRecord e.copy.stack f) := fun u f => .of_eq rfl rfl
    exact (State.queueCommand_wanes _ _ _).after ((hrecord _ _).after (State.setEntry_wanes he (.of_left rfl rfl rfl nofun)))

theorem State.leaveHeld_wanes (s : State) (i : EventIx) : Wanes s (s.leaveHeld i) := by
  unfold State.leaveHeld
  split
  · exact .refl s
  · split
    · split
      · exact s.bypassIdle_wanes i _
      · split
        · exact (State.bypassIdle_wanes _ i _).after (State.modEvent_wanes s i fun _ => .of_same rfl rfl rfl rfl)
        · exact s.enterInjecting_wanes i
    · exact .refl s

theorem State.freeOfStack_wanes (k : Station) (s : State) (i : EventIx) : Wanes s (State.freeOfStack k s i) := by
  unfold State.freeOfStack
  split
  · exact .refl s
  · next he =>
    split
    · exact (State.leaveHeld_wanes _ i).after (State.setEntry_wanes he (.of_same rfl rfl rfl rfl))
    · exact .refl s

theorem State.availabilityCheck_wanes (s : State) (k : Station) : Wanes s (s.availabilityCheck k) :=
  .foldl (State.freeOfStack_wanes k) _ s

theorem State.settleBorrower_wanes (s : State) (i : EventIx) : Wanes s (s.settleBorrower i) := by
  cases he : s.entry i with
  | none => simp only [State.settleBorrower, he]; exact .refl s
  | some e =>
    have hb : Wanes s (s.freeOfBorrow i e) := by
      unfold State.freeOfBorrow
      split
      · exact State.setEntry_wanes he (.of_same rfl rfl rfl rfl)
      · exact .refl s
    rw [State.settleBorrower_eq he]
    split
    · split
      · exact hb
      · exact hb.trans (State.giveToFree_wanes _ i)
    · exact hb.trans (State.leaveHeld_wanes _ i)

theorem State.forgetDrawing_wanes (s : State) (i : EventIx) : Wanes s (s.forgetDrawing i) := by
  unfold State.forgetDrawing
  exact .of_eq rfl rfl

theorem State.enterReporting_wanes (s : State) (i : EventIx) : Wanes s (s.enterReporting i) := by
  have hm : Wanes s ((s.modEvent i fun e => { e with state := .reporting }).forgetDrawing i) :=
    (State.forgetDrawing_wanes _ i).after (State.modEvent_wanes s i fun _ => .of_left rfl rfl rfl nofun)
  unfold State.enterReporting
  dsimp only
  split
  · refine (State.kick_wanes _).after (Wanes.after (.of_sheds (State.queueClosed_sheds fun e he => ?_)
      (State.queueClosed_stands _ i)) hm)
    rw [State.entry_congr (s := s.modEvent i fun e => { e with state := .reporting }) (by simp) i,
      State.entry_modEvent, if_pos rfl, Option.map_eq_some_iff] at he
    obtain ⟨e', -, rfl⟩ := he
    rfl
  · exact hm

theorem State.afterWait_wanes (s : State) (i : EventIx) : Wanes s (s.afterWait i) := by
  unfold State.afterWait
  split
  · exact .refl s
  · refine (State.availabilityCheck_wanes _ _).after ?_
    split
    · exact s.enterReporting_wanes i
    · exact .refl s

theorem State.endSpentWait_wanes (s : State) (i : EventIx) : Wanes s (s.endSpentWait i) := by
  unfold State.endSpentWait
  split
  · exact .refl s
  · split
    · exact (State.afterWait_wanes _ i).after (State.modEvent_wanes s i fun _ => ⟨fun _ => rfl, fun _ => id, rfl, id⟩)
    · exact .refl s

theorem State.bypassEntered_wanes {s : State} {i : EventIx} {e : Event} (he : s.entry i = some e) (cause : EventOutcome) :
    Wanes s (s.bypassEntered i e cause) := by
  have hdropped : (s.dropRequest i).entry i = some e := he
  have hw : Wanes s ((s.dropRequest i).setEntry i (some (e.bypassed cause))) :=
    (State.setEntry_wanes (e' := e.bypassed cause) hdropped (.of_left rfl rfl rfl nofun)).after (.of_eq rfl rfl)
  rwa [State.dropRequest_eq] at hw

theorem State.cutOutcome_wanes (s : State) (i : EventIx) : Wanes s (s.cutOutcome i) := by
  by_cases h : s.reachesCut i = true
  · obtain ⟨e, he⟩ := State.reachesCut_held h
    rw [State.cutOutcome_eq he h]
    split
    · exact (State.bypassEntered_wanes he _).trans (State.queueCommand_wanes _ _ _)
    · exact State.bypassEntered_wanes he _
  · rw [State.cutOutcome_none h]
    exact .refl s

theorem State.freeOfStore_wanes (cut : List EventIx) (s : State) (i : EventIx) : Wanes s (State.freeOfStore cut s i) := by
  unfold State.freeOfStore
  split
  · exact .refl s
  · next e he =>
    have hset : Wanes s (s.setEntry i (some { e with held.store := false })) := State.setEntry_wanes he (.of_same rfl rfl rfl rfl)
    split
    · dsimp only
      split
      · exact hset
      · exact hset.trans (State.leaveHeld_wanes _ i)
    · exact .refl s

theorem State.enterLive_wanes (s : State) (p : StoreParameters) (cut : List EventIx) (timestamp : U32) (voltage : Nat) :
    Wanes s (s.enterLive p cut timestamp voltage) := by
  unfold State.enterLive
  dsimp only
  split
  · exact .of_eq rfl rfl
  · exact (State.report_wanes _ _).after ((Wanes.foldl (State.freeOfStore_wanes cut) _ _).after (.of_eq rfl rfl))

theorem State.cutEvents_release (s : State) (n : Nat) (r : ReleaseIx) :
    (State.cutEvents s.eventsToCut n s).1.release r = s.release r := by
  simp [State.release]

/-- The events' cut leaves the order in which the releases are cut. -/
theorem State.cutEvents_releasesToCut (s : State) (n : Nat) :
    (State.cutEvents s.eventsToCut n s).1.releasesToCut = s.releasesToCut := by
  have hclass : ∀ x, (State.cutEvents s.eventsToCut n s).1.ownerClass x = s.ownerClass x := fun x => by
    unfold State.ownerClass
    cases x.origin with
    | none => rfl
    | some i =>
      have hi := (s.cutEvents_toCut n).1 i
      dsimp only
      rw [hi]
      cases he : s.entry i with
      | none => simp
      | some e =>
        by_cases hc : 0 < s.eventCut n i
        · simp only [if_pos hc, Option.map_some]
          rfl
        · simp only [if_neg hc]
  unfold State.releasesToCut
  simp only [s.cutEvents_release n, hclass]
  simp

theorem State.cutEvents_releaseCut (s : State) (n m : Nat) (r : ReleaseIx) :
    (State.cutEvents s.eventsToCut n s).1.releaseCut m r = s.releaseCut m r := by
  have hamount : ∀ q, (State.cutEvents s.eventsToCut n s).1.amountOf q = s.amountOf q := fun q => by
    simp only [State.amountOf, s.cutEvents_release n]
  rw [State.releaseCut, s.cutEvents_releasesToCut n, shares_congr fun q _ => hamount q, State.releaseCut]

theorem State.shortfallCut_release (s : State) (n : Nat) (r : ReleaseIx) : (s.shortfallCut n).release r =
    (s.release r).map fun x => { x with amount := x.amount - s.releaseCut (n - s.unspentSum) r } := by
  have hrelease : (s.shortfallCut n).release r = (State.cutReleases (State.cutEvents s.eventsToCut n s).1.releasesToCut
    (State.cutEvents s.eventsToCut n s).2.1 (State.cutEvents s.eventsToCut n s).1).1.release r := rfl
  rw [hrelease, ((State.cutEvents s.eventsToCut n s).1.cutReleases_toCut _).1 r, s.cutEvents_releaseCut, s.cutEvents_release,
    (s.cutEvents_toCut n).2.1]

theorem State.withFree_releases (s : State) (n : Nat) : (s.withFree n).pool.releases = s.pool.releases := rfl

theorem State.setFree_wanes (s : State) (timestamp : U32) (voltage : Nat) : Wanes s (s.setFree timestamp voltage).1 := by
  by_cases h : s.unspentSum + s.releaseSum ≤ s.pool.budget
  · rw [State.setFree_covered h]
    exact .of_stands (.of_eq (s.withFree_releases _)) fun i e he => ⟨e, (s.withFree_entry _ i).symm.trans he, .refl e⟩
  · rw [State.setFree_short h rfl]
    refine (State.report_wanes _ _).after ⟨fun r hr => ?_, fun i e' he' => ?_⟩
    · rw [State.shortfallCut_release, hr]
      rfl
    · rw [State.shortfallCut_entry, (s.cutEvents_toCut _).1 i] at he'
      split at he'
      · rw [Option.map_eq_some_iff] at he'
        obtain ⟨e, he, rfl⟩ := he'
        exact ⟨e, he, .of_same rfl rfl rfl rfl⟩
      · exact ⟨e', he', .refl e'⟩

/-- What follows the dissolution, where no event waits for a freed entry. -/
theorem State.dissolutionConsequences_wanes (s : State) (gone : List Release)
    (hs : ∀ i e, s.entry i = some e → e.releaseWait = none) : Wanes s (s.dissolutionConsequences gone) := by
  have hborrowers : Wanes s (gone.foldl (fun s x => x.claims.foldl (fun s c => s.settleBorrower c.event) s) s) :=
    .foldl (fun s (x : Release) => .foldl (fun s (c : ReleaseClaim) => s.settleBorrower_wanes c.event) x.claims s) _ s
  have hstacks := hborrowers.trans (Wanes.foldl (fun s (x : Release) => s.availabilityCheck_wanes x.stack) gone _)
  unfold State.dissolutionConsequences
  dsimp only
  split
  · exact hstacks
  · rw [State.offerEntries, State.offer_idle _ (.inr (hstacks.waitless hs))]
    exact hstacks

/-! ## Dissolution (R101) -/

theorem State.settleWithNothing_wanes (s : State) (r : ReleaseIx) (c : ReleaseClaim) : Wanes s (s.settleWithNothing r c) :=
  State.modEvent_wanes s c.event fun _ => ⟨id, fun _ hd => (List.mem_filter.1 hd).1, rfl, id⟩

theorem foldl_settleWithNothing_release (l : List ReleaseClaim) (s : State) (r q : ReleaseIx) :
    (l.foldl (fun s c => s.settleWithNothing r c) s).release q = s.release q := by
  refine (foldl_relates (R := fun s t => ∀ q, t.release q = s.release q) (fun _ _ => rfl) (fun h k q => (k q).trans (h q))
    (fun s (c : ReleaseClaim) q => ?_) l s) q
  simp [State.settleWithNothing, State.release]

theorem State.dissolve_release (s : State) (q r : ReleaseIx) :
    (s.dissolve q).release r = if q = r then none else s.release r := by
  unfold State.dissolve
  split
  · next hq =>
    split
    · next h => rw [← h, hq]
    · rfl
  · next x _ =>
    have hset := State.release_setRelease (x.claims.foldl (fun s c => s.settleWithNothing q c) s) q r none
    rw [foldl_settleWithNothing_release] at hset
    exact hset

theorem State.dissolve_wanes (s : State) (q : ReleaseIx) : Wanes s (s.dissolve q) := by
  refine ⟨fun r hr => ?_, ?_⟩
  · rw [State.dissolve_release, hr]
    exact ite_self none
  · unfold State.dissolve
    split
    · exact (Wanes.refl s).entry
    · next x _ =>
      have hfold := Wanes.foldl (fun s (c : ReleaseClaim) => s.settleWithNothing_wanes q c) x.claims s
      exact fun i e he => hfold.entry i e he

/-- No claim on a release is left with an event. -/
def State.Unclaimed (s : State) (r : ReleaseIx) (i : EventIx) : Prop := ∀ e, s.entry i = some e → ∀ d ∈ e.claims, d.release ≠ r

theorem Wanes.unclaimed {s t : State} (h : Wanes s t) {r : ReleaseIx} {i : EventIx} (hs : s.Unclaimed r i) :
    t.Unclaimed r i := fun e' he' d hd => by
  obtain ⟨e, he, hw⟩ := h.entry i e' he'
  exact hs e he d (hw.claims d hd)

theorem State.settleWithNothing_unclaimed (s : State) (r : ReleaseIx) (c : ReleaseClaim) :
    (s.settleWithNothing r c).Unclaimed r c.event := fun e he d hd => by
  rw [State.settleWithNothing, State.entry_modEvent, if_pos rfl, Option.map_eq_some_iff] at he
  obtain ⟨x, -, rfl⟩ := he
  simpa using (List.mem_filter.1 hd).2

theorem foldl_settleWithNothing_unclaimed (l : List ReleaseClaim) (s : State) (r : ReleaseIx) :
    ∀ c ∈ l, (l.foldl (fun s c => s.settleWithNothing r c) s).Unclaimed r c.event := by
  induction l generalizing s with
  | nil => simp
  | cons d l ih =>
    intro c hc
    rcases List.mem_cons.1 hc with rfl | hc
    · exact (Wanes.foldl (fun s (c : ReleaseClaim) => s.settleWithNothing_wanes r c) l _).unclaimed
        (s.settleWithNothing_unclaimed r c)
    · exact ih _ c hc

theorem State.dissolve_unclaimed {s : State} {r : ReleaseIx} {y : Release} (hy : s.release r = some y) :
    ∀ c ∈ y.claims, (s.dissolve r).Unclaimed r c.event := fun c hc => by
  have h := foldl_settleWithNothing_unclaimed y.claims s r c hc
  simp only [State.dissolve, hy]
  exact h

/-- The releases dissolved are gone, and so are the claims on them. -/
theorem foldl_dissolve_gone {l : List ReleaseIx} {s : State} {r : ReleaseIx} {y : Release} (hr : r ∈ l)
    (hy : s.release r = some y) :
    (l.foldl State.dissolve s).release r = none ∧ ∀ c ∈ y.claims, (l.foldl State.dissolve s).Unclaimed r c.event := by
  induction l generalizing s with
  | nil => simp at hr
  | cons q l ih =>
    by_cases hq : q = r
    · subst hq
      have hrest := Wanes.foldl State.dissolve_wanes l (s.dissolve q)
      exact ⟨hrest.release q ((s.dissolve_release q q).trans (if_pos rfl)),
        fun c hc => hrest.unclaimed (State.dissolve_unclaimed hy c hc)⟩
    · exact ih ((List.mem_cons.1 hr).resolve_left fun h => hq h.symm) ((s.dissolve_release q r).trans (by rw [if_neg hq, hy]))

theorem State.mem_unresolved {s : State} {r : ReleaseIx} :
    r ∈ s.unresolvedOldestFirst ↔ ∃ y, s.release r = some y ∧ y.state = .unresolved := by
  rw [State.unresolvedOldestFirst, mem_sortByKey, List.mem_filter]
  cases h : s.release r <;> simp [allReleases]

theorem State.unresolvedGone_wanes (s : State) (p : StoreParameters) (voltage : Nat) : Wanes s (s.unresolvedGone p voltage) := by
  have hset : Wanes s { s with pool.inEffect := some p, pool.budget := storeBudget p voltage } := .of_eq rfl rfl
  exact (hset.trans (Wanes.foldl State.dissolve_wanes _ _)).as rfl rfl

/-- After a confirmation no UNRESOLVED release is left and none has a claim, where no event waits for a freed entry (R101). -/
theorem State.confirmStore_gone {s : State} (p : StoreParameters) (timestamp : U32) (voltage : Nat)
    (hs : ∀ i e, s.entry i = some e → e.releaseWait = none) {r : ReleaseIx} {y : Release} (hy : s.release r = some y)
    (hu : y.state = .unresolved) :
    (s.confirmStore p timestamp voltage).release r = none ∧
      ∀ c ∈ y.claims, (s.confirmStore p timestamp voltage).Unclaimed r c.event := by
  obtain ⟨hgone, hclaims⟩ := foldl_dissolve_gone (s := { s with pool.inEffect := some p, pool.budget := storeBudget p voltage })
    (State.mem_unresolved.2 ⟨y, hy, hu⟩) hy
  have hdrawn : ∀ u : State, Wanes u { u with pool.drawn := 0 } := fun u => .of_eq rfl rfl
  have hrest : ∀ (t : State) (cut : List EventIx) (releases : List Release),
      (∀ i e, t.entry i = some e → e.releaseWait = none) → Wanes t
        (((t.enterLive p cut timestamp voltage).cutConsequences cut).dissolutionConsequences releases).duePass := by
    intro t cut releases ht
    have hcut : Wanes t ((t.enterLive p cut timestamp voltage).cutConsequences cut) :=
      (t.enterLive_wanes p cut timestamp voltage).trans
        ((Wanes.foldl State.cutOutcome_wanes _ _).trans (Wanes.foldl State.endSpentWait_wanes _ _))
    exact (hcut.trans (State.dissolutionConsequences_wanes _ releases (hcut.waitless ht))).as rfl rfl
  have hfree := (hdrawn _).trans (State.setFree_wanes (s.unresolvedGone p voltage) timestamp voltage)
  have hall := hfree.trans (hrest _ ((s.unresolvedGone p voltage).setFree timestamp voltage).2 (s.unresolvedOldestFirst.filterMap s.release)
    (((s.unresolvedGone_wanes p voltage).trans (State.setFree_wanes _ timestamp voltage)).waitless hs))
  exact ⟨hall.release r hgone, fun c hc => hall.unclaimed (hclaims c hc)⟩

end Sys2Proof.Machine
end

section
/-! SUPPORT. A store confirmation: what every one leaves in the pool, and the state it makes where B covers what is committed (R66, R69,
R70, R98, R101, R103). -/

namespace Sys2Proof.Machine

/-! ## What every confirmation leaves in the pool -/

theorem State.newRelease_drawn (s : State) (i : EventIx) (r : ReleaseIx) : (s.newRelease i r).pool.drawn = s.pool.drawn := by
  cases he : s.entry i with
  | none => simp only [State.newRelease, he]
  | some e =>
    have htold : (s.toldToStop e).pool.drawn = s.pool.drawn := by
      unfold State.toldToStop
      split
      · simp
      · rfl
    rw [State.newRelease_eq he]
    dsimp only
    split
    · rw [State.payOut_unclaimed _ _ rfl]
      simpa using htold
    · simpa using htold

theorem State.offer_drawn (n : Nat) (s : State) : (State.offer n s).pool.drawn = s.pool.drawn := by
  induction n generalizing s with
  | zero => rfl
  | succ n ih =>
    unfold State.offer
    split
    · rw [ih]
      simp [State.newRelease_drawn]
    · rfl

theorem State.dissolutionConsequences_drawn (s : State) (gone : List Release) :
    (s.dissolutionConsequences gone).pool.drawn = s.pool.drawn := by
  have hborrowers : ∀ (l : List ReleaseClaim) (u : State),
      (l.foldl (fun s c => s.settleBorrower c.event) u).pool.drawn = u.pool.drawn :=
    foldl_relates (R := fun s t => t.pool.drawn = s.pool.drawn) (fun _ => rfl) (fun h k => k.trans h)
      (fun s (c : ReleaseClaim) => by simp)
  have hsettled : ∀ (l : List Release) (u : State),
      (l.foldl (fun s x => x.claims.foldl (fun s c => s.settleBorrower c.event) s) u).pool.drawn = u.pool.drawn :=
    foldl_relates (R := fun s t => t.pool.drawn = s.pool.drawn) (fun _ => rfl) (fun h k => k.trans h)
      (fun s (x : Release) => hborrowers x.claims s)
  have hchecked : ∀ (l : List Release) (u : State),
      (l.foldl (fun s x => s.availabilityCheck x.stack) u).pool.drawn = u.pool.drawn :=
    foldl_relates (R := fun s t => t.pool.drawn = s.pool.drawn) (fun _ => rfl) (fun h k => k.trans h)
      (fun s (x : Release) => by simp)
  unfold State.dissolutionConsequences
  dsimp only
  split
  · rw [hchecked, hsettled]
  · rw [State.offerEntries, State.offer_drawn, hchecked, hsettled]

/-- The outcome CUT moves no energy. -/
theorem State.cutOutcome_pool (s : State) (i : EventIx) :
    (s.cutOutcome i).pool.drawn = s.pool.drawn ∧ (s.cutOutcome i).pool.free = s.pool.free := by
  by_cases h : s.reachesCut i = true
  · obtain ⟨e, he⟩ := State.reachesCut_held h
    rw [State.cutOutcome_eq he h]
    split
    · simp [State.bypassEntered]
    · exact ⟨rfl, rfl⟩
  · rw [State.cutOutcome_none h]
    exact ⟨rfl, rfl⟩

theorem foldl_cutOutcome_pool (l : List EventIx) (s : State) :
    (l.foldl State.cutOutcome s).pool.drawn = s.pool.drawn ∧ (l.foldl State.cutOutcome s).pool.free = s.pool.free :=
  foldl_relates (R := fun s t : State => t.pool.drawn = s.pool.drawn ∧ t.pool.free = s.pool.free) (fun _ => ⟨rfl, rfl⟩)
    (fun h k => ⟨k.1.trans h.1, k.2.trans h.2⟩) State.cutOutcome_pool l s

theorem State.cutConsequences_drawn (s : State) (cut : List EventIx) : (s.cutConsequences cut).pool.drawn = s.pool.drawn := by
  unfold State.cutConsequences
  rw [(foldl_endSpentWait_frame _ _).2.2.2.2.2.2.2.1, (foldl_cutOutcome_pool _ _).1]

theorem State.enterLive_pool (s : State) (p : StoreParameters) (cut : List EventIx) (timestamp : U32) (voltage : Nat) :
    (s.enterLive p cut timestamp voltage).pool.storeState = .live ∧
      (s.enterLive p cut timestamp voltage).pool.storeSilence = some (s.now + p.silenceTimeout) := by
  unfold State.enterLive
  dsimp only
  split
  · exact ⟨rfl, rfl⟩
  · simp

/-- The pool's figures after any confirmation. -/
structure State.StoreLive (s : State) (p : StoreParameters) (voltage : Nat) (t : State) : Prop where
  budget : t.pool.budget = storeBudget p voltage
  inEffect : t.pool.inEffect = some p
  storeState : t.pool.storeState = .live
  storeSilence : t.pool.storeSilence = some (s.now + p.silenceTimeout)
  passDue : t.pool.passDue = true
  drawn : t.pool.drawn = 0

theorem State.unresolvedGone_pool (s : State) (p : StoreParameters) (voltage : Nat) :
    (s.unresolvedGone p voltage).pool.budget = storeBudget p voltage ∧ (s.unresolvedGone p voltage).pool.inEffect = some p ∧
      (s.unresolvedGone p voltage).pool.drawn = 0 ∧ (s.unresolvedGone p voltage).now = s.now := by
  simp [State.unresolvedGone]

theorem State.confirmStore_live (s : State) (p : StoreParameters) (timestamp : U32) (voltage : Nat) :
    s.StoreLive p voltage (s.confirmStore p timestamp voltage) := by
  obtain ⟨hbudget, heffect, hdrawn, hnow⟩ := s.unresolvedGone_pool p voltage
  rw [State.confirmStore_eq]
  generalize s.unresolvedGone p voltage = u at hbudget heffect hdrawn hnow
  dsimp only
  obtain ⟨hstate, hsilence⟩ :=
    (u.setFree timestamp voltage).1.enterLive_pool p (u.setFree timestamp voltage).2 timestamp voltage
  refine ⟨?_, ?_, ?_, ?_, rfl, ?_⟩
  · simpa using hbudget
  · simpa using heffect
  · simpa using hstate
  · simpa [hnow] using hsilence
  · rw [(State.duePass_frame _).2.2.2.2.2.2.1, State.dissolutionConsequences_drawn, State.cutConsequences_drawn]
    simpa using hdrawn

/-! ## Nothing to dissolve -/

/-- The parameters in effect and D at 0, with no release dissolved. -/
def State.budgeted (s : State) (p : StoreParameters) (voltage : Nat) : State :=
  { s with pool.inEffect := some p, pool.budget := storeBudget p voltage, pool.drawn := 0 }

theorem State.unresolved_none {s : State} (h : ∀ r y, s.release r = some y → y.state = .pending) :
    s.unresolvedOldestFirst = [] := List.eq_nil_iff_forall_not_mem.2 fun r hr => by
  obtain ⟨y, hy, hu⟩ := State.mem_unresolved.1 hr
  simp [h r y hy] at hu

theorem State.unresolvedGone_pending {s : State} (h : ∀ r y, s.release r = some y → y.state = .pending) (p : StoreParameters)
    (voltage : Nat) : s.unresolvedGone p voltage = s.budgeted p voltage := by
  have hnone := State.unresolved_none
    (s := { s with pool.inEffect := some p, pool.budget := storeBudget p voltage }) h
  unfold State.unresolvedGone
  dsimp only
  rw [hnone]
  rfl

theorem State.budgeted_sums (s : State) (p : StoreParameters) (voltage : Nat) :
    (s.budgeted p voltage).unspentSum = s.unspentSum ∧ (s.budgeted p voltage).releaseSum = s.releaseSum :=
  ⟨State.unspentSum_of_events rfl, State.releaseSum_congr (Stands.amountOf (.of_eq rfl))⟩

theorem State.dissolutionConsequences_nil (s : State) : s.dissolutionConsequences [] = s := rfl

/-- The confirmation with no release UNRESOLVED. -/
theorem State.confirmStore_pending {s : State} (h : ∀ r y, s.release r = some y → y.state = .pending) (p : StoreParameters)
    (timestamp : U32) (voltage : Nat) : s.confirmStore p timestamp voltage =
      let balanced := (s.budgeted p voltage).setFree timestamp voltage
      ((balanced.1.enterLive p balanced.2 timestamp voltage).cutConsequences balanced.2).duePass := by
  rw [State.confirmStore_eq, State.unresolvedGone_pending h, State.unresolved_none h, List.filterMap_nil]
  dsimp only
  rw [State.dissolutionConsequences_nil]

/-- The confirmation where besides B covers what is committed. -/
theorem State.confirmStore_covered {s : State} (h : ∀ r y, s.release r = some y → y.state = .pending) {p : StoreParameters}
    {voltage : Nat} (hb : s.unspentSum + s.releaseSum ≤ storeBudget p voltage) (timestamp : U32) :
    s.confirmStore p timestamp voltage =
      (((s.budgeted p voltage).withFree (storeBudget p voltage - (s.unspentSum + s.releaseSum))).enterLive p [] timestamp
        voltage).duePass := by
  obtain ⟨hu, hr⟩ := s.budgeted_sums p voltage
  have hfree := State.setFree_covered (s := s.budgeted p voltage) (by rw [hu, hr]; exact hb) timestamp voltage
  rw [hu, hr] at hfree
  rw [State.confirmStore_pending h, hfree]
  rfl

/-- The store's one-shot started. -/
def State.silenceFrom (s : State) (p : StoreParameters) : State := { s with pool.storeSilence := some (s.now + p.silenceTimeout) }

theorem State.enterLive_of_live {s : State} (h : s.pool.storeState = .live) (p : StoreParameters) (cut : List EventIx)
    (timestamp : U32) (voltage : Nat) : s.enterLive p cut timestamp voltage = s.silenceFrom p := by
  simp only [State.enterLive, if_pos h, State.silenceFrom]
  rw [← h]

/-- The STORE reason removed from one HELD event of which nothing was cut. -/
def State.freeHeldOfStore (s : State) (i : EventIx) : State :=
  match s.entry i with
  | some e =>
    if e.state = .held then (s.setEntry i (some { e with held := { e.held with store := false } })).leaveHeld i else s
  | none => s

theorem State.freeOfStore_nil (s : State) (i : EventIx) : State.freeOfStore [] s i = s.freeHeldOfStore i := by
  unfold State.freeOfStore State.freeHeldOfStore
  cases s.entry i with
  | none => rfl
  | some e =>
    dsimp only
    split
    · exact if_neg fun hx => absurd hx.1 List.not_mem_nil
    · rfl

theorem State.enterLive_of_left {s : State} (h : s.pool.storeState ≠ .live) (p : StoreParameters) (timestamp : U32)
    (voltage : Nat) : s.enterLive p [] timestamp voltage =
      (allEvents.foldl State.freeHeldOfStore
        { s with pool.storeState := .live, pool.storeSilence := some (s.now + p.silenceTimeout) }).report
        (.storeState s.pool.storeState .live .frame s.pool.budget (some (timestamp, voltage))) := by
  have hfree : State.freeOfStore [] = State.freeHeldOfStore := funext fun u => funext fun i => u.freeOfStore_nil i
  simp only [State.enterLive, if_neg h, hfree]

end Sys2Proof.Machine
end

section
/-! SUPPORT. A store confirmation that dissolves one UNRESOLVED release (R98, R101). -/

namespace Sys2Proof.Machine

/-! ## Operations on the entries alone -/

/-- A state with its pool replaced. -/
def State.withPool (s : State) (pool : Pool) : State := { s with pool := pool }

theorem State.modEvent_withPool (s : State) (P : Pool) (i : EventIx) (f : Event → Event) :
    (s.withPool P).modEvent i f = (s.modEvent i f).withPool P := by
  have hentry : (s.withPool P).entry i = s.entry i := rfl
  unfold State.modEvent
  rw [hentry]
  cases s.entry i <;> rfl

theorem foldl_settleWithNothing_withPool (l : List ReleaseClaim) (s : State) (P : Pool) (r : ReleaseIx) :
    l.foldl (fun w c => w.settleWithNothing r c) (s.withPool P) =
      (l.foldl (fun w c => w.settleWithNothing r c) s).withPool P := by
  induction l generalizing s with
  | nil => rfl
  | cons c l ih =>
    rw [List.foldl_cons, List.foldl_cons, ← ih]
    congr 1
    exact s.modEvent_withPool P c.event _

/-- Claims settled with nothing leave what the events have. -/
theorem State.settleWithNothing_unspentOf (s : State) (r : ReleaseIx) (c : ReleaseClaim) (i : EventIx) :
    (s.settleWithNothing r c).unspentOf i = s.unspentOf i := by
  have hentry := s.entry_modEvent c.event i fun e => { e with claims := e.claims.filter fun d => decide (d.release ≠ r) }
  by_cases h : c.event = i
  · rw [if_pos h] at hentry
    cases he : s.entry i with
    | none => rw [State.unspentOf_none he]; exact State.unspentOf_none (hentry.trans (by rw [he]; rfl))
    | some e =>
      rw [State.unspentOf_some he]
      exact State.unspentOf_some (e := { e with claims := e.claims.filter fun d => decide (d.release ≠ r) })
        (hentry.trans (by rw [he]; rfl))
  · exact State.unspentOf_congr (hentry.trans (if_neg h))

theorem foldl_settleWithNothing_unspentSum (l : List ReleaseClaim) (s : State) (r : ReleaseIx) :
    (l.foldl (fun w c => w.settleWithNothing r c) s).unspentSum = s.unspentSum :=
  State.unspentSum_congr (foldl_relates (R := fun s t : State => ∀ i, t.unspentOf i = s.unspentOf i) (fun _ _ => rfl)
    (fun h k i => (k i).trans (h i)) (fun s (c : ReleaseClaim) => s.settleWithNothing_unspentOf r c) l s)

/-! ## One release dissolved -/

theorem State.unresolved_one {s : State} {r : ReleaseIx} {y : Release} (hy : s.release r = some y) (hu : y.state = .unresolved)
    (hn : ∀ n z, s.release n = some z → n ≠ r → z.state = .pending) : s.unresolvedOldestFirst = [r] := by
  have hnodup : s.unresolvedOldestFirst.Nodup := sortByKey_nodup ((List.nodup_finRange 16).filter _)
  refine List.perm_singleton.1 ((List.perm_ext_iff_of_nodup hnodup (List.nodup_singleton r)).2 fun n => ?_)
  rw [State.mem_unresolved, List.mem_singleton]
  constructor
  · rintro ⟨z, hz, hzu⟩
    by_contra hne
    simp [hn n z hz hne] at hzu
  · rintro rfl
    exact ⟨y, hy, hu⟩

/-- The events where a release's claims have been settled with nothing. -/
def State.claimsDropped (s : State) (r : ReleaseIx) (y : Release) : State :=
  y.claims.foldl (fun w c => w.settleWithNothing r c) s

theorem State.claimsDropped_withPool (s : State) (P : Pool) (r : ReleaseIx) (y : Release) :
    (s.withPool P).claimsDropped r y = (s.claimsDropped r y).withPool P := foldl_settleWithNothing_withPool y.claims s P r

/-- The pool when one release has been dissolved, before Free is set. -/
def State.dissolvedPool (s : State) (p : StoreParameters) (voltage : Nat) (r : ReleaseIx) : Pool :=
  { s.pool with
    inEffect := some p
    budget := storeBudget p voltage
    releases := s.pool.releases.set r none
    passDue := true
    drawn := 0 }

theorem State.unresolvedGone_one {s : State} {r : ReleaseIx} {y : Release} (hy : s.release r = some y)
    (hu : y.state = .unresolved) (hn : ∀ n z, s.release n = some z → n ≠ r → z.state = .pending) (p : StoreParameters)
    (voltage : Nat) :
    s.unresolvedGone p voltage = (s.claimsDropped r y).withPool (s.dissolvedPool p voltage r) := by
  have hone := State.unresolved_one (s := s.withPool { s.pool with inEffect := some p, budget := storeBudget p voltage }) hy hu hn
  have hrelease : (s.withPool { s.pool with inEffect := some p, budget := storeBudget p voltage }).release r = some y := hy
  have hdrop := s.claimsDropped_withPool { s.pool with inEffect := some p, budget := storeBudget p voltage } r y
  have hgone : s.unresolvedGone p voltage =
      { ((s.withPool { s.pool with inEffect := some p, budget := storeBudget p voltage }).dissolve r) with pool.drawn := 0 } := by
    unfold State.unresolvedGone
    change { (s.withPool { s.pool with inEffect := some p, budget := storeBudget p voltage }).unresolvedOldestFirst.foldl
      State.dissolve (s.withPool { s.pool with inEffect := some p, budget := storeBudget p voltage }) with pool.drawn := 0 } = _
    rw [hone]
    rfl
  have hdissolve : (s.withPool { s.pool with inEffect := some p, budget := storeBudget p voltage }).dissolve r =
      (((s.withPool { s.pool with inEffect := some p, budget := storeBudget p voltage }).claimsDropped r y).setRelease r
        none).duePass := by
    simp only [State.dissolve, hrelease]
    rfl
  rw [hgone, hdissolve, hdrop]
  rfl

/-- The sums when the release is gone. -/
theorem State.dissolved_sums {s : State} {r : ReleaseIx} {y : Release} (hy : s.release r = some y) (p : StoreParameters)
    (voltage : Nat) :
    ((s.claimsDropped r y).withPool (s.dissolvedPool p voltage r)).unspentSum = s.unspentSum ∧
      ((s.claimsDropped r y).withPool (s.dissolvedPool p voltage r)).releaseSum = s.releaseSum - y.amount := by
  have hrelease : ∀ q, ((s.claimsDropped r y).withPool (s.dissolvedPool p voltage r)).release q =
      if r = q then none else s.release q := fun q => State.release_setRelease s r q none
  refine ⟨?_, ?_⟩
  · exact (State.unspentSum_of_events (s := s.claimsDropped r y) rfl).trans (foldl_settleWithNothing_unspentSum y.claims s r)
  · have hsum := State.releaseSum_exchange (s := s) (t := (s.claimsDropped r y).withPool (s.dissolvedPool p voltage r)) r
      fun q hq => by simp only [State.amountOf, hrelease, if_neg hq.symm]
    rw [State.amountOf_some hy, State.amountOf_none ((hrelease r).trans (if_pos rfl))] at hsum
    omega

/-- The pool when one release has been dissolved and Free set. -/
def State.settledPool (s : State) (p : StoreParameters) (voltage : Nat) (y : Release) : Pool :=
  { s.pool with
    inEffect := some p
    budget := storeBudget p voltage
    drawn := 0
    free := storeBudget p voltage - (s.unspentSum + (s.releaseSum - y.amount))
    storeSilence := some (s.now + p.silenceTimeout)
    passDue := true }

theorem State.cutConsequences_nil (s : State) : s.cutConsequences [] = s := rfl

theorem State.dissolutionConsequences_one (s : State) (y : Release) : s.dissolutionConsequences [y] =
    ((y.claims.foldl (fun w c => w.settleBorrower c.event) s).availabilityCheck y.stack).offerEntries := by
  simp only [State.dissolutionConsequences, List.foldl_cons, List.foldl_nil, List.isEmpty_cons, Bool.false_eq_true, if_false]

/-- The confirmation in a LIVE store with one release UNRESOLVED, where B covers what is committed without it. -/
theorem State.confirmStore_dissolves {s : State} (hl : s.pool.storeState = .live) {r : ReleaseIx} {y : Release}
    (hy : s.release r = some y) (hu : y.state = .unresolved)
    (hn : ∀ n z, s.release n = some z → n ≠ r → z.state = .pending) {p : StoreParameters} {voltage : Nat}
    (hb : s.unspentSum + (s.releaseSum - y.amount) ≤ storeBudget p voltage) (timestamp : U32) :
    s.confirmStore p timestamp voltage =
      (State.offerEntries ((y.claims.foldl (fun w c => w.settleBorrower c.event)
        (((s.withPool (s.settledPool p voltage y)).claimsDropped r y).setRelease r none)).availabilityCheck y.stack)).duePass := by
  obtain ⟨hsum, hrel⟩ := State.dissolved_sums hy p voltage
  have hfree := State.setFree_covered (s := (s.claimsDropped r y).withPool (s.dissolvedPool p voltage r))
    (by rw [hsum, hrel]; exact hb) timestamp voltage
  rw [hsum, hrel] at hfree
  have hreleases : s.unresolvedOldestFirst.filterMap s.release = [y] := by
    rw [State.unresolved_one hy hu hn]
    simp [hy]
  have hnow : (s.claimsDropped r y).now = s.now :=
    foldl_relates (R := fun s t : State => t.now = s.now) (fun _ => rfl) (fun h k => k.trans h)
      (fun s (c : ReleaseClaim) => by simp [State.settleWithNothing]) y.claims s
  have hlive : (((s.claimsDropped r y).withPool (s.dissolvedPool p voltage r)).withFree
      (storeBudget p voltage - (s.unspentSum + (s.releaseSum - y.amount)))).enterLive p [] timestamp voltage =
      ((s.withPool (s.settledPool p voltage y)).claimsDropped r y).setRelease r none := by
    have hpool : ∀ u : State, u.now = s.now → ((u.withPool (s.dissolvedPool p voltage r)).withFree
        (storeBudget p voltage - (s.unspentSum + (s.releaseSum - y.amount)))).enterLive p [] timestamp voltage =
        (u.withPool (s.settledPool p voltage y)).setRelease r none := fun u hu => by
      rw [State.enterLive_of_live (s := (u.withPool (s.dissolvedPool p voltage r)).withFree _) hl]
      change u.withPool { s.settledPool p voltage y with
        releases := s.pool.releases.set r none, storeSilence := some (u.now + p.silenceTimeout) } = _
      rw [hu]
      rfl
    rw [s.claimsDropped_withPool, hpool _ hnow]
  have hchain : ∀ a b : State, a = b → ((a.cutConsequences []).dissolutionConsequences [y]).duePass =
      ((y.claims.foldl (fun w c => w.settleBorrower c.event) b).availabilityCheck y.stack).offerEntries.duePass := by
    rintro a _ rfl
    rw [State.cutConsequences_nil, State.dissolutionConsequences_one]
  rw [State.confirmStore_eq, State.unresolvedGone_one hy hu hn, hreleases, hfree]
  exact hchain _ _ hlive

end Sys2Proof.Machine
end

section
/-! SUPPORT. What follows a cut of events leaves the rest (R104): a relation that every step of it keeps. -/

namespace Sys2Proof.Machine

/-! ## A HELD event that its stack no longer holds -/

/-- What becomes of a HELD event when its stack is available: the reason STACK goes, and with no other reason left the event leaves
HELD, to INJECTING or, without a grant, to BYPASSED. -/
structure Event.LosesStack (e e' : Event) : Prop where
  copy : e'.copy = e.copy
  spent : e'.spent = e.spent
  unspent : e'.unspent = e.unspent
  grant : e.spent ≤ e.grant → e'.grant = e.grant
  wait : e'.releaseWait = e.releaseWait
  stays : e'.state = .held → e' = { e with held := { e.held with stack := false } }
  reasons : e.held.borrow = true ∨ e.held.store = true → e'.state = .held
  states : e'.state = .held ∨ e'.state = .injecting ∨ e'.state = .bypassed

/-- The same event, or one HELD for one of the stacks freed, which no longer holds it. -/
def Event.Unstacked (freed : Station → Prop) (e e' : Event) : Prop :=
  e' = e ∨ freed e.copy.stack ∧ e.state = .held ∧ e.held.stack = true ∧ e.LosesStack e'

namespace Event.Unstacked
variable {freed : Station → Prop} {e f g : Event}

theorem refl (e : Event) : e.Unstacked freed e := .inl rfl

theorem same (h : e.Unstacked freed f) (hn : e.state ≠ .held ∨ ¬ freed e.copy.stack ∨ e.held.stack = false) : f = e := by
  rcases h with h | ⟨hf, hs, hh, -⟩
  · exact h
  · rcases hn with hn | hn | hn
    · exact absurd hs hn
    · exact absurd hf hn
    · simp [hh] at hn

theorem trans (h : e.Unstacked freed f) (k : f.Unstacked freed g) : e.Unstacked freed g := by
  rcases h with rfl | ⟨hf, hs, hh, hl⟩
  · exact k
  · have hsame : g = f := k.same (by
      by_cases hheld : f.state = .held
      · exact .inr (.inr (by rw [hl.stays hheld]))
      · exact .inl hheld)
    exact .inr ⟨hf, hs, hh, hsame ▸ hl⟩

theorem copy (h : e.Unstacked freed f) : f.copy = e.copy := by
  rcases h with rfl | ⟨-, -, -, hl⟩
  · rfl
  · exact hl.copy

theorem unspent (h : e.Unstacked freed f) : f.unspent = e.unspent := by
  rcases h with rfl | ⟨-, -, -, hl⟩
  · rfl
  · exact hl.unspent

theorem wait (h : e.Unstacked freed f) : f.releaseWait = e.releaseWait := by
  rcases h with rfl | ⟨-, -, -, hl⟩
  · rfl
  · exact hl.wait

/-- An event that stands outside HELD, INJECTING and BYPASSED afterwards was the same before. -/
theorem of_state (h : e.Unstacked freed f) (hf : f.state = .closing ∨ f.state = .reporting) : f = e := by
  rcases h with h | ⟨-, -, -, hl⟩
  · exact h
  · rcases hl.states with hs | hs | hs <;> simp [hs] at hf

theorem waitless (h : e.Unstacked freed f) :
    ({ e with releaseWait := none } : Event).Unstacked freed { f with releaseWait := none } := by
  rcases h with rfl | ⟨hf, hs, hh, hl⟩
  · exact .refl _
  · refine .inr ⟨hf, hs, hh, hl.copy, hl.spent, hl.unspent, hl.grant, rfl, fun h => ?_, hl.reasons, hl.states⟩
    have hstays := hl.stays h
    subst hstays
    rfl

end Event.Unstacked

/-! ## The relation -/

/-- Which events a step deals with by name, which stacks it may free of their HELD events, which stacks it may command, and
whether it may close an event. -/
structure Ambit where
  touched : EventIx → Prop
  freed : Station → Prop
  commanded : Station → Prop
  closes : Prop

/-- What a step within an ambit leaves: Free; behind a frame under way the port, the reports, to which only EVENT-CLOSED is added, and
the views of the stacks it does not command; and of the events it does not touch all that neither availability nor the egress side
changes. -/
structure Eases (a : Ambit) (s t : State) : Prop where
  free : t.pool.free = s.pool.free
  queue : ∀ q ∈ t.pool.grantQueue, q ∈ s.pool.grantQueue
  port : s.ring.port ≠ none → t.ring.port = s.ring.port
  reports : s.ring.port ≠ none → ∃ closed, t.ring.reports = s.ring.reports ++ closed ∧
    ∀ y ∈ closed, a.closes ∧ ∃ n i e, y = ⟨n, .eventClosed i e⟩
  view : s.ring.port ≠ none → ∀ k, ¬ a.commanded k → t.view k = s.view k
  vacant : ∀ i, ¬ a.touched i → s.entry i = none → t.entry i = none
  entry : ∀ i e, ¬ a.touched i → s.entry i = some e → (∃ e', t.entry i = some e' ∧ e.Unstacked a.freed e') ∨
    t.entry i = none ∧ e.state = .reporting ∧ s.ring.port = none
  full : ∀ i e, ¬ a.touched i → s.entry i = some e → e.state = .reporting → 32 ≤ s.ring.reports.length →
    t.entry i = none ∨ 32 ≤ t.ring.reports.length

namespace Eases
variable {a : Ambit} {s t u : State}

theorem refl (s : State) : Eases a s s where
  free := rfl
  queue := fun _ h => h
  port := fun _ => rfl
  reports := fun _ => ⟨[], (List.append_nil _).symm, by simp⟩
  view := fun _ _ _ => rfl
  vacant := fun _ _ h => h
  entry := fun _ e _ he => .inl ⟨e, he, .refl e⟩
  full := fun _ _ _ _ _ h => .inr h

theorem trans (h : Eases a s t) (k : Eases a t u) : Eases a s u where
  free := k.free.trans h.free
  queue := fun q hq => h.queue q (k.queue q hq)
  port := fun hp => (k.port (by rwa [h.port hp])).trans (h.port hp)
  reports := fun hp => by
    obtain ⟨x, hx, hxc⟩ := h.reports hp
    obtain ⟨y, hy, hyc⟩ := k.reports (by rwa [h.port hp])
    exact ⟨x ++ y, by rw [hy, hx, List.append_assoc], fun z hz => (List.mem_append.1 hz).elim (hxc z) (hyc z)⟩
  view := fun hp j hj => (k.view (by rwa [h.port hp]) j hj).trans (h.view hp j hj)
  vacant := fun i hi he => k.vacant i hi (h.vacant i hi he)
  entry := fun i e hi he => by
    rcases h.entry i e hi he with ⟨e', he', hu⟩ | ⟨he', hr, hp⟩
    · rcases k.entry i e' hi he' with ⟨e'', he'', hu'⟩ | ⟨he'', hr', hp'⟩
      · exact .inl ⟨e'', he'', hu.trans hu'⟩
      · refine .inr ⟨he'', by rw [← hu.of_state (.inr hr')]; exact hr', ?_⟩
        by_contra hp
        rw [h.port hp] at hp'
        exact hp hp'
    · exact .inr ⟨k.vacant i hi he', hr, hp⟩
  full := fun i e hi he hr hl => by
    rcases h.full i e hi he hr hl with ht | ht
    · exact .inl (k.vacant i hi ht)
    · rcases h.entry i e hi he with ⟨e', he', hu⟩ | ⟨he', -, -⟩
      · have hsame : e' = e := hu.same (.inl (by simp [hr]))
        exact k.full i e' hi he' (by rw [hsame, hr]) ht
      · exact .inl (k.vacant i hi he')

/-- The second of two steps named first. -/
theorem after (k : Eases a t u) (h : Eases a s t) : Eases a s u := h.trans k

theorem foldl {α : Type} {f : State → α → State} (h : ∀ s x, Eases a s (f s x)) (l : List α) (s : State) :
    Eases a s (l.foldl f s) := foldl_relates .refl .trans h l s

theorem mono {b : Ambit} (h : Eases a s t) (ht : ∀ i, a.touched i → b.touched i) (hf : ∀ k, a.freed k → b.freed k)
    (hk : ∀ k, a.commanded k → b.commanded k) (hc : a.closes → b.closes) : Eases b s t where
  free := h.free
  queue := h.queue
  port := h.port
  reports := fun hp => by
    obtain ⟨x, hx, hxc⟩ := h.reports hp
    exact ⟨x, hx, fun z hz => ⟨hc (hxc z hz).1, (hxc z hz).2⟩⟩
  view := fun hp k hn => h.view hp k fun hh => hn (hk k hh)
  vacant := fun i hi => h.vacant i fun hh => hi (ht i hh)
  entry := fun i e hi he => (h.entry i e (fun hh => hi (ht i hh)) he).imp_left fun ⟨e', he', hu⟩ =>
    ⟨e', he', hu.imp_right fun ⟨x, y⟩ => ⟨hf _ x, y⟩⟩
  full := fun i e hi => h.full i e fun hh => hi (ht i hh)

/-- A step that leaves the ring and the views, Free, and the untouched entries. -/
theorem of_entries (hr : t.ring = s.ring) (hv : t.views = s.views) (hf : t.pool.free = s.pool.free)
    (hq : ∀ q ∈ t.pool.grantQueue, q ∈ s.pool.grantQueue) (he : ∀ i, ¬ a.touched i → t.entry i = s.entry i) : Eases a s t where
  free := hf
  queue := hq
  port := fun _ => by rw [hr]
  reports := fun _ => ⟨[], by rw [hr, List.append_nil], by simp⟩
  view := fun _ k _ => State.view_congr hv k
  vacant := fun i hi h => (he i hi).trans h
  entry := fun i e hi h => .inl ⟨e, (he i hi).trans h, .refl e⟩
  full := fun _ _ _ _ _ h => .inr (by rwa [hr])

end Eases

/-! ## The egress side -/

theorem Ring.choose_reports {r rest : Ring} {frame : EgressFrame} (h : r.choose = some (frame, rest)) :
    match frame with
    | .report x => r.reports = x :: rest.reports
    | _ => rest.reports = r.reports := by
  unfold Ring.choose at h
  split at h
  · cases h; rfl
  · split at h
    · cases h; rfl
    · split at h
      · cases h; rfl
      · split at h
        · next hx => cases h; exact hx
        · cases h

theorem Ring.transmit_reports (r : Ring) (frame : EgressFrame) : (r.transmit frame).reports = r.reports := by
  cases frame <;> rfl

/-- With an event in REPORTING the reports fill up to their capacity. -/
theorem State.serveReporting_fills {s : State} {i : EventIx} {e : Event} (he : s.entry i = some e) (hr : e.state = .reporting)
    (hl : 31 ≤ s.ring.reports.length) : 32 ≤ s.serveReporting.ring.reports.length := by
  by_cases hroom : s.ring.reports.length < 32
  · have hcap : s.ring.reports.length < Config.reportCapacity := hroom
    have hi := State.mem_reporting.2 ⟨e, he, hr⟩
    cases ho : s.oldestReporting with
    | none =>
      unfold State.oldestReporting at ho
      rw [List.head?_eq_none_iff] at ho
      exact (List.eq_nil_iff_forall_not_mem.1 ho i (mem_sortByKey.2 hi)).elim
    | some j =>
      simp only [State.serveReporting, if_pos hcap, ho]
      have hj : j ∈ s.eventsWhere fun e => e.state = .reporting := by
        unfold State.oldestReporting at ho
        exact mem_sortByKey.1 (List.mem_of_mem_head? ho)
      obtain ⟨y, hy, -⟩ := State.mem_reporting.1 hj
      rw [State.queueClosed_eq hy]
      simp only [State.closedReported, List.length_append, List.length_singleton]
      omega
  · rw [State.serveReporting_full (by omega)]
    omega

theorem State.kick_full {s : State} {i : EventIx} {e : Event} (he : s.entry i = some e) (hr : e.state = .reporting)
    (hl : 32 ≤ s.ring.reports.length) : 32 ≤ s.kick.ring.reports.length := by
  cases hp : s.ring.port with
  | some p => rwa [State.kick_sending hp]
  | none =>
    cases hc : s.ring.choose with
    | none => rwa [State.kick_empty hp hc]
    | some x =>
      obtain ⟨frame, rest⟩ := x
      have hreports := Ring.choose_reports hc
      rw [State.kick_chosen hp hc]
      cases frame with
      | drive f =>
        unfold State.startNotices
        dsimp only at hreports ⊢
        split
        · exact (congrArg List.length hreports).symm ▸ hl
        · exact (congrArg List.length hreports).symm ▸ hl
      | response x => exact (congrArg List.length hreports).symm ▸ hl
      | transit bytes => exact (congrArg List.length hreports).symm ▸ hl
      | report x =>
        refine State.serveReporting_fills (s := { s with ring := rest.transmit (.report x) }) he hr ?_
        rw [Ring.transmit_reports]
        have hlength := congrArg List.length hreports
        rw [List.length_cons] at hlength
        omega

theorem State.kick_eases (a : Ambit) (s : State) : Eases a s s.kick := by
  cases hp : s.ring.port with
  | some p => rw [State.kick_sending hp]; exact .refl s
  | none =>
    have hsheds := s.kick_sheds
    refine ⟨by simp, by simp, fun h => absurd hp h, fun h => absurd hp h, fun h => absurd hp h, fun i _ h => ?_,
      fun i e _ he => ?_, fun i e _ he hr hl => .inr (State.kick_full he hr hl)⟩
    · exact (hsheds.entry i).elim (fun x => x.trans h) fun x => x.1
    · rcases hsheds.entry i with h | ⟨h, e', he', hr⟩
      · exact .inl ⟨e, h.trans he, .refl e⟩
      · cases he.symm.trans he'
        exact .inr ⟨h, hr, hp⟩

theorem State.placeCommand_reports (s : State) (k : Station) (c : Command) :
    (s.placeCommand k c).ring.reports = s.ring.reports := by
  cases hp : s.ring.port with
  | some p => rw [State.placeCommand_sending (by simp [hp])]
  | none =>
    obtain ⟨f, rest, hf⟩ := List.exists_cons_of_ne_nil
      (placeInDrive_ne_nil k (fun x => { x with command := some c }) ⟨k, none, some c⟩ s.ring.drive)
    unfold State.placeCommand
    rw [State.kick_chosen (s := { s with ring.drive := placeInDrive k _ ⟨k, none, some c⟩ s.ring.drive }) hp
      (Ring.choose_drive hf)]
    unfold State.startNotices
    dsimp only
    split <;> rfl

theorem State.queueCommand_reports (s : State) (k : Station) (c : CommandKind) :
    (s.queueCommand k c).ring.reports = s.ring.reports := by
  rw [State.queueCommand_eq]
  split
  · exact State.placeCommand_reports _ _ _
  · rfl

/-- A command queued behind a frame under way. -/
theorem State.queueCommand_sending {s : State} (h : s.ring.port ≠ none) (k : Station) (c : CommandKind) :
    (s.queueCommand k c).ring.port = s.ring.port ∧
      ∀ j, (s.queueCommand k c).view j = if k = j then (s.view k).queued c else s.view j := by
  rw [State.queueCommand_eq]
  split
  · rw [State.placeCommand_sending (s := s.commanded k c) h]
    exact ⟨rfl, fun j => s.commanded_view k j c⟩
  · exact ⟨rfl, fun j => s.commanded_view k j c⟩

theorem State.queueCommand_eases {a : Ambit} {k : Station} (hk : a.commanded k) (s : State) (c : CommandKind) :
    Eases a s (s.queueCommand k c) where
  free := by simp
  queue := by simp
  port := fun hp => (State.queueCommand_sending hp k c).1
  reports := fun _ => ⟨[], by rw [s.queueCommand_reports, List.append_nil], by simp⟩
  view := fun hp j hj => ((State.queueCommand_sending hp k c).2 j).trans (if_neg fun h : k = j => hj (h ▸ hk))
  vacant := fun i _ h => (s.queueCommand_entry k c i).trans h
  entry := fun i e _ he => .inl ⟨e, (s.queueCommand_entry k c i).trans he, .refl e⟩
  full := fun _ _ _ _ _ h => .inr (by rwa [s.queueCommand_reports])

end Sys2Proof.Machine
end

section
/-! SUPPORT. The consequences of a cut as steps of the relation `Eases` (R78, R79, R92, R104). -/

namespace Sys2Proof.Machine

/-! ## Availability (R78, R79) -/

section Availability
variable {a : Ambit} {s t : State}

/-- A step that leaves the ring, the views and Free, and changes one entry as availability does. -/
theorem Eases.of_one {i : EventIx} {e e' : Event} (hr : t.ring = s.ring) (hv : t.views = s.views)
    (hf : t.pool.free = s.pool.free) (hq : ∀ q ∈ t.pool.grantQueue, q ∈ s.pool.grantQueue)
    (hj : ∀ j, j ≠ i → t.entry j = s.entry j) (he : s.entry i = some e) (ht : t.entry i = some e')
    (hu : e.Unstacked a.freed e') : Eases a s t where
  free := hf
  queue := hq
  port := fun _ => by rw [hr]
  reports := fun _ => ⟨[], by rw [hr, List.append_nil], by simp⟩
  view := fun _ k _ => State.view_congr hv k
  vacant := fun j _ h => by
    by_cases hi : j = i
    · subst hi
      rw [he] at h
      cases h
    · exact (hj j hi).trans h
  entry := fun j x _ h => .inl <| by
    by_cases hi : j = i
    · subst hi
      cases he.symm.trans h
      exact ⟨e', ht, hu⟩
    · exact ⟨x, (hj j hi).trans h, .refl x⟩
  full := fun _ _ _ _ _ h => .inr (by rwa [hr])

/-- The event HELD for its stack alone: with the stack available it leaves HELD. -/
theorem State.leaveHeld_eases {k : Station} (hk : a.commanded k) {s : State} {i : EventIx} {e : Event}
    (he : s.entry i = some e) (hs : e.state = .held) (hh : e.held.stack = true) (hstack : e.copy.stack = k)
    (hf : a.freed k) (ha : ¬ (s.view k).faulted = true) :
    Eases a s ((s.setEntry i (some { e with held := { e.held with stack := false } })).leaveHeld i) := by
  subst hstack
  have hset : (s.setEntry i (some { e with held := { e.held with stack := false } })).entry i =
      some { e with held := { e.held with stack := false } } := (State.entry_setEntry s i i _).trans (if_pos rfl)
  by_cases hempty : ({ e.held with stack := false } : HeldReasons) = ⟨false, false, false⟩
  · have hreasons : ¬ (e.held.borrow = true ∨ e.held.store = true) := by
      rw [HeldReasons.mk.injEq] at hempty
      simp [hempty.1, hempty.2.2]
    by_cases hg : e.grant = 0
    · rw [State.leaveHeld_denied hset hs hempty hg, State.bypassIdle_eq hset]
      refine .of_one rfl rfl (by simp [State.setEntry, hg]) (fun q hq => (List.mem_filter.1 hq).1) ?_ he
        ((State.entry_setEntry _ i i _).trans (if_pos rfl)) (.inr ⟨hf, hs, hh, ?_⟩)
      · intro j hj
        exact ((State.entry_setEntry _ i j _).trans (if_neg fun h => hj h.symm)).trans
          ((State.entry_setEntry s i j _).trans (if_neg fun h => hj h.symm))
      · refine ⟨rfl, rfl, ?_, fun hle => ?_, rfl, fun h => ?_, fun h => absurd h hreasons, .inr (.inr rfl)⟩
        · simp [Event.unspent, hg]
        · dsimp only
          omega
        · cases h
    · rw [State.leaveHeld_injects hset hs hempty (Nat.pos_of_ne_zero hg) ha]
      refine (State.queueCommand_eases hk _ _).after (.of_one rfl rfl rfl (fun _ h => h) ?_ he
        ((State.entry_setEntry _ i i _).trans (if_pos rfl)) (.inr ⟨hf, hs, hh, ?_⟩))
      · intro j hj
        exact ((State.entry_setEntry _ i j _).trans (if_neg fun h => hj h.symm)).trans
          ((State.entry_setEntry s i j _).trans (if_neg fun h => hj h.symm))
      · exact ⟨rfl, rfl, rfl, fun _ => rfl, rfl, fun h => (nomatch h), fun h => absurd h hreasons, .inr (.inl rfl)⟩
  · rw [State.leaveHeld_stays hset (.inr hempty)]
    refine .of_one rfl rfl rfl (fun _ h => h) ?_ he hset (.inr ⟨hf, hs, hh, ?_⟩)
    · intro j hj
      exact (State.entry_setEntry s i j _).trans (if_neg fun h => hj h.symm)
    · exact ⟨rfl, rfl, rfl, fun _ => rfl, rfl, fun _ => rfl, fun _ => hs, .inl hs⟩

theorem State.freeOfStack_eases {k : Station} (hf : a.freed k) (hk : a.commanded k) (s : State) (i : EventIx) :
    Eases a s (State.freeOfStack k s i) := by
  cases he : s.entry i with
  | none =>
    rw [State.freeOfStack_idle fun e h => by rw [he] at h; cases h]
    exact .refl s
  | some e =>
    by_cases h : e.state = .held ∧ e.held.stack = true ∧ e.copy.stack = k ∧ s.stackAvailable k = true
    · obtain ⟨hs, hh, rfl, ha⟩ := h
      rw [State.freeOfStack_frees he hs hh ha]
      refine State.leaveHeld_eases hk he hs hh rfl hf fun hfault => ?_
      exact (State.stackAvailable_iff.1 ha).1 (StackView.faulted_iff.1 hfault)
    · have hsame : State.freeOfStack k s i = s := by
        simp only [State.freeOfStack, he]
        exact if_neg h
      rw [hsame]
      exact .refl s

theorem State.availabilityCheck_eases {k : Station} (hf : a.freed k) (hk : a.commanded k) (s : State) :
    Eases a s (s.availabilityCheck k) := .foldl (State.freeOfStack_eases hf hk) allEvents s

end Availability

/-! ## An event that closes -/

section Closing
variable {a : Ambit} {i : EventIx}

theorem State.queueClosed_eases (ht : a.touched i) (hc : a.closes) (s : State) : Eases a s (s.queueClosed i) := by
  cases he : s.entry i with
  | none =>
    simp only [State.queueClosed, he]
    exact .refl s
  | some e =>
    have hothers : ∀ j, ¬ a.touched j → (s.closedReported i e).entry j = s.entry j := fun j hj =>
      (State.entry_setEntry s i j none).trans (if_neg fun h : i = j => hj (h ▸ ht))
    rw [State.queueClosed_eq he]
    refine ⟨rfl, fun _ h => h, fun _ => rfl, fun _ => ⟨_, rfl, fun y hy => ?_⟩, fun _ _ _ => rfl,
      fun j hj h => (hothers j hj).trans h, fun j x hj h => .inl ⟨x, (hothers j hj).trans h, .refl x⟩,
      fun j x _ _ _ hl => .inr ?_⟩
    · exact ⟨hc, _, i, e, List.mem_singleton.1 hy⟩
    · simp only [State.closedReported, List.length_append]
      omega

theorem State.reportable_eases (ht : a.touched i) (s : State) (e : Event) : Eases a s (s.reportable i e) :=
  .of_entries rfl rfl rfl (fun _ h => h)
    fun j hj => (State.entry_setEntry s i j _).trans (if_neg fun h : i = j => hj (h ▸ ht))

theorem State.enterReporting_eases (ht : a.touched i) (hc : a.closes) {s : State} {e : Event} (he : s.entry i = some e) :
    Eases a s (s.enterReporting i) := by
  rw [State.enterReporting_eq he]
  split
  · exact (State.kick_eases a _).after ((State.queueClosed_eases ht hc _).after (State.reportable_eases ht s e))
  · exact State.reportable_eases ht s e

/-- An event closed: in REPORTING before full reports, or freed and, where a frame has been under way throughout, among the
reports. -/
structure State.Closed (s : State) (busy : Prop) (i : EventIx) (e : Event) : Prop where
  port : busy → s.ring.port ≠ none
  fate : s.entry i = some e ∧ 32 ≤ s.ring.reports.length ∨
    s.entry i = none ∧ (busy → ∃ n, ⟨n, .eventClosed i e⟩ ∈ s.ring.reports)

theorem Eases.closed {s t : State} (h : Eases a s t) (hi : ¬ a.touched i) {busy : Prop} {e : Event} (hr : e.state = .reporting)
    (hs : s.Closed busy i e) : t.Closed busy i e := by
  refine ⟨fun hb => by rw [h.port (hs.port hb)]; exact hs.port hb, ?_⟩
  rcases hs.fate with ⟨he, hl⟩ | ⟨he, hm⟩
  · rcases h.entry i e hi he with ⟨e', he', hu⟩ | ⟨hn, -, hp⟩
    · have hsame : e' = e := hu.same (.inl (by simp [hr]))
      refine .inl ⟨hsame ▸ he', (h.full i e hi he hr hl).resolve_left ?_⟩
      simp [he']
    · exact .inr ⟨hn, fun hb => absurd hp (hs.port hb)⟩
  · refine .inr ⟨h.vacant i hi he, fun hb => ?_⟩
    obtain ⟨n, hn⟩ := hm hb
    obtain ⟨closed, hclosed, -⟩ := h.reports (hs.port hb)
    exact ⟨n, hclosed ▸ List.mem_append_left closed hn⟩

/-- The ambit of the egress side alone. -/
def Ambit.egress : Ambit := ⟨fun _ => False, fun _ => False, fun _ => False, False⟩

theorem State.enterReporting_closed {s : State} {e : Event} (he : s.entry i = some e) :
    (s.enterReporting i).Closed (s.ring.port ≠ none) i { e with state := .reporting } := by
  rw [State.enterReporting_eq he]
  split
  · refine (State.kick_eases .egress _).closed id rfl ⟨fun hb => ?_, .inr ⟨?_, fun _ => ?_⟩⟩
    · rw [State.queueClosed_reportable]
      exact hb
    · rw [State.queueClosed_reportable]
      exact (State.entry_setEntry s i i none).trans (if_pos rfl)
    · rw [State.queueClosed_reportable]
      exact ⟨s.management.reportCounter, List.mem_append_right _ (List.mem_singleton_self _)⟩
  · next hl => exact ⟨id, .inl ⟨(State.entry_setEntry s i i _).trans (if_pos rfl), Nat.not_lt.1 hl⟩⟩

end Closing

/-! ## A wait that ends with nothing left (R104) -/

section Waiting
variable {a : Ambit} {s : State} {i : EventIx} {e : Event}

/-- The state in which an event's wait is gone, a CLOSING event in REPORTING, before availability is checked. -/
def State.waitGone (s : State) (i : EventIx) (e : Event) : State :=
  if e.state = .closing then (s.setEntry i (some { e with releaseWait := none })).enterReporting i
  else s.setEntry i (some { e with releaseWait := none })

theorem State.endWait_eq (he : s.entry i = some e) : s.endWait i = (s.waitGone i e).availabilityCheck e.copy.stack := by
  rw [State.endWait, State.modEvent_eq _ he, State.afterWait_eq ((State.entry_setEntry s i i _).trans (if_pos rfl))]
  rfl

theorem State.setEntry_eases (ht : a.touched i) (s : State) (e : Option Event) : Eases a s (s.setEntry i e) :=
  .of_entries rfl rfl rfl (fun _ h => h) fun j hj => (State.entry_setEntry s i j e).trans (if_neg fun h : i = j => hj (h ▸ ht))

theorem State.waitGone_eases (ht : a.touched i) (hc : e.state = .closing → a.closes) (s : State) :
    Eases a s (s.waitGone i e) := by
  unfold State.waitGone
  split
  · next hx =>
    exact (State.enterReporting_eases ht (hc hx) ((State.entry_setEntry s i i _).trans (if_pos rfl))).after
      (State.setEntry_eases ht s _)
  · exact State.setEntry_eases ht s _

theorem State.waitGone_wanes (he : s.entry i = some e) : Wanes s (s.waitGone i e) := by
  have hset : Wanes s (s.setEntry i (some { e with releaseWait := none })) :=
    State.setEntry_wanes he ⟨fun _ => rfl, fun _ => id, rfl, id⟩
  unfold State.waitGone
  split
  · exact hset.trans (State.enterReporting_wanes _ i)
  · exact hset

theorem State.endSpentWait_cases (s : State) (i : EventIx) :
    (∃ e, s.entry i = some e ∧ e.releaseWait.isSome = true ∧ e.unspent = 0) ∨ s.endSpentWait i = s := by
  cases he : s.entry i with
  | none => exact .inr (by simp only [State.endSpentWait, he])
  | some e =>
    by_cases h : e.releaseWait.isSome = true ∧ e.unspent = 0
    · exact .inl ⟨e, rfl, h⟩
    · refine .inr ?_
      simp only [State.endSpentWait, he]
      exact if_neg h

theorem State.endSpentWait_eases (h : ∀ e, s.entry i = some e → e.releaseWait.isSome = true → e.unspent = 0 →
    a.touched i ∧ a.freed e.copy.stack ∧ a.commanded e.copy.stack ∧ (e.state = .closing → a.closes)) :
    Eases a s (s.endSpentWait i) := by
  rcases s.endSpentWait_cases i with ⟨e, he, hw, hu⟩ | hsame
  · obtain ⟨ht, hf, hk, hc⟩ := h e he hw hu
    rw [State.endSpentWait_ends he hw hu, State.endWait_eq he]
    exact (State.availabilityCheck_eases hf hk _).after (State.waitGone_eases ht hc s)
  · rw [hsame]
    exact .refl s

/-- The ambit of an availability check for one stack. -/
def Ambit.check (k : Station) : Ambit := ⟨fun _ => False, fun j => j = k, fun j => j = k, False⟩

/-- An event without anything left, after its wait if it waited: it does not wait, and is HELD no longer for a stack freed. -/
theorem State.endSpentWait_waitless {freed : Station → Prop} (he : s.entry i = some e) (hu : e.unspent = 0)
    (hf : e.releaseWait.isSome = true → freed e.copy.stack) (hr : e.state ≠ .reporting)
    (hc : e.state = .closing → e.releaseWait = none) :
    ∃ e', (s.endSpentWait i).entry i = some e' ∧ ({ e with releaseWait := none } : Event).Unstacked freed e' := by
  by_cases hw : e.releaseWait.isSome = true
  · have hopen : e.state ≠ .closing := fun h => by simp [hc h] at hw
    rw [State.endSpentWait_ends he hw hu, State.endWait_eq he, State.waitGone, if_neg hopen]
    rcases (State.availabilityCheck_eases (a := .check e.copy.stack) rfl rfl _).entry i _ id
      ((State.entry_setEntry s i i _).trans (if_pos rfl)) with ⟨e', he', hu'⟩ | ⟨-, hx, -⟩
    · exact ⟨e', he', hu'.imp_right fun ⟨_, h⟩ => ⟨hf hw, h⟩⟩
    · exact absurd hx hr
  · rw [← Option.ne_none_iff_isSome, not_not] at hw
    refine ⟨e, ?_, .inl (by rw [← hw])⟩
    rwa [State.endSpentWait_unspent he (.inl hw)]

/-- A CLOSING event that waited with nothing left is closed. -/
theorem State.endSpentWait_closed (he : s.entry i = some e) (hu : e.unspent = 0) (hw : e.releaseWait.isSome = true)
    (hc : e.state = .closing) :
    (s.endSpentWait i).Closed (s.ring.port ≠ none) i { e with releaseWait := none, state := .reporting } := by
  rw [State.endSpentWait_ends he hw hu, State.endWait_eq he, State.waitGone, if_pos hc]
  exact (State.availabilityCheck_eases (a := .check e.copy.stack) rfl rfl _).closed id rfl
    (State.enterReporting_closed (s := s.setEntry i (some { e with releaseWait := none }))
      ((State.entry_setEntry s i i _).trans (if_pos rfl)))

/-- No event on a stack is HELD. -/
def State.Unheld (s : State) (k : Station) : Prop := ∀ i e, s.entry i = some e → e.copy.stack = k → e.state ≠ .held

theorem Wanes.unheld {s t : State} (h : Wanes s t) {k : Station} (hs : s.Unheld k) : t.Unheld k := fun i e' he' hk hheld => by
  obtain ⟨e, he, hw⟩ := h.entry i e' he'
  exact hs i e he (hw.copy ▸ hk) (hw.held hheld)

theorem State.availabilityCheck_unheld {s : State} {k : Station} (h : s.Unheld k) : s.availabilityCheck k = s := by
  have hkept : ∀ l : List EventIx, l.foldl (State.freeOfStack k) s = s := by
    intro l
    induction l with
    | nil => rfl
    | cons i l ih => rw [List.foldl_cons, State.freeOfStack_idle fun e he hx => h i e he hx.2.2 hx.1, ih]
  exact hkept _

/-- A wait that ends commands no stack without a HELD event. -/
theorem State.endSpentWait_view {s : State} {k : Station} (hp : s.ring.port ≠ none) (hk : s.Unheld k) (i : EventIx) :
    (s.endSpentWait i).view k = s.view k := by
  rcases s.endSpentWait_cases i with ⟨e, he, hw, hu⟩ | hsame
  · have hgone := State.waitGone_eases (a := ⟨fun _ => True, fun _ => True, fun _ => False, True⟩) (i := i) (e := e) trivial
      (fun _ => trivial) s
    have hview := hgone.view hp k id
    rw [State.endSpentWait_ends he hw hu, State.endWait_eq he]
    by_cases hstack : e.copy.stack = k
    · rw [hstack, State.availabilityCheck_unheld ((State.waitGone_wanes he).unheld hk), hview]
    · have hcheck := State.availabilityCheck_eases (a := .check e.copy.stack) (k := e.copy.stack) rfl rfl (s.waitGone i e)
      rw [hcheck.view (by rwa [hgone.port hp]) k fun h => hstack h.symm, hview]
  · rw [hsame]

end Waiting

/-! ## The outcome CUT -/

section Cut
variable {a : Ambit} {s : State} {i : EventIx} {e : Event}

theorem State.bypassEntered_eases (ht : a.touched i) (s : State) (e : Event) (cause : EventOutcome) :
    Eases a s (s.bypassEntered i e cause) :=
  .of_entries rfl rfl rfl (fun _ h => (List.mem_filter.1 h).1)
    fun j hj => (State.entry_setEntry _ i j _).trans (if_neg fun h : i = j => hj (h ▸ ht))

theorem State.cutOutcome_eases (ht : s.reachesCut i = true → a.touched i)
    (hk : ∀ e, s.entry i = some e → e.stackOrder = .inject → s.reachesCut i = true → a.commanded e.copy.stack) :
    Eases a s (s.cutOutcome i) := by
  by_cases h : s.reachesCut i = true
  · obtain ⟨e, he⟩ := State.reachesCut_held h
    rw [State.cutOutcome_eq he h]
    split
    · next ho => exact (State.queueCommand_eases (hk e he ho h) _ _).after (State.bypassEntered_eases (ht h) s e _)
    · exact State.bypassEntered_eases (ht h) s e _
  · rw [State.cutOutcome_none h]
    exact .refl s

theorem State.cutOutcome_entry (he : s.entry i = some e) (h : s.reachesCut i = true) :
    (s.cutOutcome i).entry i = some (e.bypassed .cut) := by
  rw [State.cutOutcome_eq he h]
  split
  · exact (State.queueCommand_entry _ _ _ i).trans (s.bypassEntered_entry i e .cut)
  · exact s.bypassEntered_entry i e .cut

theorem State.cutOutcome_queue (he : s.entry i = some e) (h : s.reachesCut i = true) :
    ∀ q ∈ (s.cutOutcome i).pool.grantQueue, q.event ≠ i := by
  rw [State.cutOutcome_eq he h]
  split
  · simpa using s.bypassEntered_queue i e .cut
  · exact s.bypassEntered_queue i e .cut

theorem State.cutOutcome_unsent (he : s.entry i = some e) (h : s.reachesCut i = true) (ho : e.stackOrder = .inject)
    (hp : s.ring.port ≠ none) : ((s.cutOutcome i).view e.copy.stack).unsent =
      some ⟨(s.view e.copy.stack).takenSequence, .bypass⟩ := by
  rw [State.cutOutcome_eq he h, if_pos ho,
    (State.queueCommand_sending (s := s.bypassEntered i e .cut) hp e.copy.stack .bypass).2 e.copy.stack, if_pos rfl]
  rfl

end Cut

end Sys2Proof.Machine
end

section
/-! SUPPORT. The consequences of a cut over all the events cut (R104). -/

namespace Sys2Proof.Machine

theorem Eases.before {a : Ambit} {s t : State} (h : Eases a s t) {i : EventIx} (hi : ¬ a.touched i) {e' : Event}
    (he' : t.entry i = some e') : ∃ e, s.entry i = some e ∧ e.Unstacked a.freed e' := by
  cases he : s.entry i with
  | none =>
    rw [h.vacant i hi he] at he'
    cases he'
  | some e =>
    rcases h.entry i e hi he with ⟨x, hx, hu⟩ | ⟨hn, -, -⟩
    · cases hx.symm.trans he'
      exact ⟨e, rfl, hu⟩
    · rw [hn] at he'
      cases he'

/-- Where no stack is freed, an entry untouched is as it was. -/
theorem Eases.before_same {a : Ambit} {s t : State} (h : Eases a s t) (hf : ∀ k, ¬ a.freed k) {i : EventIx}
    (hi : ¬ a.touched i) {e : Event} (he : t.entry i = some e) : s.entry i = some e := by
  obtain ⟨e', he', hu⟩ := h.before hi he
  cases hu.same (.inr (.inl (hf _)))
  exact he'

theorem Eases.stays {a : Ambit} {s t : State} (h : Eases a s t) {i : EventIx} (hi : ¬ a.touched i) {e : Event}
    (he : s.entry i = some e) (hr : e.state ≠ .reporting ∨ s.ring.port ≠ none) :
    ∃ e', t.entry i = some e' ∧ e.Unstacked a.freed e' :=
  (h.entry i e hi he).resolve_right fun ⟨_, hx, hp⟩ => hr.elim (fun y => y hx) fun y => y hp

theorem Eases.stays_same {a : Ambit} {s t : State} (h : Eases a s t) (hf : ∀ k, ¬ a.freed k) {i : EventIx}
    (hi : ¬ a.touched i) {e : Event} (he : s.entry i = some e) (hr : e.state ≠ .reporting ∨ s.ring.port ≠ none) :
    t.entry i = some e := by
  obtain ⟨e', he', hu⟩ := h.stays hi he hr
  cases hu.same (.inr (.inl (hf _)))
  exact he'

theorem exists_split_of_nodup {α : Type} {l : List α} (hl : l.Nodup) {x : α} (hx : x ∈ l) : ∃ before after,
    l = before ++ x :: after ∧ before.Nodup ∧ after.Nodup ∧ x ∉ before ∧ x ∉ after ∧ ∀ y ∈ after, y ∉ before := by
  obtain ⟨before, after, rfl⟩ := List.append_of_mem hx
  rw [List.nodup_append] at hl
  obtain ⟨hbefore, hafter, hapart⟩ := hl
  rw [List.nodup_cons] at hafter
  exact ⟨before, after, rfl, hbefore, hafter.2, fun hm => hapart x hm x (by simp) rfl, hafter.1,
    fun y hy hm => hapart y hm y (by simp [hy]) rfl⟩

/-! ## The outcomes CUT -/

section Outcomes
variable {s : State} {l : List EventIx}

theorem State.reachesCut_of_entry {s t : State} {i : EventIx} (h : ∀ e, t.entry i = some e → s.entry i = some e)
    (hr : t.reachesCut i = true) : s.reachesCut i = true := by
  obtain ⟨e, he⟩ := State.reachesCut_held hr
  rw [State.reachesCut_iff he] at hr
  exact (State.reachesCut_iff (h e he)).2 hr

theorem State.reachesCut_state_ne {i : EventIx} {e : Event} (he : s.entry i = some e) (h : s.reachesCut i = true) :
    e.state ≠ .reporting ∧ e.state ≠ .closing := by
  rcases ((State.reachesCut_iff he).1 h).2 with hs | ⟨hs, -⟩ <;> simp [hs]

theorem foldl_cutOutcome_eases (hl : l.Nodup) {a : Ambit} (ht : ∀ i ∈ l, s.reachesCut i = true → a.touched i)
    (hk : ∀ i ∈ l, ∀ e, s.entry i = some e → a.commanded e.copy.stack) : Eases a s (l.foldl State.cutOutcome s) := by
  induction l generalizing s with
  | nil => exact .refl s
  | cons x l ih =>
    rw [List.nodup_cons] at hl
    have hstep : Eases ⟨(· = x), fun _ => False, fun _ => True, False⟩ s (s.cutOutcome x) :=
      State.cutOutcome_eases (fun _ => rfl) fun _ _ _ _ => trivial
    have hback : ∀ i ∈ l, ∀ e, (s.cutOutcome x).entry i = some e → s.entry i = some e := fun i hi e he =>
      hstep.before_same (fun _ => id) (i := i) (fun h : i = x => hl.1 (h ▸ hi)) he
    refine (State.cutOutcome_eases (ht x (by simp)) fun e he _ _ => hk x (by simp) e he).trans (ih hl.2 ?_ ?_)
    · exact fun i hi hr => ht i (by simp [hi]) (State.reachesCut_of_entry (hback i hi) hr)
    · exact fun i hi e he => hk i (by simp [hi]) e (hback i hi e he)

/-- An event reached by the cut among those cut. -/
theorem foldl_cutOutcome_reached (hl : l.Nodup) {i : EventIx} (hi : i ∈ l) {e : Event} (he : s.entry i = some e)
    (h : s.reachesCut i = true) :
    (l.foldl State.cutOutcome s).entry i = some (e.bypassed .cut) ∧
      (∀ q ∈ (l.foldl State.cutOutcome s).pool.grantQueue, q.event ≠ i) ∧
      (e.stackOrder = .inject → s.ring.port ≠ none → (∀ j y, s.entry j = some y → y.copy.stack = e.copy.stack → j = i) →
        ((l.foldl State.cutOutcome s).view e.copy.stack).unsent = some ⟨(s.view e.copy.stack).takenSequence, .bypass⟩) := by
  obtain ⟨before, after, rfl, hbefore, hafter, hnotbefore, hnotafter, hapart⟩ := exists_split_of_nodup hl hi
  rw [List.foldl_append, List.foldl_cons]
  have hu : Eases ⟨(· ∈ before), fun _ => False, fun k => ∃ j ∈ before, ∃ y, s.entry j = some y ∧ y.copy.stack = k, False⟩ s
      (before.foldl State.cutOutcome s) :=
    foldl_cutOutcome_eases hbefore (fun j hj _ => hj) fun j hj y hy => ⟨j, hj, y, hy, rfl⟩
  generalize before.foldl State.cutOutcome s = u at hu
  have hui : u.entry i = some e := hu.stays_same (fun _ => id) hnotbefore he (.inl (State.reachesCut_state_ne he h).1)
  have hur : u.reachesCut i = true := (State.reachesCut_iff hui).2 ((State.reachesCut_iff he).1 h)
  have hv : Eases ⟨(· = i), fun _ => False, fun _ => True, False⟩ u (u.cutOutcome i) :=
    State.cutOutcome_eases (fun _ => rfl) fun _ _ _ _ => trivial
  have hvi := State.cutOutcome_entry hui hur
  have hvq := State.cutOutcome_queue hui hur
  have hvu := State.cutOutcome_unsent hui hur
  generalize u.cutOutcome i = v at hv hvi hvq hvu
  have ht : Eases ⟨(· ∈ after), fun _ => False, fun k => ∃ j ∈ after, ∃ y, v.entry j = some y ∧ y.copy.stack = k, False⟩ v
      (after.foldl State.cutOutcome v) :=
    foldl_cutOutcome_eases hafter (fun j hj _ => hj) fun j hj y hy => ⟨j, hj, y, hy, rfl⟩
  refine ⟨ht.stays_same (fun _ => id) hnotafter hvi (.inl (nomatch ·)), fun q hq => hvq q (ht.queue q hq), fun ho hp hlone => ?_⟩
  have hup : u.ring.port ≠ none := by rwa [hu.port hp]
  have hvp : v.ring.port ≠ none := by rwa [hv.port hup]
  rw [ht.view hvp, hvu ho hup, hu.view hp]
  · rintro ⟨j, hj, y, hy, hk⟩
    exact hnotbefore (hlone j y hy hk ▸ hj)
  · rintro ⟨j, hj, y, hy, hk⟩
    have hji : j ≠ i := fun hx => hnotafter (hx ▸ hj)
    have hyu := hv.before_same (fun _ => id) (i := j) hji hy
    exact hji (hlone j y (hu.before_same (fun _ => id) (hapart j hj) hyu) hk)

end Outcomes

/-! ## The waits ended -/

section Waits
variable {s : State} {l : List EventIx}

theorem foldl_endSpentWait_eases (hl : l.Nodup) {a : Ambit}
    (h : ∀ i ∈ l, ∀ e, s.entry i = some e → e.releaseWait.isSome = true → e.unspent = 0 →
      a.touched i ∧ a.freed e.copy.stack ∧ a.commanded e.copy.stack ∧ (e.state = .closing → a.closes)) :
    Eases a s (l.foldl State.endSpentWait s) := by
  induction l generalizing s with
  | nil => exact .refl s
  | cons x l ih =>
    rw [List.nodup_cons] at hl
    have hstep : Eases ⟨(· = x), fun _ => True, fun _ => True, True⟩ s (s.endSpentWait x) :=
      State.endSpentWait_eases fun _ _ _ _ => ⟨rfl, trivial, trivial, fun _ => trivial⟩
    refine (State.endSpentWait_eases (h x (by simp))).trans (ih hl.2 fun i hi e' he' hw hu => ?_)
    obtain ⟨e, he, hun⟩ := hstep.before (i := i) (fun hx : i = x => hl.1 (hx ▸ hi)) he'
    obtain ⟨ht, hf, hk, hc⟩ := h i (by simp [hi]) e he (hun.wait ▸ hw) (hun.unspent ▸ hu)
    rw [hun.copy]
    exact ⟨ht, hf, hk, fun hx => hc (by rw [← hun.of_state (.inl hx)]; exact hx)⟩

theorem foldl_endSpentWait_view {k : Station} (hp : s.ring.port ≠ none) (hk : s.Unheld k) (l : List EventIx) :
    (l.foldl State.endSpentWait s).view k = s.view k := by
  induction l generalizing s with
  | nil => rfl
  | cons x l ih =>
    have hstep : Eases ⟨fun _ => True, fun _ => True, fun _ => True, True⟩ s (s.endSpentWait x) :=
      State.endSpentWait_eases fun _ _ _ _ => ⟨trivial, trivial, trivial, fun _ => trivial⟩
    rw [List.foldl_cons, ih (by rwa [hstep.port hp]) ((s.endSpentWait_wanes x).unheld hk), State.endSpentWait_view hp hk]

/-- The events cut before one, that one, and those after it. -/
theorem foldl_endSpentWait_at (hl : l.Nodup) {freed : Station → Prop} {i : EventIx} (hi : i ∈ l)
    (hf : ∀ j ∈ l, ∀ e, s.entry j = some e → e.releaseWait.isSome = true → e.unspent = 0 → freed e.copy.stack) {e : Event}
    (he : s.entry i = some e) (hr : e.state ≠ .reporting) :
    ∃ (u : State) (e' : Event) (a : Ambit), ¬ a.touched i ∧ a.freed = freed ∧ u.entry i = some e' ∧ e.Unstacked freed e' ∧
      (s.ring.port ≠ none → u.ring.port ≠ none) ∧ Eases a (u.endSpentWait i) (l.foldl State.endSpentWait s) := by
  obtain ⟨before, after, rfl, hbefore, hafter, hnotbefore, hnotafter, hapart⟩ := exists_split_of_nodup hl hi
  have hu : Eases ⟨(· ∈ before), freed, fun _ => True, True⟩ s (before.foldl State.endSpentWait s) :=
    foldl_endSpentWait_eases hbefore fun j hj y hy hw hz => ⟨hj, hf j (by simp [hj]) y hy hw hz, trivial, fun _ => trivial⟩
  obtain ⟨e', he', hun⟩ := hu.stays hnotbefore he (.inl hr)
  have hv : Eases ⟨(· = i), fun _ => True, fun _ => True, True⟩ (before.foldl State.endSpentWait s)
      ((before.foldl State.endSpentWait s).endSpentWait i) :=
    State.endSpentWait_eases fun _ _ _ _ => ⟨rfl, trivial, trivial, fun _ => trivial⟩
  refine ⟨_, e', ⟨(· ∈ after), freed, fun _ => True, True⟩, hnotafter, rfl, he', hun,
    fun hp => by rwa [hu.port hp], ?_⟩
  rw [List.foldl_append, List.foldl_cons]
  refine foldl_endSpentWait_eases hafter fun j hj y hy hw hz => ⟨hj, ?_, trivial, fun _ => trivial⟩
  have hji : j ≠ i := fun hx => hnotafter (hx ▸ hj)
  obtain ⟨y', hy', huy⟩ := hv.before (i := j) hji hy
  obtain ⟨y'', hy'', huy'⟩ := hu.before (hapart j hj) hy'
  rw [huy.copy, huy'.copy]
  exact hf j (by simp [hj]) y'' hy'' (huy'.wait ▸ huy.wait ▸ hw) (huy'.unspent ▸ huy.unspent ▸ hz)

/-- An event cut to nothing waits no more. -/
theorem foldl_endSpentWait_waitless (hl : l.Nodup) {freed : Station → Prop} {i : EventIx} (hi : i ∈ l)
    (hf : ∀ j ∈ l, ∀ e, s.entry j = some e → e.releaseWait.isSome = true → e.unspent = 0 → freed e.copy.stack) {e : Event}
    (he : s.entry i = some e) (hu : e.unspent = 0) (hr : e.state ≠ .reporting)
    (hc : e.state = .closing → e.releaseWait = none) :
    ∃ e', (l.foldl State.endSpentWait s).entry i = some e' ∧ ({ e with releaseWait := none } : Event).Unstacked freed e' := by
  obtain ⟨u, x, a, hnot, hfreed, hx, hun, -, hafter⟩ := foldl_endSpentWait_at hl hi hf he hr
  subst hfreed
  have hxr : x.state ≠ .reporting := fun h => hr (hun.of_state (.inr h) ▸ h)
  obtain ⟨y, hy, huy⟩ := State.endSpentWait_waitless (freed := a.freed) hx (hun.unspent.trans hu)
    (fun hw => hun.copy ▸ hf i hi e he (hun.wait ▸ hw) hu) hxr
    (fun h => hun.wait.trans (hc (hun.of_state (.inl h) ▸ h)))
  have hyr : y.state ≠ .reporting := fun h => by
    rw [huy.of_state (.inr h)] at h
    exact hxr h
  obtain ⟨z, hz, huz⟩ := hafter.stays hnot hy (.inl hyr)
  exact ⟨z, hz, (hun.waitless.trans huy).trans huz⟩

/-- A CLOSING event cut to nothing in its wait is closed. -/
theorem foldl_endSpentWait_closed (hl : l.Nodup) {i : EventIx} (hi : i ∈ l) {e : Event} (he : s.entry i = some e)
    (hu : e.unspent = 0) (hw : e.releaseWait.isSome = true) (hc : e.state = .closing) :
    (l.foldl State.endSpentWait s).Closed (s.ring.port ≠ none) i { e with releaseWait := none, state := .reporting } := by
  obtain ⟨u, x, a, hnot, -, hx, hun, hp, hafter⟩ := foldl_endSpentWait_at (freed := fun _ => True) hl hi
    (fun _ _ _ _ _ _ => trivial) he (by simp [hc])
  cases hun.same (.inl (by simp [hc]))
  have hclosed := State.endSpentWait_closed hx hu hw hc
  exact hafter.closed hnot rfl ⟨fun h => hclosed.port (hp h), hclosed.fate.imp_right fun ⟨hn, hm⟩ => ⟨hn, fun h => hm (hp h)⟩⟩

end Waits

end Sys2Proof.Machine
end

section
/-! SUPPORT. What the consequences of a cut make of each event (R104). -/

namespace Sys2Proof.Machine

/-- A stack freed when an event cut to nothing ends its wait. -/
def State.freedBy (s : State) (l : List EventIx) (k : Station) : Prop :=
  ∃ i ∈ l, ∃ e, s.entry i = some e ∧ e.releaseWait.isSome = true ∧ e.unspent = 0 ∧ e.copy.stack = k

section Consequences
variable {s : State} {l : List EventIx} (hl : l.Nodup)
include hl

/-- The outcomes CUT leave every event not reached. -/
theorem foldl_cutOutcome_rest :
    Eases ⟨fun i => i ∈ l ∧ s.reachesCut i = true, fun _ => False, fun _ => True, False⟩ s (l.foldl State.cutOutcome s) :=
  foldl_cutOutcome_eases hl (fun _ hi hr => ⟨hi, hr⟩) fun _ _ _ _ => trivial

theorem foldl_cutOutcome_before {i : EventIx} {e' : Event} (he' : (l.foldl State.cutOutcome s).entry i = some e') :
    ∃ e, s.entry i = some e ∧ (e' = e ∨ e' = e.bypassed .cut) := by
  by_cases h : i ∈ l ∧ s.reachesCut i = true
  · obtain ⟨e, he⟩ := State.reachesCut_held h.2
    exact ⟨e, he, .inr (Option.some.inj (he'.symm.trans (foldl_cutOutcome_reached hl h.1 he h.2).1))⟩
  · exact ⟨e', (foldl_cutOutcome_rest hl).before_same (fun _ => id) h he', .inl rfl⟩

/-- What the outcomes CUT leave of the waits. -/
theorem foldl_cutOutcome_waits {i : EventIx} {e' : Event} (he' : (l.foldl State.cutOutcome s).entry i = some e') :
    ∃ e, s.entry i = some e ∧ e'.releaseWait = e.releaseWait ∧ e'.unspent = e.unspent ∧ e'.copy = e.copy ∧
      (e'.state = .closing → e.state = .closing) := by
  obtain ⟨e, he, rfl | rfl⟩ := foldl_cutOutcome_before hl he'
  · exact ⟨_, he, rfl, rfl, rfl, id⟩
  · exact ⟨e, he, rfl, rfl, rfl, nofun⟩

theorem foldl_cutOutcome_freedBy {i : EventIx} (hi : i ∈ l) {e : Event} (he : (l.foldl State.cutOutcome s).entry i = some e)
    (hw : e.releaseWait.isSome = true) (hu : e.unspent = 0) : s.freedBy l e.copy.stack := by
  obtain ⟨y, hy, hyw, hyu, hyc, -⟩ := foldl_cutOutcome_waits hl he
  exact ⟨i, hi, y, hy, hyw ▸ hw, hyu ▸ hu, by rw [hyc]⟩

/-- All that follows, as a step that may touch every event. -/
theorem State.cutConsequences_eases : Eases ⟨fun _ => True, fun _ => True, fun _ => True,
    ∃ i ∈ l, ∃ e, s.entry i = some e ∧ e.state = .closing ∧ e.releaseWait.isSome = true⟩ s (s.cutConsequences l) := by
  refine Eases.trans (t := l.foldl State.cutOutcome s) ?_
    (foldl_endSpentWait_eases hl fun i hi e he hw _ => ⟨trivial, trivial, trivial, fun hc => ?_⟩)
  · exact (foldl_cutOutcome_rest hl).mono (fun _ _ => trivial) (fun _ => False.elim) (fun _ => id) False.elim
  obtain ⟨y, hy, hyw, -, -, hyc⟩ := foldl_cutOutcome_waits hl he
  exact ⟨i, hi, y, hy, hyc hc, hyw ▸ hw⟩

theorem State.cutConsequences_rest {i : EventIx} {e : Event} (he : s.entry i = some e) (hn : i ∉ l ∨ e.unspent ≠ 0)
    (hr : e.state ≠ .reporting ∨ s.ring.port ≠ none) :
    ∃ e', (s.cutConsequences l).entry i = some e' ∧ e.Unstacked (s.freedBy l) e' := by
  have hcut := foldl_cutOutcome_rest hl (s := s)
  have hi : (l.foldl State.cutOutcome s).entry i = some e := hcut.stays_same (fun _ => id)
    (fun ⟨hm, hreach⟩ => hn.elim (fun h => h hm) fun h => h ((State.reachesCut_iff he).1 hreach).1) he hr
  have hwaits : Eases ⟨fun j => j ∈ l ∧ ∃ y, s.entry j = some y ∧ y.unspent = 0, s.freedBy l, fun _ => True, True⟩
      (l.foldl State.cutOutcome s) (s.cutConsequences l) :=
    foldl_endSpentWait_eases hl fun j hj y hy hw hu => by
      obtain ⟨x, hx, -, hxu, -, -⟩ := foldl_cutOutcome_waits hl hy
      exact ⟨⟨hj, x, hx, hxu ▸ hu⟩, foldl_cutOutcome_freedBy hl hj hy hw hu, trivial, fun _ => trivial⟩
  refine hwaits.stays ?_ hi (hr.imp_right fun hp => by rwa [hcut.port hp])
  rintro ⟨hm, x, hx, hu⟩
  cases he.symm.trans hx
  exact hn.elim (fun h => h hm) fun h => h hu

theorem State.cutConsequences_reached {i : EventIx} (hi : i ∈ l) {e : Event} (he : s.entry i = some e)
    (h : s.reachesCut i = true) :
    (s.cutConsequences l).entry i = some { e.bypassed .cut with releaseWait := none } ∧
      (s.cutConsequences l).requestOf i = none ∧
      (e.stackOrder = .inject → s.ring.port ≠ none → (∀ j y, s.entry j = some y → y.copy.stack = e.copy.stack → j = i) →
        ((s.cutConsequences l).view e.copy.stack).unsent = some ⟨(s.view e.copy.stack).takenSequence, .bypass⟩) := by
  obtain ⟨hentry, hqueue, hunsent⟩ := foldl_cutOutcome_reached hl hi he h
  have hwaits : Eases ⟨fun _ => True, fun _ => True, fun _ => True, True⟩ (l.foldl State.cutOutcome s) (s.cutConsequences l) :=
    foldl_endSpentWait_eases hl fun _ _ _ _ _ _ => ⟨trivial, trivial, trivial, fun _ => trivial⟩
  refine ⟨?_, ?_, fun ho hp hlone => ?_⟩
  · obtain ⟨e', he', hu⟩ := foldl_endSpentWait_waitless hl (freed := fun _ => True) hi (fun _ _ _ _ _ _ => trivial) hentry
      ((State.reachesCut_iff he).1 h).1 nofun nofun
    cases hu.same (.inl nofun)
    exact he'
  · refine List.find?_eq_none.2 fun q hq => ?_
    simpa using hqueue q (hwaits.queue q hq)
  · refine (congrArg StackView.unsent (foldl_endSpentWait_view ?_ ?_ l)).trans (hunsent ho hp hlone)
    · rwa [(foldl_cutOutcome_rest hl).port hp]
    · intro j y hy hk
      obtain ⟨x, hx, -, -, hxc, -⟩ := foldl_cutOutcome_waits hl hy
      cases hlone j x hx (hxc ▸ hk)
      cases hy.symm.trans hentry
      exact nofun

theorem State.cutConsequences_spent {i : EventIx} (hi : i ∈ l) {e : Event} (he : s.entry i = some e) (hu : e.unspent = 0)
    (h : ¬ s.reachesCut i = true) (hr : e.state ≠ .reporting) (hc : e.state = .closing → e.releaseWait = none) :
    ∃ e', (s.cutConsequences l).entry i = some e' ∧ ({ e with releaseWait := none } : Event).Unstacked (s.freedBy l) e' :=
  foldl_endSpentWait_waitless hl hi (fun _ hj _ hy hw hz => foldl_cutOutcome_freedBy hl hj hy hw hz)
    ((foldl_cutOutcome_rest hl).stays_same (fun _ => id) (fun hx => h hx.2) he (.inl hr)) hu hr hc

theorem State.cutConsequences_closed {i : EventIx} (hi : i ∈ l) {e : Event} (he : s.entry i = some e) (hu : e.unspent = 0)
    (hw : e.releaseWait.isSome = true) (hc : e.state = .closing) :
    (s.cutConsequences l).Closed (s.ring.port ≠ none) i { e with releaseWait := none, state := .reporting } := by
  have hcut := foldl_cutOutcome_rest hl (s := s)
  have hclosed := foldl_endSpentWait_closed hl hi (hcut.stays_same (fun _ => id)
    (fun hx => (State.reachesCut_state_ne he hx.2).2 hc) he (.inl (by simp [hc]))) hu hw hc
  have hport : s.ring.port ≠ none → (l.foldl State.cutOutcome s).ring.port ≠ none := fun hp => by rwa [hcut.port hp]
  exact ⟨fun h => hclosed.port (hport h), hclosed.fate.imp_right fun ⟨hn, hm⟩ => ⟨hn, fun h => hm (hport h)⟩⟩

end Consequences

end Sys2Proof.Machine
end

section
/-! SUPPORT. The events when a shortfall has been cut and its consequences have followed (R104). -/

namespace Sys2Proof.Machine

/-! ## A report behind a frame under way -/

theorem State.kick_busy {s : State} (h : s.ring.port ≠ none) : s.kick = s := by
  obtain ⟨p, hp⟩ := Option.ne_none_iff_exists'.1 h
  exact State.kick_sending hp

theorem State.report_busy {s : State} (h : s.ring.port ≠ none) (body : Report) :
    (s.report body).ring.port = s.ring.port ∧ (s.report body).views = s.views ∧
      (s.report body).events = s.events ∧
      (s.ring.reports.length < 32 →
        (s.report body).ring.reports = s.ring.reports ++ [⟨s.management.reportCounter, body⟩]) := by
  unfold State.report
  split
  · rw [State.kick_busy (s := s.appendReport body) h]
    exact ⟨rfl, rfl, rfl, fun _ => rfl⟩
  · next hfull => exact ⟨rfl, rfl, rfl, fun hroom => absurd hroom hfull⟩

theorem State.report_stays {s : State} {i : EventIx} {e : Event} (he : s.entry i = some e)
    (hr : e.state ≠ .reporting ∨ s.ring.port ≠ none) (body : Report) : (s.report body).entry i = some e := by
  rcases hr with hr | hp
  · exact (s.report_sheds body).stays he hr
  · exact (State.entry_congr (congrArg _ (State.report_busy hp body).2.2.1) i).trans he

/-! ## An event cut -/

/-- An event after the cut: as it was where nothing is taken. -/
def Event.cutAt (n : Nat) (e : Event) : Event := if 0 < n then e.cutBy n else e

theorem Event.cutAt_unspent (e : Event) (n : Nat) : (e.cutAt n).unspent = e.unspent - n := by
  unfold Event.cutAt
  split
  · exact Event.cutBy_unspent
  · omega

/-- An event with less of its grant. -/
def Event.lessBy (n : Nat) (e : Event) : Event := { e with grant := e.grant - n }

/-- The cut takes from the grant, but gives a HELD borrower with nothing left the reason BORROW. -/
theorem Event.cutAt_eq {e : Event} {n : Nat} (hn : n ≤ e.unspent)
    (h : ¬ (0 < n ∧ n = e.unspent) ∨ e.state ≠ .held ∨ e.claims = []) : e.cutAt n = e.lessBy n := by
  unfold Event.cutAt
  split
  · next hpos =>
    have hborrow : (decide (e.state = .held) && decide (e.unspent ≤ n) && !e.claims.isEmpty) = false := by
      rcases h with h | h | h
      · have hlt : ¬ e.unspent ≤ n := fun hle => h ⟨hpos, by omega⟩
        simp [hlt]
      · simp [h]
      · simp [h]
    simp [Event.cutBy, Event.lessBy, hborrow]
  · next hzero =>
    have h0 : n = 0 := by omega
    subst h0
    rfl

theorem Event.cutAt_borrows {e : Event} {n : Nat} (hpos : 0 < n) (hn : n = e.unspent) (hs : e.state = .held) (hc : e.claims ≠ []) :
    e.cutAt n = { e.lessBy n with held := ⟨true, e.held.stack, e.held.store⟩ } := by
  have hnil : e.claims.isEmpty = false := by simpa using hc
  rw [Event.cutAt, if_pos hpos]
  simp [Event.cutBy, Event.lessBy, hs, hn, hnil]

theorem Event.cutAt_keeps (e : Event) (n : Nat) : (e.cutAt n).state = e.state ∧ (e.cutAt n).claims = e.claims ∧
    (e.cutAt n).releaseWait = e.releaseWait ∧ (e.cutAt n).copy = e.copy := by
  unfold Event.cutAt
  split <;> exact ⟨rfl, rfl, rfl, rfl⟩

theorem State.shortfallCut_cutAt (s : State) (n : Nat) (i : EventIx) :
    (s.shortfallCut n).entry i = (s.entry i).map (Event.cutAt (s.eventCut n i)) := by
  rw [State.shortfallCut_entry, (s.cutEvents_toCut n).1 i]
  split
  · next h =>
    have hcut : Event.cutAt (s.eventCut n i) = Event.cutBy (s.eventCut n i) := funext fun e => if_pos h
    rw [hcut]
  · next h =>
    have hcut : Event.cutAt (s.eventCut n i) = id := funext fun e => if_neg h
    rw [hcut, Option.map_id, id]

/-! ## The events cut -/

/-- The events a cut takes something from. -/
def State.eventsCut (s : State) (n : Nat) : List EventIx := s.eventsToCut.filter fun i => decide (0 < s.eventCut n i)

theorem State.eventsCut_nodup (s : State) (n : Nat) : (s.eventsCut n).Nodup := s.eventsToCut_nodup.filter _

theorem State.mem_eventsCut {s : State} {n : Nat} {i : EventIx} : i ∈ s.eventsCut n ↔ 0 < s.eventCut n i := by
  rw [State.eventsCut, List.mem_filter, State.mem_eventsToCut, decide_eq_true_eq]
  exact ⟨And.right, fun h => ⟨h.trans_le (s.eventCut_le n i), h⟩⟩

/-- An event cut to nothing. -/
def State.cutWhole (s : State) (n : Nat) (i : EventIx) (e : Event) : Prop :=
  0 < s.eventCut n i ∧ s.eventCut n i = e.grant - e.spent

theorem State.eventCut_le_unspent {s : State} {i : EventIx} {e : Event} (he : s.entry i = some e) (n : Nat) :
    s.eventCut n i ≤ e.unspent := State.unspentOf_some he ▸ s.eventCut_le n i

theorem State.cutWhole.unspent {s : State} {n : Nat} {i : EventIx} {e : Event} (h : s.cutWhole n i e) :
    (e.cutAt (s.eventCut n i)).unspent = 0 := by
  have hcut : s.eventCut n i = e.unspent := h.2
  rw [Event.cutAt_unspent]
  omega

/-- A stack for which an event cut to nothing ends its wait. -/
def State.freedByCut (s : State) (n : Nat) (k : Station) : Prop :=
  ∃ j y, s.entry j = some y ∧ y.copy.stack = k ∧ y.releaseWait.isSome = true ∧ s.cutWhole n j y

/-- A state in which a shortfall has been cut from the events and told. -/
structure State.CutTold (s : State) (n : Nat) (w : State) : Prop where
  entry : ∀ i e, s.entry i = some e → e.state ≠ .reporting ∨ s.ring.port ≠ none →
    w.entry i = some (e.cutAt (s.eventCut n i))
  before : ∀ i e', w.entry i = some e' → ∃ e, s.entry i = some e ∧ e' = e.cutAt (s.eventCut n i)
  port : s.ring.port ≠ none → w.ring.port = s.ring.port
  view : s.ring.port ≠ none → ∀ k, w.view k = s.view k

theorem State.CutTold.silenced {s w : State} {n : Nat} (h : s.CutTold n w) (silence : Option Nat) :
    s.CutTold n { w with pool.storeSilence := silence } := ⟨h.entry, h.before, h.port, h.view⟩

theorem State.report_cutTold (s : State) (n : Nat) (body : Report) : s.CutTold n ((s.shortfallCut n).report body) := by
  have hring : (s.shortfallCut n).ring = s.ring := by simp [State.shortfallCut]
  have hviews : (s.shortfallCut n).views = s.views := by simp [State.shortfallCut]
  have hentry := s.shortfallCut_cutAt n
  generalize s.shortfallCut n = u at hring hviews hentry
  refine ⟨fun i e he hr => ?_, fun i e' he' => ?_, fun hp => ?_, fun hp k => ?_⟩
  · refine State.report_stays ?_ ?_ body
    · rw [hentry i, he, Option.map_some]
    · rwa [(e.cutAt_keeps _).1, hring]
  · have hi := (u.report_sheds body).held he'
    rw [hentry i, Option.map_eq_some_iff] at hi
    obtain ⟨e, he, rfl⟩ := hi
    exact ⟨e, he, rfl⟩
  · exact (State.report_busy (by rwa [hring]) body).1.trans (congrArg Ring.port hring)
  · exact State.view_congr ((State.report_busy (by rwa [hring]) body).2.1.trans hviews) k

section Told
variable {s w : State} {n : Nat} (h : s.CutTold n w)
include h

theorem State.CutTold.freed {k : Station} (hk : w.freedBy (s.eventsCut n) k) : s.freedByCut n k := by
  obtain ⟨j, hj, y, hy, hw, hu, rfl⟩ := hk
  obtain ⟨x, hx, rfl⟩ := h.before j y hy
  obtain ⟨-, -, hwait, hcopy⟩ := x.cutAt_keeps (s.eventCut n j)
  have hle := s.eventCut_le n j
  rw [State.unspentOf_some hx] at hle
  rw [Event.cutAt_unspent] at hu
  refine ⟨j, x, hx, by rw [hcopy], hwait ▸ hw, State.mem_eventsCut.1 hj, ?_⟩
  change _ = x.unspent
  omega

variable {i : EventIx} {e : Event} (he : s.entry i = some e)
include he

/-- An event not cut to nothing. -/
theorem State.CutTold.partly (hz : ¬ s.cutWhole n i e) (hr : e.state ≠ .reporting ∨ s.ring.port ≠ none) :
    ∃ e', (w.cutConsequences (s.eventsCut n)).entry i = some e' ∧
      (e.lessBy (s.eventCut n i)).Unstacked (s.freedByCut n) e' := by
  have hle := State.eventCut_le_unspent he n
  have hw := h.entry i e he hr
  rw [Event.cutAt_eq hle (.inl hz)] at hw
  obtain ⟨e', he', hu⟩ := State.cutConsequences_rest (s.eventsCut_nodup n) hw (by
    rw [State.mem_eventsCut, ← Event.cutAt_eq hle (.inl hz), Event.cutAt_unspent]
    by_contra hn
    rw [not_or, not_not, not_not] at hn
    exact hz ⟨hn.1, show _ = e.unspent by omega⟩) (hr.imp_right fun hp => by rwa [h.port hp])
  exact ⟨e', he', hu.imp_right fun ⟨x, y⟩ => ⟨h.freed x, y⟩⟩

variable (hz : s.cutWhole n i e)
include hz

theorem State.CutTold.whole_reaches (hr : e.state ≠ .reporting) : w.reachesCut i = true ↔
    e.state = .injecting ∨ e.state = .held ∧ e.claims = [] := by
  obtain ⟨hstate, hclaims, -, -⟩ := e.cutAt_keeps (s.eventCut n i)
  rw [State.reachesCut_iff (h.entry i e he (.inl hr)), hstate, hclaims]
  exact and_iff_right hz.unspent

/-- An INJECTING event, or a HELD one without claims, cut to nothing. -/
theorem State.CutTold.bypassed (hs : e.state = .injecting ∨ e.state = .held ∧ e.claims = []) :
    (w.cutConsequences (s.eventsCut n)).requestOf i = none ∧
      (w.cutConsequences (s.eventsCut n)).entry i =
        some { (e.lessBy (s.eventCut n i)).bypassed .cut with releaseWait := none } ∧
      (e.stackOrder = .inject → s.ring.port ≠ none → (∀ j y, s.entry j = some y → y.copy.stack = e.copy.stack → j = i) →
        ((w.cutConsequences (s.eventsCut n)).view e.copy.stack).unsent =
          some ⟨(s.view e.copy.stack).takenSequence, .bypass⟩) := by
  have hr : e.state ≠ .reporting := by rcases hs with hs | ⟨hs, -⟩ <;> simp [hs]
  have hless : e.cutAt (s.eventCut n i) = e.lessBy (s.eventCut n i) :=
    Event.cutAt_eq (State.eventCut_le_unspent he n) (.inr (hs.imp (by simp +contextual) And.right))
  obtain ⟨hentry, hqueue, hunsent⟩ := State.cutConsequences_reached (s.eventsCut_nodup n) (State.mem_eventsCut.2 hz.1)
    (hless ▸ h.entry i e he (.inl hr)) ((h.whole_reaches he hz hr).2 hs)
  refine ⟨hqueue, hentry, fun ho hp hlone => ?_⟩
  have hview := hunsent ho (by rwa [h.port hp]) fun j y hy hk => by
    obtain ⟨x, hx, rfl⟩ := h.before j y hy
    exact hlone j x hx ((x.cutAt_keeps _).2.2.2 ▸ hk)
  rwa [h.view hp] at hview

/-- Another event cut to nothing, that does not close. -/
theorem State.CutTold.waitless (hs : ¬ (e.state = .injecting ∨ e.state = .held ∧ e.claims = [])) (hr : e.state ≠ .reporting)
    (hc : e.state = .closing → e.releaseWait = none) : ∃ e', (w.cutConsequences (s.eventsCut n)).entry i = some e' ∧
      ({ e.cutAt (s.eventCut n i) with releaseWait := none } : Event).Unstacked (s.freedByCut n) e' := by
  obtain ⟨hstate, -, hwait, -⟩ := e.cutAt_keeps (s.eventCut n i)
  obtain ⟨e', he', hu⟩ := State.cutConsequences_spent (s.eventsCut_nodup n) (State.mem_eventsCut.2 hz.1)
    (h.entry i e he (.inl hr)) hz.unspent (fun hx => hs ((h.whole_reaches he hz hr).1 hx)) (by rwa [hstate])
    fun hx => hwait.trans (hc (hstate ▸ hx))
  exact ⟨e', he', hu.imp_right fun ⟨x, y⟩ => ⟨h.freed x, y⟩⟩

/-- A HELD borrower cut to nothing stays HELD for BORROW. -/
theorem State.CutTold.borrows (hs : e.state = .held) (hc : e.claims ≠ []) :
    ∃ stack, (w.cutConsequences (s.eventsCut n)).entry i =
        some { e.lessBy (s.eventCut n i) with held := ⟨true, stack, e.held.store⟩, releaseWait := none } ∧
      (stack = true → e.held.stack = true) ∧ (¬ s.freedByCut n e.copy.stack → stack = e.held.stack) := by
  obtain ⟨e', he', hu⟩ := h.waitless he hz (by simp [hs, hc]) (by simp [hs]) (by simp [hs])
  rw [Event.cutAt_borrows hz.1 hz.2 hs hc] at hu
  rcases hu with rfl | ⟨hf, -, hstack, hloses⟩
  · exact ⟨e.held.stack, he', id, fun _ => rfl⟩
  · rw [hloses.stays (hloses.reasons (.inl rfl))] at he'
    exact ⟨false, he', nofun, fun hnot => absurd hf hnot⟩

/-- A REQUESTING, BYPASSED or CLOSING event cut to nothing. -/
theorem State.CutTold.ends (hs : e.state = .requesting ∨ e.state = .bypassed ∨ e.state = .closing ∧ e.releaseWait = none) :
    (w.cutConsequences (s.eventsCut n)).entry i = some { e.lessBy (s.eventCut n i) with releaseWait := none } := by
  have hheld : e.state ≠ .held := by rcases hs with hs | hs | ⟨hs, -⟩ <;> simp [hs]
  obtain ⟨e', he', hu⟩ := h.waitless he hz (by rcases hs with hs | hs | ⟨hs, -⟩ <;> simp [hs])
    (by rcases hs with hs | hs | ⟨hs, -⟩ <;> simp [hs]) (by rcases hs with hs | hs | ⟨-, hw⟩ <;> simp [*])
  rw [Event.cutAt_eq (State.eventCut_le_unspent he n) (.inr (.inl hheld))] at hu
  cases hu.same (.inl hheld)
  exact he'

/-- A CLOSING event cut to nothing in its wait is closed. -/
theorem State.CutTold.closed (hs : e.state = .closing) (hw : e.releaseWait.isSome = true) :
    (w.cutConsequences (s.eventsCut n)).Closed (s.ring.port ≠ none) i
      { e.lessBy (s.eventCut n i) with releaseWait := none, state := .reporting } := by
  obtain ⟨hstate, -, hwait, -⟩ := e.cutAt_keeps (s.eventCut n i)
  have hclosed := State.cutConsequences_closed (s.eventsCut_nodup n) (State.mem_eventsCut.2 hz.1)
    (h.entry i e he (.inl (by simp [hs]))) hz.unspent (hwait ▸ hw) (hstate ▸ hs)
  rw [Event.cutAt_eq (State.eventCut_le_unspent he n) (.inr (.inl (by simp [hs])))] at hclosed
  have hport : s.ring.port ≠ none → w.ring.port ≠ none := fun hp => by rwa [h.port hp]
  exact ⟨fun hp => hclosed.port (hport hp), hclosed.fate.imp_right fun ⟨hn, hm⟩ => ⟨hn, fun hp => hm (hport hp)⟩⟩

end Told

end Sys2Proof.Machine
end

section
/-! SUPPORT. What a cut takes, in which order, from which releases, and how it is told (R104, R105, R110). -/

namespace Sys2Proof.Machine

/-! ## The order of the cut -/

theorem orderAge_lt (counter order : U32) : orderAge counter order < 4294967296 := (counter - order).isLt

/-- The less critical, and within a class the newer, has the smaller key. -/
theorem leastCriticalKey_lt {cls cls' age age' : Nat} (hc : cls' ≤ 3) (ha : age' < 4294967296)
    (h : cls < cls' ∨ cls = cls' ∧ age' < age) : leastCriticalKey cls' age' < leastCriticalKey cls age := by
  unfold leastCriticalKey
  omega

/-- The key by which the events are cut. -/
def State.eventKey (s : State) (i : EventIx) : Nat :=
  match s.entry i with
  | some e => leastCriticalKey e.copy.cls (orderAge s.events.openCounter e.openOrder)
  | none => 0

theorem State.eventKey_some {s : State} {i : EventIx} {e : Event} (he : s.entry i = some e) :
    s.eventKey i = leastCriticalKey e.copy.cls (orderAge s.events.openCounter e.openOrder) := by
  simp only [State.eventKey, he]

theorem State.eventsToCut_sorted (s : State) : s.eventsToCut.Pairwise fun i j => s.eventKey i ≤ s.eventKey j :=
  sortByKey_sorted s.eventKey (s.eventsWhere fun e => decide (0 < e.unspent))

/-- The key by which the releases are cut. -/
def State.releaseKey (s : State) (r : ReleaseIx) : Nat :=
  match s.release r with
  | some x => leastCriticalKey (s.ownerClass x) (orderAge s.pool.creationCounter x.creationOrder)
  | none => 0

theorem State.releaseKey_some {s : State} {r : ReleaseIx} {x : Release} (hx : s.release r = some x) :
    s.releaseKey r = leastCriticalKey (s.ownerClass x) (orderAge s.pool.creationCounter x.creationOrder) := by
  simp only [State.releaseKey, hx]

theorem State.releasesToCut_sorted (s : State) : s.releasesToCut.Pairwise fun r q => s.releaseKey r ≤ s.releaseKey q :=
  sortByKey_sorted s.releaseKey _

/-- Where an event gives anything, one less critical or newer gives all it has. -/
theorem State.eventCut_ahead {s : State} {n : Nat} {i j : EventIx} {e y : Event} (he : s.entry i = some e)
    (hy : s.entry j = some y) (hc : y.copy.cls ≤ 3) (hpos : 0 < s.eventCut n i)
    (h : e.copy.cls < y.copy.cls ∨ e.copy.cls = y.copy.cls ∧
      orderAge s.events.openCounter y.openOrder < orderAge s.events.openCounter e.openOrder) :
    s.eventCut n j = y.unspent := by
  have hkey : s.eventKey j < s.eventKey i := by
    rw [State.eventKey_some he, State.eventKey_some hy]
    exact leastCriticalKey_lt hc (orderAge_lt _ _) h
  have hle := State.eventCut_le_unspent hy n
  by_cases hzero : y.unspent = 0
  · omega
  · have hj : j ∈ s.eventsToCut := State.mem_eventsToCut.2 (by rw [State.unspentOf_some hy]; omega)
    rw [← State.unspentOf_some hy]
    refine shares_all_of_ahead s.eventsToCut_sorted hpos hj (fun hji => ?_) (by omega)
    rw [hji] at hkey
    exact Nat.lt_irrefl _ hkey

theorem State.ownerClass_le {s : State} (hc : ∀ i e, s.entry i = some e → e.copy.cls ≤ 3) (x : Release) :
    s.ownerClass x ≤ 3 := by
  unfold State.ownerClass
  cases x.origin with
  | none => exact Nat.le_refl 3
  | some i =>
    dsimp only
    cases he : s.entry i with
    | none => exact Nat.le_refl 3
    | some e => exact hc i e he

theorem State.releaseCut_ahead {s : State} {n : Nat} (hc : ∀ i e, s.entry i = some e → e.copy.cls ≤ 3) {r q : ReleaseIx}
    {y z : Release} (hy : s.release r = some y) (hz : s.release q = some z) (hpos : 0 < s.releaseCut n r)
    (h : s.ownerClass y < s.ownerClass z ∨ s.ownerClass y = s.ownerClass z ∧
      orderAge s.pool.creationCounter z.creationOrder < orderAge s.pool.creationCounter y.creationOrder) :
    s.releaseCut n q = z.amount := by
  have hkey : s.releaseKey q < s.releaseKey r := by
    rw [State.releaseKey_some hy, State.releaseKey_some hz]
    exact leastCriticalKey_lt (State.ownerClass_le hc z) (orderAge_lt _ _) h
  have hle := State.amountOf_some hz ▸ s.releaseCut_le n q
  by_cases hzero : z.amount = 0
  · omega
  · have hq : q ∈ s.releasesToCut := State.mem_releasesToCut.2 (by rw [State.amountOf_some hz]; omega)
    rw [← State.amountOf_some hz]
    refine shares_all_of_ahead s.releasesToCut_sorted hpos hq (fun hqr => ?_) (by omega)
    rw [hqr] at hkey
    exact Nat.lt_irrefl _ hkey

/-! ## The sums and the releases afterwards -/

theorem State.report_stands (s : State) (body : Report) : Stands s (s.report body) := by
  unfold State.report
  split
  · exact (State.kick_stands _).after (.of_eq rfl)
  · exact .of_eq rfl

theorem State.bypassEntered_stands (s : State) (i : EventIx) (e : Event) (cause : EventOutcome) :
    Stands s (s.bypassEntered i e cause) := .of_eq rfl

theorem State.cutOutcome_stands (s : State) (i : EventIx) : Stands s (s.cutOutcome i) := by
  by_cases h : s.reachesCut i = true
  · obtain ⟨e, he⟩ := State.reachesCut_held h
    rw [State.cutOutcome_eq he h]
    split
    · exact (s.bypassEntered_stands i e .cut).trans (State.queueCommand_stands _ _ _)
    · exact s.bypassEntered_stands i e .cut
  · rw [State.cutOutcome_none h]
    exact .refl s

theorem State.enterReporting_stands {s : State} {i : EventIx} {e : Event} (he : s.entry i = some e) :
    Stands s (s.enterReporting i) := by
  rw [State.enterReporting_eq he]
  split
  · exact (State.kick_stands _).after ((State.queueClosed_stands _ i).after (.of_eq rfl))
  · exact .of_eq rfl

theorem State.endSpentWait_stands (s : State) (i : EventIx) : Stands s (s.endSpentWait i) := by
  rcases s.endSpentWait_cases i with ⟨e, he, hw, hu⟩ | hsame
  · have hset : Stands s (s.setEntry i (some { e with releaseWait := none })) := .of_eq rfl
    rw [State.endSpentWait_ends he hw hu, State.endWait_eq he]
    refine (State.availabilityCheck_stands _ _).after ?_
    unfold State.waitGone
    split
    · exact hset.trans (State.enterReporting_stands ((State.entry_setEntry s i i _).trans (if_pos rfl)))
    · exact hset
  · rw [hsame]
    exact .refl s

theorem State.cutConsequences_stands (s : State) (l : List EventIx) : Stands s (s.cutConsequences l) :=
  (Stands.foldl State.cutOutcome_stands l s).trans (Stands.foldl State.endSpentWait_stands l _)

theorem Release.lasting_eq {x y : Release} (h : x.lasting = y.lasting) :
    x.amount = y.amount ∧ x.claims = y.claims ∧ x.state = y.state :=
  ⟨(congrArg Release.amount h :), (congrArg Release.claims h :), (congrArg Release.state h :)⟩

section Releases
variable {s t : State} {n : Nat} (h : Stands (s.shortfallCut n) t)
include h

theorem Stands.cut_release {r : ReleaseIx} {y : Release} (hy : s.release r = some y) : ∃ y', t.release r = some y' ∧
    y'.amount = y.amount - s.releaseCut (n - s.unspentSum) r ∧ y'.claims = y.claims ∧ y'.state = y.state := by
  have hcut := s.shortfallCut_release n r
  rw [hy, Option.map_some] at hcut
  obtain ⟨y', hy', hlasting⟩ := h.held hcut
  exact ⟨y', hy', Release.lasting_eq hlasting⟩

theorem Stands.cut_vacant {r : ReleaseIx} (hr : s.release r = none) : t.release r = none :=
  h.vacant (by rw [s.shortfallCut_release n r, hr]; rfl)

theorem Stands.cut_releaseSum : t.releaseSum = s.releaseSum - min (n - s.unspentSum) s.releaseSum := by
  have hof : ∀ r, t.amountOf r + s.releaseCut (n - s.unspentSum) r = s.amountOf r := fun r => by
    have hle := s.releaseCut_le (n - s.unspentSum) r
    cases hr : s.release r with
    | none =>
      rw [State.amountOf_none hr] at hle ⊢
      rw [State.amountOf_none (h.cut_vacant hr)]
      omega
    | some y =>
      obtain ⟨y', hy', hamount, -, -⟩ := h.cut_release hr
      rw [State.amountOf_some hr] at hle ⊢
      rw [State.amountOf_some hy', hamount]
      omega
  have hsum : t.releaseSum + min (n - s.unspentSum) s.releaseSum = s.releaseSum := by
    rw [← s.sum_releaseCut, State.releaseSum_eq, s.releaseSum_eq, ← Finset.sum_add_distrib]
    exact Finset.sum_congr rfl fun r _ => hof r
  omega

/-- The releases afterwards, the least critical and the newest of them cut first (R105). -/
theorem Stands.cut_releases (hc : ∀ i e, s.entry i = some e → e.copy.cls ≤ 3) {r : ReleaseIx} {y : Release}
    (hy : s.release r = some y) :
    ∃ y', t.release r = some y' ∧ y'.amount ≤ y.amount ∧ y'.claims = y.claims ∧
      y'.state = y.state ∧ (y'.amount < y.amount → ∀ q z z', s.release q = some z → t.release q = some z' →
        (s.ownerClass y < s.ownerClass z ∨ s.ownerClass y = s.ownerClass z ∧
          orderAge s.pool.creationCounter z.creationOrder < orderAge s.pool.creationCounter y.creationOrder) →
        z'.amount = 0) := by
  obtain ⟨y', hy', hamount, hclaims, hstate⟩ := h.cut_release hy
  refine ⟨y', hy', by omega, hclaims, hstate, fun hlt q z z' hz hz' hahead => ?_⟩
  obtain ⟨x, hx, hxamount, -, -⟩ := h.cut_release hz
  cases hx.symm.trans hz'
  rw [hxamount, State.releaseCut_ahead hc hy hz (by omega) hahead]
  exact Nat.sub_self _

/-- The releases a cut takes something from are those whose amount has changed. -/
theorem Stands.cut_count : (s.releasesToCut.filter fun r => decide (0 < s.releaseCut (n - s.unspentSum) r)).length =
    (allReleases.filter fun r => decide ((t.release r).map (·.amount) ≠ (s.release r).map (·.amount))).length := by
  refine List.Perm.length_eq ((List.perm_ext_iff_of_nodup (s.releasesToCut_nodup.filter _)
    ((List.nodup_finRange 16).filter _)).2 fun r => ?_)
  have hle := s.releaseCut_le (n - s.unspentSum) r
  rw [List.mem_filter, List.mem_filter, State.mem_releasesToCut, decide_eq_true_eq, decide_eq_true_eq]
  refine (and_iff_right_of_imp fun hpos => hpos.trans_le hle).trans
    (Iff.trans ?_ (and_iff_right (List.mem_finRange r)).symm)
  cases hr : s.release r with
  | none =>
    rw [State.amountOf_none hr] at hle
    rw [h.cut_vacant hr]
    simp only [Option.map_none, ne_eq, not_true_eq_false, iff_false]
    omega
  | some y =>
    obtain ⟨y', hy', hamount, -, -⟩ := h.cut_release hr
    rw [State.amountOf_some hr] at hle
    rw [hy', Option.map_some, Option.map_some, ne_eq, Option.some.injEq, hamount]
    omega

end Releases

/-! ## How the cut is told (R110) -/

theorem State.eventsCut_count (s : State) (n : Nat) :
    (s.eventsCut n).length = (allEvents.filter fun i => decide (0 < s.eventCut n i)).length := by
  refine List.Perm.length_eq ((List.perm_ext_iff_of_nodup (s.eventsCut_nodup n) ((List.nodup_finRange 32).filter _)).2 fun i => ?_)
  rw [State.mem_eventsCut, List.mem_filter, decide_eq_true_eq]
  exact (and_iff_right (List.mem_finRange i)).symm

theorem State.shortfallCut_reaches {s : State} {n : Nat} {i : EventIx} {e : Event} (he : s.entry i = some e) :
    i ∈ s.eventsCut n ∧ (s.shortfallCut n).reachesCut i = true ↔ s.cutWhole n i e ∧
      (e.state = .injecting ∨ e.state = .held ∧ e.claims = []) := by
  have hi := s.shortfallCut_cutAt n i
  rw [he, Option.map_some] at hi
  obtain ⟨hstate, hclaims, -, -⟩ := e.cutAt_keeps (s.eventCut n i)
  have hle := State.eventCut_le_unspent he n
  rw [State.mem_eventsCut, State.reachesCut_iff hi, hstate, hclaims, Event.cutAt_unspent]
  unfold State.cutWhole
  change _ ↔ (_ ∧ _ = e.unspent) ∧ _
  constructor
  · rintro ⟨hpos, hu, hs⟩
    exact ⟨⟨hpos, by omega⟩, hs⟩
  · rintro ⟨⟨hpos, hu⟩, hs⟩
    exact ⟨hpos, by omega, hs⟩

/-- The SHORTFALL report by what the cut takes. -/
theorem State.shortfallReport_eq {s : State} {n : Nat} (hn : n ≤ s.unspentSum + s.releaseSum) (timestamp : U32) (voltage : Nat) :
    s.shortfallReport n timestamp voltage = .shortfall timestamp voltage s.pool.budget n (min n s.unspentSum)
      (n - s.unspentSum) (s.eventsCut n).length ((s.eventsCut n).filter fun i => (s.shortfallCut n).reachesCut i).length
      (s.releasesToCut.filter fun r => decide (0 < s.releaseCut (n - s.unspentSum) r)).length := by
  obtain ⟨-, hleft, hcut⟩ := s.cutEvents_toCut n
  obtain ⟨-, hrest, hcount⟩ := (State.cutEvents s.eventsToCut n s).1.cutReleases_toCut (n - s.unspentSum)
  have hsum : (State.cutEvents s.eventsToCut n s).1.releaseSum = s.releaseSum :=
    State.releaseSum_congr fun q => by simp only [State.amountOf, s.cutEvents_release n]
  have hbudget : (s.shortfallCut n).pool.budget = s.pool.budget := by simp [State.shortfallCut]
  have hall : n - s.unspentSum - s.releaseSum = 0 := by omega
  have hevents : n - (n - s.unspentSum) = min n s.unspentSum := by omega
  simp only [s.cutEvents_releasesToCut, s.cutEvents_releaseCut, hsum] at hrest hcount
  simp only [State.shortfallReport, s.cutEvents_releasesToCut, hleft, hcut, hrest, hcount, hbudget, hall, hevents, Nat.sub_zero]
  rfl

end Sys2Proof.Machine
end

section
/-! SUPPORT. A store confirmation that finds a shortfall (R104, R105, R110); the settlement of O44. -/

namespace Sys2Proof.Machine

/-! ## Each event after the cut -/

/-- The rows of R104 for one event `e` of `s`, and what becomes of it in `t` when `n` has been cut. -/
structure State.CutRow (s t : State) (n : Nat) (i : EventIx) (e : Event) : Prop where
  bound : s.eventCut n i ≤ e.unspent
  ahead : 0 < s.eventCut n i → ∀ j y, s.entry j = some y → (e.copy.cls < y.copy.cls ∨ e.copy.cls = y.copy.cls ∧
    orderAge s.events.openCounter y.openOrder < orderAge s.events.openCounter e.openOrder) → s.eventCut n j = y.unspent
  short : ¬ s.cutWhole n i e → e.state ≠ .held → e.state ≠ .reporting ∨ s.ring.port ≠ none →
    t.entry i = some (e.lessBy (s.eventCut n i))
  stays : ¬ s.cutWhole n i e → e.state = .held → ¬ s.freedByCut n e.copy.stack →
    t.entry i = some (e.lessBy (s.eventCut n i))
  freed : ¬ s.cutWhole n i e → e.state = .held → ∃ e', t.entry i = some e' ∧
    e'.grant = (e.lessBy (s.eventCut n i)).grant ∧ e'.spent = e.spent ∧
    (e.held.borrow = true ∨ e.held.stack = false ∨ e.held.store = true → e'.state = .held)
  bypassed : s.cutWhole n i e → e.state = .injecting ∨ e.state = .held ∧ e.claims = [] →
    t.requestOf i = none ∧ t.entry i = some { (e.lessBy (s.eventCut n i)).bypassed .cut with releaseWait := none } ∧
      (e.stackOrder = .inject → s.ring.port ≠ none → (∀ j y, s.entry j = some y → y.copy.stack = e.copy.stack → j = i) →
        (t.view e.copy.stack).unsent = some ⟨(s.view e.copy.stack).takenSequence, .bypass⟩)
  borrows : s.cutWhole n i e → e.state = .held → e.claims ≠ [] → ∃ stack,
    t.entry i = some { e.lessBy (s.eventCut n i) with held := ⟨true, stack, e.held.store⟩, releaseWait := none } ∧
      (stack = true → e.held.stack = true) ∧ (¬ s.freedByCut n e.copy.stack → stack = e.held.stack)
  ends : s.cutWhole n i e → e.state = .requesting ∨ e.state = .bypassed ∨ e.state = .closing ∧ e.releaseWait = none →
    t.entry i = some { e.lessBy (s.eventCut n i) with releaseWait := none }
  closed : s.cutWhole n i e → e.state = .closing → e.releaseWait.isSome = true →
    t.Closed (s.ring.port ≠ none) i { e.lessBy (s.eventCut n i) with releaseWait := none, state := .reporting }

theorem State.CutRow.duePass {s t : State} {n : Nat} {i : EventIx} {e : Event} (h : s.CutRow t n i e) :
    s.CutRow t.duePass n i e :=
  ⟨h.bound, h.ahead, h.short, h.stays, h.freed, h.bypassed, h.borrows, h.ends,
    fun hz hs hw => ⟨(h.closed hz hs hw).port, (h.closed hz hs hw).fate⟩⟩

theorem State.CutTold.rows {s w : State} {n : Nat} (h : s.CutTold n w) (ha : s.Accounted)
    (hc : ∀ i e, s.entry i = some e → e.copy.cls ≤ 3) {i : EventIx} {e : Event} (he : s.entry i = some e) :
    s.CutRow (w.cutConsequences (s.eventsCut n)) n i e where
  bound := State.eventCut_le_unspent he n
  ahead := fun hpos j y hy hahead => State.eventCut_ahead he hy (hc j y hy) hpos hahead
  short := fun hz hs hr => by
    obtain ⟨e', he', hu⟩ := h.partly he hz hr
    cases hu.same (.inl hs)
    exact he'
  stays := fun hz hs hf => by
    obtain ⟨e', he', hu⟩ := h.partly he hz (.inl (by simp [hs]))
    cases hu.same (.inr (.inl hf))
    exact he'
  freed := fun hz hs => by
    obtain ⟨e', he', hu⟩ := h.partly he hz (.inl (by simp [hs]))
    have hspent : e.spent ≤ e.grant := (ha i e he).spent_le
    have hle : s.eventCut n i ≤ e.grant - e.spent := State.eventCut_le_unspent he n
    refine ⟨e', he', ?_⟩
    rcases hu with rfl | ⟨-, -, hstack, hl⟩
    · exact ⟨rfl, rfl, fun _ => hs⟩
    · refine ⟨hl.grant ?_, hl.spent, fun hreasons => hl.reasons ?_⟩
      · change e.spent ≤ e.grant - s.eventCut n i
        omega
      · rcases hreasons with hb | hk | hst
        · exact .inl hb
        · exact absurd (hstack.symm.trans hk) (by simp)
        · exact .inr hst
  bypassed := fun hz hs => h.bypassed he hz hs
  borrows := fun hz hs hcl => h.borrows he hz hs hcl
  ends := fun hz hs => h.ends he hz hs
  closed := fun hz hs hw => h.closed he hz hs hw

/-! ## The confirmation by the cut -/

/-- The state in which the shortfall has been cut and told and the one-shot started. -/
def State.cutAndTold (s : State) (p : StoreParameters) (n : Nat) (timestamp : U32) (voltage : Nat) : State :=
  ((s.shortfallCut n).report (s.shortfallReport n timestamp voltage)).silenceFrom p

/-- The confirmation in a LIVE store where B does not cover what is committed. -/
theorem State.confirmStore_short {s : State} (hl : s.pool.storeState = .live)
    (hp : ∀ r y, s.release r = some y → y.state = .pending) {p : StoreParameters} {voltage n : Nat}
    (hb : storeBudget p voltage < s.unspentSum + s.releaseSum)
    (hn : s.unspentSum + s.releaseSum - storeBudget p voltage = n) (timestamp : U32) :
    s.confirmStore p timestamp voltage = (((s.budgeted p voltage).cutAndTold p n timestamp voltage).cutConsequences
      ((s.budgeted p voltage).eventsCut n)).duePass := by
  obtain ⟨hu, hr⟩ := s.budgeted_sums p voltage
  have hbudget : (s.budgeted p voltage).pool.budget = storeBudget p voltage := rfl
  have hlive : (s.budgeted p voltage).pool.storeState = .live := hl
  rw [State.confirmStore_pending hp]
  generalize s.budgeted p voltage = b at hu hr hbudget hlive
  have hfree := State.setFree_short (s := b) (n := n) (by omega) (by omega) timestamp voltage
  have hstate : ((b.shortfallCut n).report (b.shortfallReport n timestamp voltage)).pool.storeState = .live := by
    simpa [State.shortfallCut] using hlive
  rw [hfree, (b.cutEvents_toCut n).2.2]
  dsimp only
  rw [State.enterLive_of_live hstate]
  rfl

theorem State.cutAndTold_cutTold (s : State) (p : StoreParameters) (n : Nat) (timestamp : U32) (voltage : Nat) :
    s.CutTold n (s.cutAndTold p n timestamp voltage) := (s.report_cutTold n _).silenced _

theorem State.silenceFrom_stands (s : State) (p : StoreParameters) : Stands s (s.silenceFrom p) := .of_eq rfl

theorem State.duePass_stands (s : State) : Stands s s.duePass := .of_eq rfl

theorem State.cutAndTold_stands (s : State) (p : StoreParameters) (n : Nat) (timestamp : U32) (voltage : Nat) :
    Stands (s.shortfallCut n) (s.cutAndTold p n timestamp voltage) :=
  (State.report_stands _ _).trans (State.silenceFrom_stands _ p)

theorem State.cutAndTold_free (s : State) (p : StoreParameters) (n : Nat) (timestamp : U32) (voltage : Nat) :
    (s.cutAndTold p n timestamp voltage).pool.free = 0 := by
  simp [State.cutAndTold, State.silenceFrom, State.shortfallCut]

theorem State.cutAndTold_reports {s : State} (hp : s.ring.port ≠ none) (hroom : s.ring.reports.length < 32)
    (p : StoreParameters) (n : Nat) (timestamp : U32) (voltage : Nat) :
    (s.cutAndTold p n timestamp voltage).ring.reports =
      s.ring.reports ++ [⟨s.management.reportCounter, s.shortfallReport n timestamp voltage⟩] := by
  have hring : (s.shortfallCut n).ring = s.ring := by simp [State.shortfallCut]
  have hcounter : (s.shortfallCut n).management = s.management := by simp [State.shortfallCut]
  have h := (State.report_busy (s := s.shortfallCut n) (by rwa [hring]) (s.shortfallReport n timestamp voltage)).2.2.2
    (by rwa [hring])
  rw [hring, hcounter] at h
  exact h

/-- An event that a cut takes to CUT. -/
def State.reachedBy (s : State) (n : Nat) (i : EventIx) : Bool :=
  match s.entry i with
  | some e => decide (0 < s.eventCut n i ∧ s.eventCut n i = e.grant - e.spent ∧
      (e.state = .injecting ∨ e.state = .held ∧ e.claims = []))
  | none => false

theorem State.eventsCut_reached_count (s : State) (n : Nat) :
    ((s.eventsCut n).filter fun i => (s.shortfallCut n).reachesCut i).length = (allEvents.filter (s.reachedBy n)).length := by
  refine List.Perm.length_eq ((List.perm_ext_iff_of_nodup ((s.eventsCut_nodup n).filter _)
    ((List.nodup_finRange 32).filter _)).2 fun i => ?_)
  rw [List.mem_filter, List.mem_filter]
  refine Iff.trans ?_ (and_iff_right (List.mem_finRange i)).symm
  cases he : s.entry i with
  | none =>
    have hle := s.eventCut_le n i
    rw [State.unspentOf_none he] at hle
    simp only [State.reachedBy, he, State.mem_eventsCut, Bool.false_eq_true, iff_false]
    exact fun h => absurd h.1 (by omega)
  | some e =>
    rw [State.shortfallCut_reaches he]
    simp only [State.reachedBy, he, decide_eq_true_eq, State.cutWhole, and_assoc]

/-! ## The confirmation in a LIVE store that finds a shortfall -/

section Shortfall
variable {s : State} {p : StoreParameters} {voltage n : Nat} (timestamp : U32) (hl : s.pool.storeState = .live)
  (hs : EnergySound s) (hp : ∀ r y, s.release r = some y → y.state = .pending)
  (hb : storeBudget p voltage < s.unspentSum + s.releaseSum) (hn : s.unspentSum + s.releaseSum - storeBudget p voltage = n)
include hl hp hb hn

theorem State.confirmStore_stands : Stands ((s.budgeted p voltage).shortfallCut n) (s.confirmStore p timestamp voltage) := by
  rw [State.confirmStore_short hl hp hb hn]
  exact (State.duePass_stands _).after ((State.cutAndTold_stands _ p n timestamp voltage).trans (State.cutConsequences_stands _ _))

theorem State.confirmStore_free : (s.confirmStore p timestamp voltage).pool.free = 0 := by
  rw [State.confirmStore_short hl hp hb hn]
  exact (State.cutConsequences_eases (State.eventsCut_nodup _ n)).free.trans (State.cutAndTold_free _ p n timestamp voltage)

theorem State.confirmStore_releaseSum : (s.confirmStore p timestamp voltage).releaseSum =
    s.releaseSum - min (n - s.unspentSum) s.releaseSum := by
  obtain ⟨hu, hr⟩ := s.budgeted_sums p voltage
  rw [(State.confirmStore_stands timestamp hl hp hb hn).cut_releaseSum, hu, hr]

include hs in
theorem State.confirmStore_sums : (s.confirmStore p timestamp voltage).unspentSum +
    (s.confirmStore p timestamp voltage).releaseSum = storeBudget p voltage := by
  obtain ⟨-, -, hfunds⟩ := energySound_iff.1 ((s.confirmStore_keeps p timestamp voltage).sound hs)
  have hlive := s.confirmStore_live p timestamp voltage
  rw [State.funds, State.confirmStore_free timestamp hl hp hb hn, hlive.drawn, hlive.budget] at hfunds
  omega

include hs in
theorem State.confirmStore_rows (hc : ∀ i e, s.entry i = some e → e.copy.cls ≤ 3) {i : EventIx} {e : Event}
    (he : s.entry i = some e) : (s.budgeted p voltage).CutRow (s.confirmStore p timestamp voltage) n i e := by
  have ha : s.Accounted := (energySound_iff.1 hs).1
  rw [State.confirmStore_short hl hp hb hn]
  exact ((State.cutAndTold_cutTold (s.budgeted p voltage) p n timestamp voltage).rows (s := s.budgeted p voltage) ha hc
    he).duePass

include hs in
/-- The SHORTFALL report by what events and releases have lost. -/
theorem State.confirmStore_told : (s.budgeted p voltage).shortfallReport n timestamp voltage =
    .shortfall timestamp voltage (storeBudget p voltage) n
      (s.unspentSum - (s.confirmStore p timestamp voltage).unspentSum)
      (s.releaseSum - (s.confirmStore p timestamp voltage).releaseSum)
      (allEvents.filter fun i => decide (0 < (s.budgeted p voltage).eventCut n i)).length
      (allEvents.filter ((s.budgeted p voltage).reachedBy n)).length
      (allReleases.filter fun r => decide (((s.confirmStore p timestamp voltage).release r).map (·.amount) ≠
        (s.release r).map (·.amount))).length := by
  obtain ⟨hu, hr⟩ := s.budgeted_sums p voltage
  have hsums := State.confirmStore_sums timestamp hl hs hp hb hn
  have hrelease := State.confirmStore_releaseSum timestamp hl hp hb hn
  have hevents : min n s.unspentSum = s.unspentSum - (s.confirmStore p timestamp voltage).unspentSum := by omega
  have hreleases : n - s.unspentSum = s.releaseSum - (s.confirmStore p timestamp voltage).releaseSum := by omega
  rw [State.shortfallReport_eq (by omega), (State.confirmStore_stands timestamp hl hp hb hn).cut_count,
    State.eventsCut_reached_count, State.eventsCut_count, hu, hevents, hreleases]
  rfl

include hs in
theorem State.confirmStore_reports (hport : s.ring.port ≠ none) (hroom : s.ring.reports.length < 32) :
    ∃ closed, (s.confirmStore p timestamp voltage).ring.reports = s.ring.reports ++
        ⟨s.management.reportCounter, .shortfall timestamp voltage (storeBudget p voltage) n
          (s.unspentSum - (s.confirmStore p timestamp voltage).unspentSum)
          (s.releaseSum - (s.confirmStore p timestamp voltage).releaseSum)
          (allEvents.filter fun i => decide (0 < (s.budgeted p voltage).eventCut n i)).length
          (allEvents.filter ((s.budgeted p voltage).reachedBy n)).length
          (allReleases.filter fun r => decide (((s.confirmStore p timestamp voltage).release r).map (·.amount) ≠
            (s.release r).map (·.amount))).length⟩ :: closed ∧
      (∀ y ∈ closed, ∃ n i e, y = ⟨n, .eventClosed i e⟩) ∧
      ((∀ i e, s.entry i = some e → e.state = .closing → e.releaseWait = none) → closed = []) := by
  have htold := State.cutAndTold_cutTold (s.budgeted p voltage) p n timestamp voltage
  have hbusy : (s.budgeted p voltage).ring.port ≠ none := hport
  obtain ⟨closed, hclosed, hall⟩ := (State.cutConsequences_eases (State.eventsCut_nodup (s.budgeted p voltage) n)
    (s := (s.budgeted p voltage).cutAndTold p n timestamp voltage)).reports (by rwa [htold.port hbusy])
  have hreports := State.cutAndTold_reports (s := s.budgeted p voltage) hport hroom p n timestamp voltage
  rw [State.confirmStore_told timestamp hl hs hp hb hn] at hreports
  refine ⟨closed, ?_, fun y hy => (hall y hy).2, fun hnone => List.eq_nil_iff_forall_not_mem.2 fun y hy => ?_⟩
  · have ht := congrArg (fun u : State => u.ring.reports) (State.confirmStore_short hl hp hb hn timestamp)
    refine ht.trans (hclosed.trans ?_)
    rw [hreports, List.append_assoc]
    rfl
  · obtain ⟨i, -, e, he, hc, hw⟩ := (hall y hy).1
    obtain ⟨x, hx, rfl⟩ := htold.before i e he
    obtain ⟨hstate, -, hwait, -⟩ := x.cutAt_keeps ((s.budgeted p voltage).eventCut n i)
    rw [hwait, hnone i x hx (hstate ▸ hc)] at hw
    cases hw

end Shortfall

end Sys2Proof.Machine
end

section
/-! SUPPORT. The settlement of O44, clause by clause. -/

namespace Sys2Proof.Machine

section Taken
variable {s : State} {x : HandedStore} {rest : List HandedStore}

theorem State.storeTaken_sums (s : State) (x : HandedStore) (rest : List HandedStore) :
    (s.storeTaken x rest).unspentSum = s.unspentSum ∧ (s.storeTaken x rest).releaseSum = s.releaseSum :=
  ⟨State.unspentSum_of_events rfl, State.releaseSum_congr (Stands.amountOf (.of_eq rfl))⟩

theorem State.storeTaken_energySound (h : EnergySound s) (x : HandedStore) (rest : List HandedStore) :
    EnergySound (s.storeTaken x rest) := by
  have hcarries : Carries s (s.storeTaken x rest) := .of_pool rfl rfl rfl rfl rfl
  exact hcarries.conserves.energySound h

/-- What every confirmation leaves in the pool, and of the UNRESOLVED releases. -/
theorem State.storeTaken_confirmed (s : State) (x : HandedStore) (rest : List HandedStore) (p : StoreParameters) (voltage : Nat) :
    let t := (s.storeTaken x rest).confirmStore p x.timestamp voltage
    t.pool.budget = storeBudget p voltage ∧ t.pool.inEffect = some p ∧
      t.pool.storeState = .live ∧ t.pool.storeSilence = some (s.now + p.silenceTimeout) ∧
      t.pool.storeBaseline = some x.timestamp ∧ t.pool.charger = some x.charger ∧
      (t.pool.chargerFault = true ↔ s.pool.chargerFault = true ∨ x.charger = .fault) ∧ t.pool.passDue = true ∧
      t.pool.drawn = 0 ∧
      ((∀ i e, s.entry i = some e → e.releaseWait = none) → ∀ r y, s.release r = some y → y.state = .unresolved →
        t.release r = none ∧ ∀ c ∈ y.claims, ∀ e, t.entry c.event = some e → ∀ d ∈ e.claims, d.release ≠ r) := by
  intro t
  have hlive : (s.storeTaken x rest).StoreLive p voltage t := State.confirmStore_live _ p x.timestamp voltage
  have hfault : t.pool.chargerFault = (s.storeTaken x rest).pool.chargerFault := by simp [t]
  refine ⟨hlive.budget, hlive.inEffect, hlive.storeState, hlive.storeSilence, ?_, ?_, ?_, hlive.passDue, hlive.drawn, ?_⟩
  · simp [t, State.storeTaken]
  · simp [t, State.storeTaken]
  · rw [hfault]
    simp [State.storeTaken]
  · exact fun hwait r y hy hu => State.confirmStore_gone (s := s.storeTaken x rest) p x.timestamp voltage hwait hy hu

/-- The frame taken and confirmed, with Free set. -/
def State.storeSettled (s : State) (x : HandedStore) (rest : List HandedStore) (p : StoreParameters) (budget free : Nat) : State :=
  { s with
    handed.store := rest
    pool.storeBaseline := some x.timestamp
    pool.charger := some x.charger
    pool.chargerFault := s.pool.chargerFault || decide (x.charger = .fault)
    pool.inEffect := some p
    pool.budget := budget
    pool.drawn := 0
    pool.free := free
    pool.storeSilence := some (s.now + p.silenceTimeout) }

theorem State.storeTaken_coversLive (hl : s.pool.storeState = .live) (hp : ∀ r y, s.release r = some y → y.state = .pending)
    {p : StoreParameters} {voltage : Nat} (hb : s.unspentSum + s.releaseSum ≤ storeBudget p voltage) :
    (s.storeTaken x rest).confirmStore p x.timestamp voltage =
      (s.storeSettled x rest p (storeBudget p voltage) (storeBudget p voltage - (s.unspentSum + s.releaseSum))).duePass := by
  obtain ⟨hu, hr⟩ := s.storeTaken_sums x rest
  have hlive : (((s.storeTaken x rest).budgeted p voltage).withFree
      (storeBudget p voltage - (s.unspentSum + s.releaseSum))).pool.storeState = .live := hl
  rw [State.confirmStore_covered (s := s.storeTaken x rest) hp (by rwa [hu, hr]), hu, hr, State.enterLive_of_live hlive]
  rfl

theorem State.storeTaken_coversEntering (hl : s.pool.storeState ≠ .live)
    (hp : ∀ r y, s.release r = some y → y.state = .pending) {p : StoreParameters} {voltage : Nat}
    (hb : s.unspentSum + s.releaseSum ≤ storeBudget p voltage) :
    (s.storeTaken x rest).confirmStore p x.timestamp voltage =
      ((allEvents.foldl State.freeHeldOfStore { s.storeSettled x rest p (storeBudget p voltage)
          (storeBudget p voltage - (s.unspentSum + s.releaseSum)) with pool.storeState := .live }).report
        (.storeState s.pool.storeState .live .frame (storeBudget p voltage) (some (x.timestamp, voltage)))).duePass := by
  obtain ⟨hu, hr⟩ := s.storeTaken_sums x rest
  have hleft : (((s.storeTaken x rest).budgeted p voltage).withFree
      (storeBudget p voltage - (s.unspentSum + s.releaseSum))).pool.storeState ≠ .live := hl
  rw [State.confirmStore_covered (s := s.storeTaken x rest) hp (by rwa [hu, hr]), hu, hr, State.enterLive_of_left hleft]
  rfl

theorem State.storeTaken_dissolves (hl : s.pool.storeState = .live) {r : ReleaseIx} {y : Release} (hy : s.release r = some y)
    (hunresolved : y.state = .unresolved) (hn : ∀ n z, s.release n = some z → n ≠ r → z.state = .pending)
    {p : StoreParameters} {voltage : Nat} (hb : s.unspentSum + (s.releaseSum - y.amount) ≤ storeBudget p voltage) :
    (s.storeTaken x rest).confirmStore p x.timestamp voltage =
      (State.offerEntries ((y.claims.foldl (fun w c => w.settleBorrower c.event)
        (((s.storeSettled x rest p (storeBudget p voltage)
          (storeBudget p voltage - (s.unspentSum + (s.releaseSum - y.amount)))).duePass.claimsDropped r y).setRelease r
            none)).availabilityCheck y.stack)).duePass := by
  obtain ⟨hu, hr⟩ := s.storeTaken_sums x rest
  have hpool : (s.storeTaken x rest).withPool ((s.storeTaken x rest).settledPool p voltage y) =
      (s.storeSettled x rest p (storeBudget p voltage)
        (storeBudget p voltage - (s.unspentSum + (s.releaseSum - y.amount)))).duePass := by
    rw [State.settledPool, hu, hr]
    rfl
  rw [State.confirmStore_dissolves (s := s.storeTaken x rest) hl hy hunresolved hn (by rwa [hu, hr]), hpool]

end Taken

/-- Settles O44, each clause from the confirmation of the frame taken. -/
theorem storeConfirmed : Obligations.StoreConfirmed := by
  unfold Obligations.StoreConfirmed
  intro s x rest p hq hbank haddress hbase voltage budget
  have hexec : exec .storeFrame s = .next ((s.storeTaken x rest).confirmStore p x.timestamp voltage) :=
    State.storeFrame_confirms hq hbank haddress hbase
  refine ⟨⟨_, hexec, s.storeTaken_confirmed x rest p voltage⟩,
    fun hl hp hb => hexec.trans (congrArg Host.Outcome.next (State.storeTaken_coversLive hl hp hb)),
    fun hl hp hb => ?_,
    fun r y hl hy hunresolved hn hb => ?_, fun hl hs hp hc hb => ?_⟩
  · intro u freed told
    have hfreed : allEvents.foldl State.freeHeldOfStore { s.storeSettled x rest p (storeBudget p voltage)
        (storeBudget p voltage - (s.unspentSum + s.releaseSum)) with pool.storeState := .live } = freed := rfl
    have hconfirmed := State.storeTaken_coversEntering (x := x) (rest := rest) (voltage := voltage) hl hp hb
    have htold : freed.report (.storeState s.pool.storeState .live .frame (storeBudget p voltage)
        (some (x.timestamp, voltage))) = told := rfl
    rw [hfreed, htold] at hconfirmed
    clear_value told
    exact hexec.trans (congrArg Host.Outcome.next hconfirmed)
  · intro u dissolved settled
    have hdissolved : ((s.storeSettled x rest p (storeBudget p voltage)
        (storeBudget p voltage - (s.unspentSum + (s.releaseSum - y.amount)))).duePass.claimsDropped r y).setRelease r none =
          dissolved := rfl
    have hconfirmed := State.storeTaken_dissolves (x := x) (rest := rest) (voltage := voltage) hl hy hunresolved hn hb
    have hsettled : y.claims.foldl (fun w c => w.settleBorrower c.event) dissolved = settled := rfl
    rw [hdissolved, hsettled] at hconfirmed
    clear_value settled
    generalize (settled.availabilityCheck y.stack).offerEntries = offered at hconfirmed ⊢
    exact hexec.trans (congrArg Host.Outcome.next hconfirmed)
  · intro shortfall
    obtain ⟨hu, hr⟩ := s.storeTaken_sums x rest
    have hb' : storeBudget p voltage < (s.storeTaken x rest).unspentSum + (s.storeTaken x rest).releaseSum := by
      rw [hu, hr]
      exact hb
    have hn : (s.storeTaken x rest).unspentSum + (s.storeTaken x rest).releaseSum - storeBudget p voltage = shortfall := by
      rw [hu, hr]
      rfl
    have hs' := State.storeTaken_energySound hs x rest
    have hsums := State.confirmStore_sums (s := s.storeTaken x rest) x.timestamp hl hs' hp hb' hn
    have hreleaseSum := State.confirmStore_releaseSum (s := s.storeTaken x rest) x.timestamp hl hp hb' hn
    have hstands := State.confirmStore_stands (s := s.storeTaken x rest) x.timestamp hl hp hb' hn
    have hrows : ∀ i e, s.entry i = some e → _ := fun i e he =>
      State.confirmStore_rows (s := s.storeTaken x rest) x.timestamp hl hs' hp hb' hn hc (i := i) (e := e) he
    refine ⟨_, ((s.storeTaken x rest).budgeted p voltage).eventCut shortfall, hexec,
      State.confirmStore_free (s := s.storeTaken x rest) x.timestamp hl hp hb' hn, hsums, fun hpos => ?_, ?_, ?_⟩
    · rw [hu, hr] at hreleaseSum hn
      omega
    · rw [allEvents, sum_map_finRange, State.sum_eventCut, ((s.storeTaken x rest).budgeted_sums p voltage).1, hu]
    · intro zero
      refine ⟨fun i hi => ?_, fun i e he => ?_, fun r y hy => hstands.cut_releases hc hy, fun hport hroom => ?_⟩
      · exact Nat.le_zero.1 ((State.eventCut_le _ shortfall i).trans_eq (State.unspentOf_none hi))
      · obtain ⟨hbound, hahead, hshort, hstays, hfreed, hbypassed, hborrows, hends, hclosed⟩ := hrows i e he
        exact ⟨hbound, hahead, hshort, fun hz hh => ⟨hstays hz hh, fun _ => hfreed hz hh⟩, hbypassed, hborrows, hends,
          fun hz hh hw => (hclosed hz hh hw).fate⟩
      · have hreports := State.confirmStore_reports (s := s.storeTaken x rest) x.timestamp hl hs' hp hb' hn hport hroom
        rw [hu, hr] at hreports
        exact hreports

end Sys2Proof.Machine
end

section
/-! SUPPORT. The floor of an envelope at an elapsed time (R53), the judging of an accepted frame by the Envelope Unit (R55 to R62), and
the settlement of O29 and O30. -/

namespace Sys2Proof.Machine

/-! ## The floor (R53) -/

theorem EnvelopeRow.floorAt_of_first {e : EnvelopeRow} {t : Nat} {before after : List Breakpoint} {p : Breakpoint}
    (he : e.breakpoints = before ++ p :: after) (hb : ∀ q ∈ before, q.duration ≤ t) (hp : t < p.duration) :
    e.floorAt t = p.floor := by
  have hbefore : before.find? (fun q => decide (t < q.duration)) = none :=
    List.find?_eq_none.2 fun q hq => by simpa using hb q hq
  simp [EnvelopeRow.floorAt, he, List.find?_append, hbefore, hp]

theorem EnvelopeRow.floorAt_past {e : EnvelopeRow} {t : Nat} (h : ∀ p ∈ e.breakpoints, p.duration ≤ t) :
    e.floorAt t = e.continuousFloor := by
  have hnone : e.breakpoints.find? (fun q => decide (t < q.duration)) = none :=
    List.find?_eq_none.2 fun q hq => by simpa using h q hq
  simp [EnvelopeRow.floorAt, hnone]

theorem elapsedMillis_eq (later earlier : U32) :
    elapsedMillis later earlier = (later.toNat + 4294967296 - earlier.toNat) % 4294967296 / 1000 := by
  have := earlier.isLt
  rw [elapsedMillis, elapsedMicros, BitVec.toNat_sub]
  omega

/-- Settles O29, by the search through the breakpoints and the difference of the timestamps. -/
theorem floorAtElapsedTime : Obligations.FloorAtElapsedTime :=
  ⟨fun _ _ => ⟨fun _ _ _ => EnvelopeRow.floorAt_of_first, EnvelopeRow.floorAt_past⟩, elapsedMillis_eq⟩

/-! ## The frame taken (R55) -/

theorem State.envelopeJudge_passedOn {s : State} {f : AcceptedFrame} {rest : List AcceptedFrame}
    (h : s.handed.envelope = f :: rest) :
    exec (.envelopeJudge .passedOn) s = .next ({ s with handed.envelope := rest }.envelopeTakes f) := by
  simp only [exec, execEnvelopeJudge, h]

theorem State.envelopeTakes_idle {s : State} {f : AcceptedFrame} (h : (s.channel f.bus).openEvent = none) :
    s.envelopeTakes f = s := by
  simp only [State.envelopeTakes, h]

theorem State.envelopeTakes_open {s : State} {f : AcceptedFrame} {i : EventIx} {e : Event}
    (ho : (s.channel f.bus).openEvent = some i) (he : s.entry i = some e) :
    s.envelopeTakes f = if e.state.judged then s.judge i e f.frame else s := by
  simp only [State.envelopeTakes, ho, he]

theorem EventState.judged_iff {x : EventState} : x.judged = true ↔ x = .injecting ∨ x = .held ∨ x = .bypassed := by
  cases x <;> simp [EventState.judged]

/-! ## The residual (R56) -/

theorem State.residual_injected {s : State} {e : Event} {f : SenseFrame} {r : EffectiveReference}
    (hr : (s.view e.copy.stack).reported = .injecting) (hu : (s.view e.copy.stack).unresponsive = false)
    (he : (s.record e.copy.stack).inEffect = some r) : s.residual e f = f.volts.add r.volts := by
  simp [State.residual, hr, hu, he]

theorem State.residual_measured {s : State} {e : Event} {f : SenseFrame}
    (h : ∀ r, (s.view e.copy.stack).reported = .injecting → (s.view e.copy.stack).unresponsive = false →
      (s.record e.copy.stack).inEffect ≠ some r) : s.residual e f = f.volts := by
  cases he : (s.record e.copy.stack).inEffect with
  | none => simp [State.residual, he]
  | some r =>
    have hnot : ¬ ((s.view e.copy.stack).reported = .injecting ∧ ¬ (s.view e.copy.stack).unresponsive = true) :=
      fun hv => h r hv.1 (Bool.eq_false_iff.2 hv.2) he
    simp only [State.residual, if_neg hnot]

/-! ## The breach run (R57, R58) -/

section BreachRun
variable {e : Event}

theorem Event.nextBreachRun_above : e.nextBreachRun false = 0 := rfl

theorem Event.nextBreachRun_full (h : e.copy.envelope.breachConfirm ≤ e.breachRun) :
    e.nextBreachRun true = e.breachRun := by
  simp [Event.nextBreachRun, h]

theorem Event.nextBreachRun_short (h : e.breachRun < e.copy.envelope.breachConfirm) :
    e.nextBreachRun true = e.breachRun + 1 := by
  simp [Event.nextBreachRun, h]

theorem Event.confirmsBreach_iff {below : Bool} :
    e.confirmsBreach below = true ↔ below = true ∧ e.breachRun + 1 = e.copy.envelope.breachConfirm := by
  simp only [Event.confirmsBreach, Bool.and_eq_true, decide_eq_true_eq]
  exact ⟨fun h => ⟨h.1.1, h.2⟩, fun h => ⟨⟨h.1, by omega⟩, h.2⟩⟩

end BreachRun

/-! ## A frame judged (R57 to R62) -/

section Judged
variable {s : State} {i : EventIx} {e : Event} {f : SenseFrame} {square : Nat} {below : Bool}

theorem State.judge_unconfirmed (hsquare : (s.residual e f).minSquare = square)
    (hbelow : e.copy.envelope.undercut square (elapsedMillis f.timestamp e.start) = below)
    (h : ¬ (below = true ∧ e.breachRun + 1 = e.copy.envelope.breachConfirm)) :
    s.judge i e f = s.setEntry i (some (e.exposed square below)) := by
  rw [← Event.confirmsBreach_iff] at h
  simp only [State.judge, hsquare, hbelow, if_neg h]

/-- A breach of an entry that holds `x`: the mark, the alarm of the bus of the event `e` judged, and the policy of its copy. -/
theorem State.breach_setEntry (s : State) (i : EventIx) (e x : Event) :
    (s.setEntry i (some x)).breach i e =
      let marked := (s.setEntry i (some { x with marks := x.marks.add .breach })).addAlarm e.bus .breach
      if e.copy.policy = .abandon ∧ (e.state = .injecting ∨ e.state = .held) then marked.bypass i .abandoned false
      else marked := by
  simp only [State.breach, State.addMark, State.modEvent, State.entry_setEntry, if_true, State.setEntry_setEntry]

theorem State.judge_confirmed (hsquare : (s.residual e f).minSquare = square)
    (hbelow : e.copy.envelope.undercut square (elapsedMillis f.timestamp e.start) = true)
    (h : e.breachRun + 1 = e.copy.envelope.breachConfirm) :
    s.judge i e f = (s.setEntry i (some (e.exposed square true))).breach i e := by
  simp only [State.judge, hsquare, hbelow, if_pos (Event.confirmsBreach_iff.2 ⟨rfl, h⟩)]

end Judged

/-- Settles O30: the frames left alone, and the judged frame by its residual and by where it leaves the breach run. -/
theorem envelopeFrameTaken : Obligations.EnvelopeFrameTaken := by
  intro s f rest hq u
  have hexec : exec (.envelopeJudge .passedOn) s = .next (u.envelopeTakes f) := State.envelopeJudge_passedOn hq
  refine ⟨fun ho => ?_, fun i e ho he => ⟨fun hs => ?_, fun hs => ?_⟩⟩
  · rw [hexec, State.envelopeTakes_idle (s := u) ho]
  · have hnot : e.state.judged ≠ true := by
      rcases hs with h | h | h <;> simp [h, EventState.judged]
    rw [hexec, State.envelopeTakes_open (s := u) ho he, if_neg hnot]
  · intro v residual seen floor below confirm judged
    have hjudge : exec (.envelopeJudge .passedOn) s = .next (u.judge i e f.frame) := by
      rw [hexec, State.envelopeTakes_open (s := u) ho he, if_pos (EventState.judged_iff.2 hs)]
    have hseen : u.residual e f.frame = seen := by
      simp only [seen]
      split
      · next hr hu he => exact State.residual_injected (s := u) hr hu he
      · next h => exact State.residual_measured (s := u) fun r hr hu he => h r hr hu he
    have hsquare : (u.residual e f.frame).minSquare = seen.minSquare := congrArg _ hseen
    have hexposed : ∀ {b run}, e.nextBreachRun b = run → e.exposed seen.minSquare b = { judged with breachRun := run } := by
      rintro b _ rfl
      simp only [judged, Event.exposed]
      cases e.lowestResidual <;> rfl
    have habove : ¬ below → e.copy.envelope.undercut seen.minSquare (elapsedMillis f.frame.timestamp e.start) = false :=
      fun h => decide_eq_false h
    have hunder : below → e.copy.envelope.undercut seen.minSquare (elapsedMillis f.frame.timestamp e.start) = true :=
      fun h => decide_eq_true h
    clear_value seen
    refine ⟨fun h => ?_, fun h hrun => ?_, fun h hrun => ?_, fun h hrun => ?_⟩
    · rw [hjudge, State.judge_unconfirmed hsquare (habove h) (by simp), hexposed Event.nextBreachRun_above]
    · rw [hjudge, State.judge_unconfirmed hsquare (hunder h) (by omega), hexposed (Event.nextBreachRun_full hrun)]
    · rw [hjudge, State.judge_unconfirmed hsquare (hunder h) (by omega), hexposed (Event.nextBreachRun_short (by omega))]
    · intro breached
      have hbreach : u.judge i e f.frame = if e.copy.policy = .abandon ∧ (e.state = .injecting ∨ e.state = .held) then
          breached.bypass i .abandoned false else breached := by
        rw [State.judge_confirmed hsquare (hunder h) hrun, hexposed ((Event.nextBreachRun_short (by omega)).trans hrun)]
        exact State.breach_setEntry u i e _
      refine ⟨fun hkeep => ?_, fun hpolicy hstate => ?_⟩
      · rw [hjudge, hbreach, if_neg]
        rintro ⟨hpolicy, hstate⟩
        rcases hkeep with hk | hk
        · cases hk.symm.trans hpolicy
        · rcases hstate with hst | hst <;> cases hk.symm.trans hst
      · rw [hjudge, hbreach, if_pos ⟨hpolicy, hs.imp_right fun h => h.resolve_right hstate⟩]

end Sys2Proof.Machine
end

section
/-! SUPPORT. The fields of the loads: their ranges as the checks take them in order, and the rows and the set that a request's bytes carry
(R50, R175, R177). -/

namespace Sys2Proof.Machine

/-! ## Ranges in order -/

/-- The checks of a list of ranges in order, the first at `place`. -/
def rangeChecks (place : Nat) : List FieldRange → List (Option Reason)
  | [] => []
  | x :: rest => checkRange place x.value x.low x.high :: rangeChecks (place + 1) rest

theorem checkRange_of_not {place value low high : Nat} (h : ¬ (low ≤ value ∧ value ≤ high)) :
    checkRange place value low high = some (.range place value) := if_neg h

theorem rangeChecks_append (place : Nat) (l m : List FieldRange) :
    rangeChecks place (l ++ m) = rangeChecks place l ++ rangeChecks (place + l.length) m := by
  induction l generalizing place with
  | nil => rfl
  | cons x rest ih =>
    rw [List.cons_append, rangeChecks, ih, List.length_cons, Nat.add_right_comm, Nat.add_assoc]
    rfl

theorem firstRefusal_none {place : Nat} {ranges : List FieldRange} (h : ∀ x ∈ ranges, x.holds) :
    firstRefusal (rangeChecks place ranges) = none := by
  induction ranges generalizing place with
  | nil => rfl
  | cons x rest ih =>
    rw [List.forall_mem_cons] at h
    rw [rangeChecks, checkRange_of_le h.1, firstRefusal, ih h.2]

theorem firstRefusal_first {place : Nat} {before after : List FieldRange} {x : FieldRange}
    (hb : ∀ y ∈ before, y.holds) (hx : ¬ x.holds) :
    firstRefusal (rangeChecks place (before ++ x :: after)) = some (.range (place + before.length) x.value) := by
  induction before generalizing place with
  | nil =>
    rw [List.nil_append, rangeChecks, checkRange_of_not hx]
    rfl
  | cons y rest ih =>
    rw [List.forall_mem_cons] at hb
    rw [List.cons_append, rangeChecks, checkRange_of_le hb.1, firstRefusal, ih hb.2, List.length_cons]
    congr 2
    omega

/-- The ranges of a LOAD BUS ROW with valid yes (section 10.1). -/
def busRanges (f : List Byte) : List FieldRange :=
  [⟨byteAt f 2, 1, 62⟩, ⟨byteAt f 3, 1, 62⟩, ⟨wordAt f 4, 50, 600⟩, ⟨byteAt f 6, 0, 3⟩, ⟨byteAt f 7, 0, 15⟩,
    ⟨wordAt f 8, 500, 980⟩, ⟨wordAt f 10, wordAt f 8 + 1, 995⟩, ⟨wordAt f 12, 1050, 1500⟩, ⟨byteAt f 14, 1, 16⟩,
    ⟨byteAt f 15, 1, 64⟩, ⟨wordAt f 16, 500, 20000⟩, ⟨wordAt f 18, 1, 4000⟩, ⟨byteAt f 20, 0, 1⟩, ⟨byteAt f 21, 0, 1⟩,
    ⟨wordAt f 22, 100, 600⟩, ⟨longAt f 24, 1, 4294967295⟩, ⟨byteAt f 28, 0, if byteAt f 28 = 255 then 255 else 7⟩]

theorem busRowChecks_eq (f : List Byte) : busRowChecks f = firstRefusal (rangeChecks 2 (busRanges f)) := by
  have hcapture : (if byteAt f 28 = 255 then none else checkRange 18 (byteAt f 28) 0 7) =
      checkRange 18 (byteAt f 28) 0 (if byteAt f 28 = 255 then 255 else 7) := by
    split
    · next h => rw [checkRange_of_le (by omega)]
    · rfl
  rw [busRowChecks, hcapture]
  rfl

/-- The ranges of a LOAD STORE PARAMETERS with valid yes (section 10.1). -/
def storeRanges (f : List Byte) : List FieldRange :=
  [⟨byteAt f 1, 1, 62⟩, ⟨wordAt f 2, 1, 65535⟩, ⟨wordAt f 4, 0, 16000⟩, ⟨longAt f 6, 0, 4294967295⟩,
    ⟨longAt f 10, 1000, 100000⟩, ⟨longAt f 14, 1, 1000000⟩]

theorem storeChecks_eq (f : List Byte) : storeChecks f = firstRefusal (rangeChecks 1 (storeRanges f)) := rfl

/-- The ranges of a LOAD ENVELOPE ROW that carries these breakpoints (R50). -/
def envelopeRanges (f : List Byte) (points : List Breakpoint) : List FieldRange :=
  [⟨byteAt f 0, 0, 15⟩, ⟨byteAt f 1, 2, 8⟩] ++ breakpointRanges 1 0 points ++
    [⟨wordAt f (2 + 4 * byteAt f 1), lastFloor points, 1000⟩, ⟨byteAt f (4 + 4 * byteAt f 1), 0, 100⟩,
      ⟨byteAt f (5 + 4 * byteAt f 1), 1, 8⟩]

theorem breakpointChecks_eq (place duration floor : Nat) (l : List Breakpoint) :
    breakpointChecks place duration floor l = rangeChecks place (breakpointRanges duration floor l) := by
  induction l generalizing place duration floor with
  | nil => rfl
  | cons b rest ih => rw [breakpointChecks, ih]; rfl

theorem length_breakpointRanges (duration floor : Nat) (l : List Breakpoint) :
    (breakpointRanges duration floor l).length = 2 * l.length := by
  induction l generalizing duration floor with
  | nil => rfl
  | cons b rest ih =>
    rw [breakpointRanges, List.length_cons, List.length_cons, ih, List.length_cons]
    omega

theorem breakpointsAt_eq (f : List Byte) (start n : Nat) : breakpointsAt f start n =
    (List.range n).map fun j => ⟨wordAt f (start + 4 * j), wordAt f (start + 2 + 4 * j)⟩ := by
  induction n generalizing start with
  | zero => rfl
  | succ n ih =>
    rw [breakpointsAt, ih, List.range_succ_eq_map, List.map_cons, List.map_map]
    refine congrArg₂ _ rfl (List.map_congr_left fun j _ => ?_)
    simp only [Function.comp_apply]
    congr 2 <;> omega

theorem length_breakpointsAt (f : List Byte) (start n : Nat) : (breakpointsAt f start n).length = n := by
  rw [breakpointsAt_eq, List.length_map, List.length_range]

theorem envelopeRowChecks_eq (f : List Byte) :
    envelopeRowChecks f = firstRefusal (rangeChecks 0 (envelopeRanges f (breakpointsAt f 2 (byteAt f 1)))) := by
  rw [envelopeRanges, rangeChecks_append, rangeChecks_append, List.length_append, length_breakpointRanges,
    length_breakpointsAt, ← breakpointChecks_eq]
  have hplace : 0 + ([(⟨byteAt f 0, 0, 15⟩ : FieldRange), ⟨byteAt f 1, 2, 8⟩].length + 2 * byteAt f 1) = 2 + 2 * byteAt f 1 :=
    Nat.zero_add _
  rw [hplace, Nat.zero_add]
  simp only [rangeChecks, envelopeRowChecks, envelopeRowOf, Nat.add_right_comm]
  rfl

/-! ## Bytes written and read -/

theorem toNat_byte {n : Nat} (h : n < 256) : (BitVec.ofNat 8 n).toNat = n := by
  rw [BitVec.toNat_ofNat, Nat.mod_eq_of_lt h]

theorem toNat_word {n : Nat} (h : n < 65536) : (BitVec.ofNat 8 n).toNat + 256 * (BitVec.ofNat 8 (n / 256)).toNat = n := by
  simp only [BitVec.toNat_ofNat]
  omega

theorem toNat_long {n : Nat} (h : n < 4294967296) :
    (BitVec.ofNat 8 n).toNat + 256 * (BitVec.ofNat 8 (n / 256)).toNat +
      65536 * ((BitVec.ofNat 8 (n / 65536)).toNat + 256 * (BitVec.ofNat 8 (n / 65536 / 256)).toNat) = n := by
  simp only [BitVec.toNat_ofNat]
  omega

theorem byteAt_append (l m : List Byte) (k : Nat) : byteAt (l ++ m) (l.length + k) = byteAt m k := by
  rw [byteAt, List.getD_append_right _ _ _ _ (Nat.le_add_right _ _), Nat.add_sub_cancel_left, byteAt]

theorem wordAt_append (l m : List Byte) (k : Nat) : wordAt (l ++ m) (l.length + k) = wordAt m k := by
  rw [wordAt, Nat.add_assoc, byteAt_append, byteAt_append, wordAt]

theorem stationAt_address (k : Station) : stationAt k.address = k := by
  ext
  simp [stationAt, Station.address]

theorem Station.address_range (k : Station) : 1 ≤ k.address ∧ k.address ≤ 62 := by
  have := k.isLt
  simp only [Station.address]
  omega

/-! ## Bus rows -/

/-- The byte that stands for a row's capture channel, NONE coded 255. -/
def captureByte : Option CaptureIx → Nat
  | none => 255
  | some k => k.val

theorem captureAt?_captureByte (c : Option CaptureIx) : captureAt? (captureByte c) = c := by
  cases c with
  | none => exact captureAt?_of_lt (by decide)
  | some k => exact captureAt?_of_val rfl

/-- The fields of a LOAD BUS ROW from its third on are those of a row. -/
structure BusRow.CarriedBy (r : BusRow) (f : List Byte) : Prop where
  head : byteAt f 2 = r.head.address
  stack : byteAt f 3 = r.stack.address
  nominal : wordAt f 4 = r.nominal
  cls : byteAt f 6 = r.cls
  envelope : byteAt f 7 = r.envelope.val
  sag : wordAt f 8 = r.sagThreshold
  recovery : wordAt f 10 = r.recoveryThreshold
  swell : wordAt f 12 = r.swellThreshold
  confirm : byteAt f 14 = r.confirmCount
  recover : byteAt f 15 = r.recoverCount
  silence : wordAt f 16 = r.silenceTimeout
  fault : wordAt f 18 = r.faultLimit
  method : byteAt f 20 = r.method.code
  policy : byteAt f 21 = r.policy.code
  injection : wordAt f 22 = r.injectionLimit
  cap : longAt f 24 = r.grantCap
  capture : byteAt f 28 = captureByte r.capture

theorem Method.code_le (m : Method) : m.code ≤ 1 := by cases m <;> decide

theorem methodOf_code (m : Method) : methodOf m.code = m := by cases m <;> rfl

theorem BreachPolicy.code_le (p : BreachPolicy) : p.code ≤ 1 := by cases p <;> decide

theorem policyOf_code (p : BreachPolicy) : policyOf p.code = p := by cases p <;> rfl

theorem captureByte_range (c : Option CaptureIx) : captureByte c ≤ if captureByte c = 255 then 255 else 7 := by
  cases c with
  | none => decide
  | some k =>
    have := k.isLt
    rw [captureByte]
    split <;> omega

theorem captureByte_lt (c : Option CaptureIx) : captureByte c < 256 := by
  have := captureByte_range c
  split at this <;> omega

theorem putCaptureChoice_eq (c : Option CaptureIx) : putCaptureChoice c = put1 (captureByte c) := by
  cases c <;> rfl

theorem BusRow.carriedBy_put {r : BusRow} (h : r.InRange) (i : Byte) : r.CarriedBy ([i, 1] ++ putBusRow r) := by
  obtain ⟨hnominal, hcls, hsag, hrecovery, hswell, hconfirm, hrecover, hsilence, hfault, hinjection, hcap⟩ := h
  have hhead := Station.address_range r.head
  have hstack := Station.address_range r.stack
  have henvelope := r.envelope.isLt
  have hmethod := r.method.code_le
  have hpolicy := r.policy.code_le
  simp only [putBusRow, putCaptureChoice_eq, put4, put2, put1, List.cons_append, List.nil_append]
  exact {
    head := toNat_byte (by omega)
    stack := toNat_byte (by omega)
    nominal := toNat_word (by omega)
    cls := toNat_byte (by omega)
    envelope := toNat_byte (by omega)
    sag := toNat_word (by omega)
    recovery := toNat_word (by omega)
    swell := toNat_word (by omega)
    confirm := toNat_byte (by omega)
    recover := toNat_byte (by omega)
    silence := toNat_word (by omega)
    fault := toNat_word (by omega)
    method := toNat_byte (by omega)
    policy := toNat_byte (by omega)
    injection := toNat_word (by omega)
    cap := toNat_long (by omega)
    capture := toNat_byte (captureByte_lt _) }

theorem BusRow.CarriedBy.busRowOf_eq {r : BusRow} {f : List Byte} (h : r.CarriedBy f) : busRowOf f = r := by
  obtain ⟨hhead, hstack, hnominal, hcls, henvelope, hsag, hrecovery, hswell, hconfirm, hrecover, hsilence, hfault, hmethod,
    hpolicy, hinjection, hcap, hcapture⟩ := h
  have hix : Fin.ofNat 16 r.envelope.val = r.envelope := Fin.ofNat_val_eq_self _
  simp only [busRowOf, hhead, hstack, hnominal, hcls, henvelope, hsag, hrecovery, hswell, hconfirm, hrecover, hsilence, hfault,
    hmethod, hpolicy, hinjection, hcap, hcapture, stationAt_address, hix, methodOf_code, policyOf_code,
    captureAt?_captureByte]

theorem BusRow.CarriedBy.ranges {r : BusRow} {f : List Byte} (h : r.CarriedBy f) (hr : r.InRange) :
    ∀ x ∈ busRanges f, x.holds := by
  have henvelope : r.envelope.val ≤ 15 := by omega
  simp only [busRanges, h.head, h.stack, h.nominal, h.cls, h.envelope, h.sag, h.recovery, h.swell, h.confirm, h.recover,
    h.silence, h.fault, h.method, h.policy, h.injection, h.cap, h.capture, List.forall_mem_cons, FieldRange.holds]
  exact ⟨Station.address_range r.head, Station.address_range r.stack, hr.nominal, ⟨Nat.zero_le _, hr.cls⟩,
    ⟨Nat.zero_le _, henvelope⟩, hr.sag, hr.recovery, hr.swell, hr.confirm, hr.recover, hr.silence, hr.fault, ⟨Nat.zero_le _, r.method.code_le⟩,
    ⟨Nat.zero_le _, r.policy.code_le⟩, hr.injection, hr.cap, ⟨Nat.zero_le _, captureByte_range _⟩, List.forall_mem_nil _⟩

/-! ## Store Parameters -/

/-- The fields of a LOAD STORE PARAMETERS from its second on are those of a set. -/
structure StoreParameters.CarriedBy (p : StoreParameters) (f : List Byte) : Prop where
  head : byteAt f 1 = p.head.address
  capacitance : wordAt f 2 = p.capacitance
  floor : wordAt f 4 = p.floorVoltage
  reserve : longAt f 6 = p.reserve
  silence : longAt f 10 = p.silenceTimeout
  minimum : longAt f 14 = p.minimumGrant

theorem StoreParameters.carriedBy_put {p : StoreParameters} (h : p.InRange) : p.CarriedBy ([1] ++ putStore p) := by
  obtain ⟨hcapacitance, hfloor, hreserve, hsilence, hminimum⟩ := h
  have hhead := Station.address_range p.head
  simp only [putStore, put4, put2, put1, List.cons_append, List.nil_append]
  exact {
    head := toNat_byte (by omega)
    capacitance := toNat_word (by omega)
    floor := toNat_word (by omega)
    reserve := toNat_long (by omega)
    silence := toNat_long (by omega)
    minimum := toNat_long (by omega) }

theorem StoreParameters.CarriedBy.storeOf_eq {p : StoreParameters} {f : List Byte} (h : p.CarriedBy f) : storeOf f = p := by
  obtain ⟨hhead, hcapacitance, hfloor, hreserve, hsilence, hminimum⟩ := h
  simp only [storeOf, hhead, hcapacitance, hfloor, hreserve, hsilence, hminimum, stationAt_address]

theorem StoreParameters.CarriedBy.ranges {p : StoreParameters} {f : List Byte} (h : p.CarriedBy f) (hp : p.InRange) :
    ∀ x ∈ storeRanges f, x.holds := by
  simp only [storeRanges, h.head, h.capacitance, h.floor, h.reserve, h.silence, h.minimum, List.forall_mem_cons,
    FieldRange.holds]
  exact ⟨Station.address_range p.head, hp.capacitance, ⟨Nat.zero_le _, hp.floor⟩, ⟨Nat.zero_le _, hp.reserve⟩, hp.silence,
    hp.minimum, List.forall_mem_nil _⟩

/-! ## Envelope rows -/

theorem breakpointRanges_hold {duration floor : Nat} {l : List Breakpoint} (h : breakpointsRise duration floor l) :
    ∀ x ∈ breakpointRanges duration floor l, x.holds := by
  induction l generalizing duration floor with
  | nil => exact List.forall_mem_nil _
  | cons b rest ih =>
    obtain ⟨hd, hd', hf, hf', hrest⟩ := h
    exact List.forall_mem_cons.2 ⟨⟨hd, hd'⟩, List.forall_mem_cons.2 ⟨⟨hf, hf'⟩, ih hrest⟩⟩

theorem breakpointsRise_bound {duration floor : Nat} {l : List Breakpoint} (h : breakpointsRise duration floor l) :
    ∀ b ∈ l, b.duration ≤ 10000 ∧ b.floor ≤ 1000 := by
  induction l generalizing duration floor with
  | nil => exact List.forall_mem_nil _
  | cons b rest ih =>
    obtain ⟨-, hd, -, hf, hrest⟩ := h
    exact List.forall_mem_cons.2 ⟨⟨hd, hf⟩, ih hrest⟩

/-- The breakpoints written one after another are read back. -/
theorem breakpointsAt_put (before after : List Byte) {l : List Breakpoint}
    (h : ∀ b ∈ l, b.duration ≤ 10000 ∧ b.floor ≤ 1000) :
    breakpointsAt (before ++ (l.flatMap (fun b => put2 b.duration ++ put2 b.floor) ++ after)) before.length l.length = l := by
  induction l generalizing before with
  | nil => rfl
  | cons b rest ih =>
    obtain ⟨⟨hduration, hfloor⟩, hrest⟩ := List.forall_mem_cons.1 h
    have hnext := ih (before ++ (put2 b.duration ++ put2 b.floor)) hrest
    rw [List.append_assoc, List.length_append] at hnext
    rw [List.flatMap_cons, List.append_assoc, List.length_cons, breakpointsAt]
    refine congrArg₂ _ ?_ hnext
    rw [wordAt_append, show before.length = before.length + 0 from rfl, wordAt_append]
    exact congrArg₂ _ (toNat_word (by omega)) (toNat_word (by omega))

/-- The fields of a LOAD ENVELOPE ROW from its second on are those of a row. -/
structure EnvelopeRow.CarriedBy (e : EnvelopeRow) (f : List Byte) : Prop where
  count : byteAt f 1 = e.breakpoints.length
  points : breakpointsAt f 2 e.breakpoints.length = e.breakpoints
  continuous : wordAt f (2 + 4 * e.breakpoints.length) = e.continuousFloor
  margin : byteAt f (4 + 4 * e.breakpoints.length) = e.margin
  confirm : byteAt f (5 + 4 * e.breakpoints.length) = e.breachConfirm

theorem length_putBreakpoints (l : List Breakpoint) :
    (l.flatMap fun b => put2 b.duration ++ put2 b.floor).length = 4 * l.length := by
  induction l with
  | nil => rfl
  | cons b rest ih =>
    rw [List.flatMap_cons, List.length_append, ih, List.length_cons]
    simp only [put2, put1, List.length_append, List.length_cons, List.length_nil]
    omega

theorem putEnvelope_eq (e : EnvelopeRow) (i : Byte) : [i] ++ putEnvelope e =
    ([i, BitVec.ofNat 8 e.breakpoints.length] ++ e.breakpoints.flatMap fun b => put2 b.duration ++ put2 b.floor) ++
      (put2 e.continuousFloor ++ put1 e.margin ++ put1 e.breachConfirm) := by
  simp only [putEnvelope, putList, put1, List.append_assoc, List.cons_append, List.nil_append]

theorem EnvelopeRow.carriedBy_put {e : EnvelopeRow} (h : e.InRange) (i : Byte) : e.CarriedBy ([i] ++ putEnvelope e) := by
  obtain ⟨hcount, hrising, hcontinuous, hmargin, hconfirm⟩ := h
  have hplace : ∀ k, 2 + k + 4 * e.breakpoints.length = ([i, BitVec.ofNat 8 e.breakpoints.length] ++
      e.breakpoints.flatMap fun b => put2 b.duration ++ put2 b.floor).length + k := fun k => by
    rw [List.length_append, length_putBreakpoints, List.length_cons, List.length_cons, List.length_nil]
    omega
  rw [putEnvelope_eq]
  refine ⟨toNat_byte (by omega), ?_, ?_, ?_, ?_⟩
  · rw [List.append_assoc]
    exact breakpointsAt_put _ _ (breakpointsRise_bound hrising)
  · rw [hplace 0, wordAt_append]
    exact toNat_word (by omega)
  · rw [hplace 2, byteAt_append]
    exact toNat_byte (by omega)
  · rw [hplace 3, byteAt_append]
    exact toNat_byte (by omega)

theorem EnvelopeRow.CarriedBy.envelopeRowOf_eq {e : EnvelopeRow} {f : List Byte} (h : e.CarriedBy f) :
    envelopeRowOf f = e := by
  obtain ⟨hcount, hpoints, hcontinuous, hmargin, hconfirm⟩ := h
  simp only [envelopeRowOf, hcount, hpoints, hcontinuous, hmargin, hconfirm]

theorem EnvelopeRow.CarriedBy.ranges {e : EnvelopeRow} {f : List Byte} (h : e.CarriedBy f) (he : e.InRange)
    (hi : byteAt f 0 ≤ 15) : ∀ x ∈ envelopeRanges f (breakpointsAt f 2 (byteAt f 1)), x.holds := by
  rw [envelopeRanges, h.count, h.points, h.continuous, h.margin, h.confirm, List.forall_mem_append, List.forall_mem_append]
  refine ⟨⟨?_, breakpointRanges_hold he.rising⟩, ?_⟩
  · simp only [List.forall_mem_cons, FieldRange.holds]
    exact ⟨⟨Nat.zero_le _, hi⟩, he.count, List.forall_mem_nil _⟩
  · simp only [List.forall_mem_cons, FieldRange.holds]
    exact ⟨he.continuous, ⟨Nat.zero_le _, he.margin⟩, he.confirm, List.forall_mem_nil _⟩

end Sys2Proof.Machine
end

section
/-! SUPPORT. The loads (R50, R51, R174 to R177): the bank check, the address check, each load as its fields carry a row or a set or fail a
range, and the settlement of O55. -/

namespace Sys2Proof.Machine

/-! ## The bank check (R174) -/

theorem State.checkBank_settled {s : State} (h : ∀ c, (s.channel c).bankInUse = s.banks.active) : s.checkBank = none := by
  refine if_neg fun hused => ?_
  obtain ⟨c, -, hc⟩ := List.any_eq_true.1 hused
  exact BankIx.other_ne _ ((of_decide_eq_true hc).symm.trans (h c))

theorem BankIx.eq_other {n m : BankIx} (h : n ≠ m) : n = BankIx.other m := by
  revert n m
  decide

theorem State.checkBank_used {s : State} (h : ¬ ∀ c, (s.channel c).bankInUse = s.banks.active) :
    s.checkBank = some .bank := by
  obtain ⟨c, hc⟩ := not_forall.1 h
  exact if_pos (List.any_eq_true.2 ⟨c, List.mem_finRange c, decide_eq_true (BankIx.eq_other hc)⟩)

/-! ## The address check (R176) -/

theorem BusRow.names_iff {r : BusRow} {k : Station} : r.names k = true ↔ r.head = k ∨ r.stack = k := by
  simp [BusRow.names]

theorem BusRow.meets_iff {r q : BusRow} : r.meets q = true ↔ r.Shares q := by
  rw [BusRow.meets, Bool.or_eq_true, BusRow.names_iff, BusRow.names_iff, BusRow.Shares]
  tauto

theorem Bank.rowConflicts_iff {bank : Bank} {b : Bus} {r : BusRow} : bank.rowConflicts b r = true ↔ ¬ bank.RowFits b r := by
  rw [Bank.rowConflicts, Bool.or_eq_true, Bool.or_eq_true, decide_eq_true_eq, List.any_eq_true]
  constructor
  · rintro ((hself | ⟨c, -, hc⟩) | hp) ⟨hne, hrows, hstore⟩
    · exact hne hself
    · split at hc
      · next q hq =>
        rw [Bool.and_eq_true, decide_eq_true_eq, BusRow.meets_iff] at hc
        exact hrows c q hc.1 hq hc.2
      · cases hc
    · split at hp
      · next p hq => exact (BusRow.names_iff.1 hp).elim (fun h => (hstore p hq).1 h.symm) fun h => (hstore p hq).2 h.symm
      · cases hp
  · refine fun hfits => by_contra fun hno => hfits ⟨fun h => hno (.inl (.inl h)), fun c q hcb hq hshares => ?_, fun p hp => ?_⟩
    · exact hno (.inl (.inr ⟨c, List.mem_finRange c, by simp only [hq, BusRow.meets_iff.2 hshares, hcb, ne_eq,
        not_false_eq_true, decide_true, Bool.and_self]⟩))
    · have hfree : ¬ r.names p.head = true := fun h => hno (.inr (by simp only [hp, h]))
      rw [BusRow.names_iff, not_or] at hfree
      exact ⟨fun h => hfree.1 h.symm, fun h => hfree.2 h.symm⟩

theorem Bank.storeConflicts_iff {bank : Bank} {p : StoreParameters} : bank.storeConflicts p = true ↔ ¬ bank.StoreFits p := by
  rw [Bank.storeConflicts, List.any_eq_true]
  constructor
  · rintro ⟨c, -, hc⟩ hfits
    split at hc
    · next q hq => exact (BusRow.names_iff.1 hc).elim (fun h => (hfits c q hq).1 h.symm) fun h => (hfits c q hq).2 h.symm
    · cases hc
  · refine fun hfits => by_contra fun hno => hfits fun c q hq => ?_
    have hfree : ¬ q.names p.head = true := fun h => hno ⟨c, List.mem_finRange c, by simp only [hq, h]⟩
    rw [BusRow.names_iff, not_or] at hfree
    exact ⟨fun h => hfree.1 h.symm, fun h => hfree.2 h.symm⟩

/-! ## Lengths (R183) -/

theorem busRowLength_none {f : List Byte} (h : byteAt f 1 = 0 ∧ f.length = 2 ∨ byteAt f 1 = 1 ∧ f.length = 29 ∨
    1 < byteAt f 1 ∧ 2 ≤ f.length) : busRowLength f = none := by
  rcases h with ⟨hn, hl⟩ | ⟨hn, hl⟩ | ⟨hn, hl⟩
  · simp [busRowLength, hn, checkLength, hl]
  · simp [busRowLength, hn, checkLength, hl]
  · unfold busRowLength
    split
    · omega
    · omega
    · exact if_neg (by omega)

theorem envelopeLength_none {f : List Byte}
    (h : 2 ≤ f.length ∧ (2 ≤ byteAt f 1 → byteAt f 1 ≤ 8 → f.length = 6 + 4 * byteAt f 1)) : envelopeLength f = none := by
  obtain ⟨hl, hcount⟩ := h
  rw [envelopeLength, if_neg (by omega)]
  split
  · next hn => exact if_pos (hcount hn.1 hn.2)
  · rfl

theorem storeLength_none {f : List Byte} (h : byteAt f 0 = 0 ∧ f.length = 1 ∨ byteAt f 0 = 1 ∧ f.length = 18 ∨
    1 < byteAt f 0 ∧ 1 ≤ f.length) : storeLength f = none := by
  rcases h with ⟨hn, hl⟩ | ⟨hn, hl⟩ | ⟨hn, hl⟩
  · simp [storeLength, hn, checkLength, hl]
  · simp [storeLength, hn, checkLength, hl]
  · unfold storeLength
    split
    · omega
    · omega
    · exact if_neg (by omega)

theorem length_putBusRow (r : BusRow) : (putBusRow r).length = 27 := by
  simp only [putBusRow, putCaptureChoice_eq, put4, put2, put1, List.length_append, List.length_cons, List.length_nil]

theorem length_putStore (p : StoreParameters) : (putStore p).length = 17 := by
  simp only [putStore, put4, put2, put1, List.length_append, List.length_cons, List.length_nil]

theorem length_putEnvelope (e : EnvelopeRow) : (putEnvelope e).length = 5 + 4 * e.breakpoints.length := by
  rw [putEnvelope, putList]
  simp only [List.length_append, length_putBreakpoints]
  simp only [put2, put1, List.length_append, List.length_cons, List.length_nil]
  omega

/-! ## LOAD BUS ROW (R174 to R176) -/

section BusRowLoad
variable {r : Request} {u : State} {b : Bus}

theorem loadBusRow_used (hl : busRowLength r.fields = none) (hs : u.checkBank = some .bank) :
    loadBusRow r u = (u, .refused .bank) := by
  rw [loadBusRow, hl, hs]
  rfl

theorem loadBusRow_unnumbered (hl : busRowLength r.fields = none) (hs : u.checkBank = none) (h : 23 < byteAt r.fields 0) :
    loadBusRow r u = (u, .refused (.range 0 (byteAt r.fields 0))) := by
  simp only [loadBusRow, hl, hs, State.unless_none, busAt?_of_lt h]
  rfl

theorem loadBusRow_numbered (hl : busRowLength r.fields = none) (hs : u.checkBank = none) (hb : b.val = byteAt r.fields 0) :
    loadBusRow r u = u.unless (checkRange 1 (byteAt r.fields 1) 0 1) (u.loadRowOf r.fields b) := by
  simp only [loadBusRow, hl, hs, State.unless_none, busAt?_of_val hb]

theorem State.loadRowOf_none {f : List Byte} (h : byteAt f 1 = 0) :
    u.loadRowOf f b = (u.putStandbyRow b none, .done .nothing) := if_pos h

theorem State.loadRowOf_some {f : List Byte} (h : byteAt f 1 = 1) :
    u.loadRowOf f b = u.unless (firstRefusal (rangeChecks 2 (busRanges f)))
      (if u.standbyBank.rowConflicts b (busRowOf f) then u.refuse (.conflict none)
        else (u.putStandbyRow b (some (busRowOf f))).done .nothing) := by
  rw [State.loadRowOf, if_neg (by omega), busRowChecks_eq]

theorem loadBusRow_first {before after : List FieldRange} {x : FieldRange} (hl : busRowLength r.fields = none)
    (hs : u.checkBank = none) (h : byteAt r.fields 0 ≤ 23) (hn : byteAt r.fields 1 = 1)
    (hx : busRanges r.fields = before ++ x :: after) (hb : ∀ y ∈ before, y.holds) (hnot : ¬ x.holds) :
    loadBusRow r u = (u, .refused (.range (2 + before.length) x.value)) := by
  rw [loadBusRow_numbered (b := ⟨byteAt r.fields 0, by omega⟩) hl hs rfl, checkRange_of_le (by omega), State.unless_none,
    State.loadRowOf_some hn, hx, firstRefusal_first hb hnot, State.unless_some]

variable {i : Byte}

theorem loadBusRow_of_none (hi : i.toNat = b.val) (hf : r.fields = [i, 0]) (hs : u.checkBank = none) :
    loadBusRow r u = (u.putStandbyRow b none, .done .nothing) := by
  have hn : byteAt r.fields 1 = 0 := by rw [hf]; rfl
  have hb : b.val = byteAt r.fields 0 := by rw [hf]; exact hi.symm
  rw [loadBusRow_numbered (busRowLength_none (.inl ⟨hn, by rw [hf]; rfl⟩)) hs hb, checkRange_of_le (by omega),
    State.unless_none, State.loadRowOf_none hn]

theorem busRowLength_of_row {row : BusRow} (hf : r.fields = [i, 1] ++ putBusRow row) : busRowLength r.fields = none :=
  busRowLength_none (.inr (.inl ⟨by rw [hf]; rfl, by rw [hf, List.length_append, length_putBusRow]; rfl⟩))

theorem loadBusRow_of_some {row : BusRow} (hi : i.toNat = b.val) (hin : row.InRange)
    (hf : r.fields = [i, 1] ++ putBusRow row) (hs : u.checkBank = none) :
    loadBusRow r u = if u.standbyBank.rowConflicts b row then (u, .refused (.conflict none))
      else (u.putStandbyRow b (some row), .done .nothing) := by
  have hn : byteAt r.fields 1 = 1 := by rw [hf]; rfl
  have hb : b.val = byteAt r.fields 0 := by rw [hf]; exact hi.symm
  have hcarried : row.CarriedBy r.fields := hf ▸ BusRow.carriedBy_put hin i
  rw [loadBusRow_numbered (busRowLength_of_row hf) hs hb, checkRange_of_le (by omega), State.unless_none,
    State.loadRowOf_some hn, firstRefusal_none (hcarried.ranges hin), State.unless_none, hcarried.busRowOf_eq]
  rfl

end BusRowLoad

/-! ## LOAD ENVELOPE ROW (R50, R51, R174) -/

section EnvelopeLoad
variable {r : Request} {u : State}

theorem loadEnvelopeRow_used (hl : envelopeLength r.fields = none) (hs : u.checkBank = some .bank) :
    loadEnvelopeRow r u = (u, .refused .bank) := by
  rw [loadEnvelopeRow, hl, hs]
  rfl

theorem loadEnvelopeRow_first {before after : List FieldRange} {x : FieldRange} (hl : envelopeLength r.fields = none)
    (hs : u.checkBank = none)
    (hx : envelopeRanges r.fields (breakpointsAt r.fields 2 (byteAt r.fields 1)) = before ++ x :: after)
    (hb : ∀ y ∈ before, y.holds) (hnot : ¬ x.holds) :
    loadEnvelopeRow r u = (u, .refused (.range (0 + before.length) x.value)) := by
  rw [loadEnvelopeRow, hl, hs, envelopeRowChecks_eq, hx, firstRefusal_first hb hnot]
  rfl

theorem envelopeAt?_of_val {i : EnvelopeIx} {n : Nat} (h : i.val = n) : envelopeAt? n = some i := by
  subst h
  simp [envelopeAt?]

theorem envelopeLength_of_row {i : Byte} {row : EnvelopeRow} (hin : row.InRange) (hf : r.fields = [i] ++ putEnvelope row) :
    envelopeLength r.fields = none := by
  have hcount : byteAt r.fields 1 = row.breakpoints.length := by rw [hf]; exact (EnvelopeRow.carriedBy_put hin i).count
  have hlength : r.fields.length = 6 + 4 * row.breakpoints.length := by
    rw [hf, List.length_append, length_putEnvelope, List.length_singleton]
    omega
  exact envelopeLength_none ⟨by omega, fun _ _ => by omega⟩

theorem loadEnvelopeRow_of_row {e : EnvelopeIx} {i : Byte} {row : EnvelopeRow} (hi : i.toNat = e.val) (hin : row.InRange)
    (hf : r.fields = [i] ++ putEnvelope row) (hs : u.checkBank = none) :
    loadEnvelopeRow r u = (u.putStandbyEnvelope e row, .done .nothing) := by
  have he : e.val = byteAt r.fields 0 := by rw [hf]; exact hi.symm
  have hcarried : row.CarriedBy r.fields := hf ▸ EnvelopeRow.carriedBy_put hin i
  have hranges := hcarried.ranges hin (he ▸ Nat.le_of_lt_succ e.isLt)
  simp only [loadEnvelopeRow, envelopeLength_of_row hin hf, hs, envelopeRowChecks_eq, firstRefusal_none hranges,
    State.unless_none, envelopeAt?_of_val he, hcarried.envelopeRowOf_eq]
  rfl

end EnvelopeLoad

/-! ## LOAD STORE PARAMETERS (R174, R177) -/

section StoreLoad
variable {r : Request} {u : State}

theorem loadStoreParameters_used (hl : storeLength r.fields = none) (hs : u.checkBank = some .bank) :
    loadStoreParameters r u = (u, .refused .bank) := by
  rw [loadStoreParameters, hl, hs]
  rfl

theorem loadStoreParameters_settled (hl : storeLength r.fields = none) (hs : u.checkBank = none) :
    loadStoreParameters r u = u.unless (checkRange 0 (byteAt r.fields 0) 0 1) (u.loadStoreOf r.fields) := by
  simp only [loadStoreParameters, hl, hs, State.unless_none]

theorem State.loadStoreOf_none {f : List Byte} (h : byteAt f 0 = 0) :
    u.loadStoreOf f = (u.putStandbyStore none, .done .nothing) := if_pos h

theorem State.loadStoreOf_some {f : List Byte} (h : byteAt f 0 = 1) :
    u.loadStoreOf f = u.unless (firstRefusal (rangeChecks 1 (storeRanges f)))
      (if u.standbyBank.storeConflicts (storeOf f) then u.refuse (.conflict none)
        else (u.putStandbyStore (some (storeOf f))).done .nothing) := by
  rw [State.loadStoreOf, if_neg (by omega), storeChecks_eq]

theorem loadStoreParameters_first {before after : List FieldRange} {x : FieldRange} (hl : storeLength r.fields = none)
    (hs : u.checkBank = none) (hn : byteAt r.fields 0 = 1) (hx : storeRanges r.fields = before ++ x :: after)
    (hb : ∀ y ∈ before, y.holds) (hnot : ¬ x.holds) :
    loadStoreParameters r u = (u, .refused (.range (1 + before.length) x.value)) := by
  rw [loadStoreParameters_settled hl hs, checkRange_of_le (by omega), State.unless_none, State.loadStoreOf_some hn, hx,
    firstRefusal_first hb hnot, State.unless_some]

theorem loadStoreParameters_of_none (hf : r.fields = [0]) (hs : u.checkBank = none) :
    loadStoreParameters r u = (u.putStandbyStore none, .done .nothing) := by
  have hn : byteAt r.fields 0 = 0 := by rw [hf]; rfl
  rw [loadStoreParameters_settled (storeLength_none (.inl ⟨hn, by rw [hf]; rfl⟩)) hs, checkRange_of_le (by omega),
    State.unless_none, State.loadStoreOf_none hn]

theorem storeLength_of_set {p : StoreParameters} (hf : r.fields = [1] ++ putStore p) : storeLength r.fields = none :=
  storeLength_none (.inr (.inl ⟨by rw [hf]; rfl, by rw [hf, List.length_append, length_putStore]; rfl⟩))

theorem loadStoreParameters_of_some {p : StoreParameters} (hp : p.InRange) (hf : r.fields = [1] ++ putStore p)
    (hs : u.checkBank = none) :
    loadStoreParameters r u = if u.standbyBank.storeConflicts p then (u, .refused (.conflict none))
      else (u.putStandbyStore (some p), .done .nothing) := by
  have hn : byteAt r.fields 0 = 1 := by rw [hf]; rfl
  have hcarried : p.CarriedBy r.fields := hf ▸ StoreParameters.carriedBy_put hp
  rw [loadStoreParameters_settled (storeLength_of_set hf) hs, checkRange_of_le (by omega), State.unless_none,
    State.loadStoreOf_some hn, firstRefusal_none (hcarried.ranges hp), State.unless_none, hcarried.storeOf_eq]
  rfl

end StoreLoad

/-! ## The requests -/

theorem Answers.of_row {s t : State} {r : Request} {row : RequestRow} {result : Result} (hr : r.row = row)
    (h : Answers row.command s r t result) : Answers r.row.command s r t result := hr ▸ h

/-- Settles O55: each load by what its fields carry, or by the first check that fails. -/
theorem loadsTaken : Obligations.LoadsTaken := by
  intro s r rest hh u old loaded refused settled
  have hbus : ∀ {t result}, r.row = .loadBusRow → loadBusRow r u = (t, result) → Answers .loadBusRow s r t result :=
    fun hr => answers_of_head (f := loadBusRow) (by rw [hr]; rfl) hh
  have henvelope : ∀ {t result}, r.row = .loadEnvelopeRow → loadEnvelopeRow r u = (t, result) →
      Answers .loadEnvelopeRow s r t result := fun hr => answers_of_head (f := loadEnvelopeRow) (by rw [hr]; rfl) hh
  have hstore : ∀ {t result}, r.row = .loadStoreParameters → loadStoreParameters r u = (t, result) →
      Answers .loadStoreParameters s r t result := fun hr => answers_of_head (f := loadStoreParameters) (by rw [hr]; rfl) hh
  have hfree : settled → u.checkBank = none := State.checkBank_settled (s := u)
  have hused : ¬ settled → u.checkBank = some .bank := State.checkBank_used (s := u)
  refine ⟨fun b i hr hi => ⟨fun row hin hf => ⟨fun hs hfits => ?_, fun hs hfits => ?_, fun hs => ?_⟩, fun hf hs => ?_⟩,
    fun e i row hr hi hin hf => ⟨fun hs => ?_, fun hs => ?_⟩,
    fun hr => ⟨fun p hp hf => ⟨fun hs hfits => ?_, fun hs hfits => ?_, fun hs => ?_⟩, fun hf hs => ?_⟩, ?_⟩
  · exact hbus hr ((loadBusRow_of_some hi hin hf (hfree hs)).trans
      (if_neg fun hc => Bank.rowConflicts_iff.1 hc hfits))
  · exact hbus hr ((loadBusRow_of_some hi hin hf (hfree hs)).trans (if_pos (Bank.rowConflicts_iff.2 hfits)))
  · exact hbus hr (loadBusRow_used (busRowLength_of_row hf) (hused hs))
  · exact hbus hr (loadBusRow_of_none hi hf (hfree hs))
  · exact henvelope hr (loadEnvelopeRow_of_row hi hin hf (hfree hs))
  · exact henvelope hr (loadEnvelopeRow_used (envelopeLength_of_row hin hf) (hused hs))
  · exact hstore hr ((loadStoreParameters_of_some hp hf (hfree hs)).trans
      (if_neg fun hc => Bank.storeConflicts_iff.1 hc hfits))
  · exact hstore hr ((loadStoreParameters_of_some hp hf (hfree hs)).trans (if_pos (Bank.storeConflicts_iff.2 hfits)))
  · exact hstore hr (loadStoreParameters_used (storeLength_of_set hf) (hused hs))
  · exact hstore hr (loadStoreParameters_of_none hf (hfree hs))
  · intro f n points ofBus ofEnvelope ofStore long refusesFirst hlong
    have hpoints : ofEnvelope = envelopeRanges f (breakpointsAt f 2 (byteAt f 1)) := by
      rw [breakpointsAt_eq]
      rfl
    have hbusLong : r.row = .loadBusRow → busRowLength f = none := fun hr => by
      rw [hr] at hlong
      exact busRowLength_none hlong
    have henvelopeLong : r.row = .loadEnvelopeRow → envelopeLength f = none := fun hr => by
      rw [hr] at hlong
      exact envelopeLength_none hlong
    have hstoreLong : r.row = .loadStoreParameters → storeLength f = none := fun hr => by
      rw [hr] at hlong
      exact storeLength_none hlong
    refine ⟨fun hs => ?_, fun hs => ⟨fun hr => ⟨fun h => ?_, fun h hn => ?_, fun h hn before x after hx hb hnot => ?_⟩,
      fun hr before x after hx hb hnot => ?_,
      fun hr => ⟨fun h => ?_, fun hn before x after hx hb hnot => ?_⟩⟩⟩
    · cases hr : r.row with
      | loadBusRow => exact hbus hr (loadBusRow_used (hbusLong hr) (hused hs))
      | loadEnvelopeRow => exact henvelope hr (loadEnvelopeRow_used (henvelopeLong hr) (hused hs))
      | loadStoreParameters => exact hstore hr (loadStoreParameters_used (hstoreLong hr) (hused hs))
      | _ =>
        rw [hr] at hlong
        exact hlong.elim
    · exact .of_row hr (hbus hr (loadBusRow_unnumbered (hbusLong hr) (hfree hs) h))
    · refine .of_row hr (hbus hr ?_)
      rw [loadBusRow_numbered (b := ⟨byteAt f 0, by omega⟩) (hbusLong hr) (hfree hs) rfl, checkRange_of_lt hn,
        State.unless_some]
    · exact .of_row hr (hbus hr (loadBusRow_first (hbusLong hr) (hfree hs) h hn hx hb hnot))
    · exact .of_row hr (henvelope hr (loadEnvelopeRow_first (henvelopeLong hr) (hfree hs) (hpoints ▸ hx) hb hnot))
    · refine .of_row hr (hstore hr ?_)
      rw [loadStoreParameters_settled (hstoreLong hr) (hfree hs), checkRange_of_lt h, State.unless_some]
    · exact .of_row hr (hstore hr (loadStoreParameters_first (hstoreLong hr) (hfree hs) hn hx hb hnot))

end Sys2Proof.Machine
end

section
/-! SUPPORT. The Grant Queue across the operations of the part (R74): a relation between the state before and after an operation by
which every request that is left keeps its event where it asks, and no REQUESTING event loses its request. -/

namespace Sys2Proof.Machine

/-! ## The relation -/

/-- The states in which an event may have a request (R72, R73). -/
def EventState.asks : EventState → Bool
  | .requesting => true
  | .injecting => true
  | .held => false
  | .bypassed => false
  | .closing => false
  | .reporting => false

/-- An entry keeps its class, and its state where its event may have a request; no event comes to REQUESTING. -/
def Event.InPlace (e e' : Event) : Prop :=
  e'.copy.cls = e.copy.cls ∧ (e'.state = e.state ∨ e.state.asks = false ∧ e'.state ≠ .requesting)

/-- No request is new; each of an event spoken of stands for an event as it was; each REQUESTING event spoken of was REQUESTING
and has the requests it had. -/
structure LinedOn (p : EventIx → Prop) (s t : State) : Prop where
  queue : t.pool.grantQueue.Sublist s.pool.grantQueue
  asking : ∀ q ∈ t.pool.grantQueue, p q.event → ∀ e, s.entry q.event = some e → e.state.asks = true →
    ∃ e', t.entry q.event = some e' ∧ e'.state = e.state ∧ e'.copy.cls = e.copy.cls
  requesting : ∀ i e', p i → t.entry i = some e' → e'.state = .requesting →
    (∃ e, s.entry i = some e ∧ e.state = .requesting) ∧ ∀ q ∈ s.pool.grantQueue, q.event = i → q ∈ t.pool.grantQueue

/-- The relation of every event. -/
abbrev Lined (s t : State) : Prop := LinedOn (fun _ => True) s t

namespace LinedOn

variable {p : EventIx → Prop} {s t u : State}

theorem refl (s : State) : LinedOn p s s :=
  ⟨.refl _, fun _ _ _ e he _ => ⟨e, he, rfl, rfl⟩, fun _ e _ he hr => ⟨⟨e, he, hr⟩, fun _ hq _ => hq⟩⟩

theorem trans (h : LinedOn p s t) (k : LinedOn p t u) : LinedOn p s u where
  queue := k.queue.trans h.queue
  asking := fun q hq hp e he ha => by
    obtain ⟨e', he', hs, hc⟩ := h.asking q (k.queue.subset hq) hp e he ha
    obtain ⟨e'', he'', hs', hc'⟩ := k.asking q hq hp e' he' (hs ▸ ha)
    exact ⟨e'', he'', hs'.trans hs, hc'.trans hc⟩
  requesting := fun i e'' hp he'' hr => by
    obtain ⟨⟨e', he', hr'⟩, hk⟩ := k.requesting i e'' hp he'' hr
    obtain ⟨he, hh⟩ := h.requesting i e' hp he' hr'
    exact ⟨he, fun q hq hi => hk q (hh q hq hi) hi⟩

/-- The second of two changes named first. -/
theorem after (k : LinedOn p t u) (h : LinedOn p s t) : LinedOn p s u := h.trans k

theorem foldl {α : Type} {f : State → α → State} (h : ∀ s x, LinedOn p s (f s x)) (l : List α) (s : State) :
    LinedOn p s (l.foldl f s) := foldl_relates .refl .trans h l s

theorem mono {r : EventIx → Prop} (h : LinedOn p s t) (hr : ∀ i, r i → p i) : LinedOn r s t :=
  ⟨h.queue, fun q hq hp => h.asking q hq (hr _ hp), fun i e' hp => h.requesting i e' (hr i hp)⟩

/-- The requests stand, and each entry spoken of is as it was or stays in place. -/
theorem of_entries (hq : t.pool.grantQueue = s.pool.grantQueue)
    (he : ∀ i, p i → t.entry i = s.entry i ∨ ∃ e e', s.entry i = some e ∧ t.entry i = some e' ∧ e.InPlace e') :
    LinedOn p s t where
  queue := hq ▸ .refl _
  asking := fun q _ hp e h ha => by
    rcases he q.event hp with hi | ⟨x, e', hx, he', hc, hs⟩
    · exact ⟨e, hi.trans h, rfl, rfl⟩
    · obtain rfl : x = e := Option.some.inj (hx.symm.trans h)
      exact ⟨e', he', hs.resolve_right fun hn => by simp [ha] at hn, hc⟩
  requesting := fun i e' hp h hr => by
    refine ⟨?_, fun q hm _ => hq ▸ hm⟩
    rcases he i hp with hi | ⟨e, x, hse, hx, -, hs⟩
    · exact ⟨e', hi.symm.trans h, hr⟩
    · obtain rfl : x = e' := Option.some.inj (hx.symm.trans h)
      exact ⟨e, hse, (hs.resolve_right fun hn => hn.2 hr).symm.trans hr⟩

/-- Nothing that the relation speaks of changes. -/
theorem of_eq (he : t.events.entries = s.events.entries) (hq : t.pool.grantQueue = s.pool.grantQueue) : LinedOn p s t :=
  .of_entries hq fun i _ => .inl (State.entry_congr he i)

/-- An event that has no request left and is not REQUESTING, besides the others. -/
theorem lined {i : EventIx} (h : LinedOn (· ≠ i) s t) (hq : ∀ q ∈ t.pool.grantQueue, q.event ≠ i)
    (hi : ∀ e', t.entry i = some e' → e'.state ≠ .requesting) : Lined s t where
  queue := h.queue
  asking := fun q hm _ => h.asking q hm (hq q hm)
  requesting := fun j e' _ he' hr => h.requesting j e' (fun hj => hi e' (hj ▸ he') hr) he' hr

end LinedOn

theorem Lined.but {s t : State} (h : Lined s t) (i : EventIx) : LinedOn (· ≠ i) s t := h.mono fun _ _ => trivial

theorem Sheds.lined {s t : State} (h : Sheds s t) : Lined s t where
  queue := h.queue ▸ .refl _
  asking := fun q _ _ e he ha => ⟨e, h.stays he fun hr => by simp [hr, EventState.asks] at ha, rfl, rfl⟩
  requesting := fun i e' _ he' hr => ⟨⟨e', h.held he', hr⟩, fun q hq _ => h.queue ▸ hq⟩

/-! ## What the relation keeps -/

theorem Lined.grantQueueSound {s t : State} (h : Lined s t) (hs : GrantQueueSound s) : GrantQueueSound t where
  once := (h.queue.map _).nodup hs.once
  sorted := hs.sorted.sublist h.queue
  owned := fun q hq => by
    obtain ⟨e, he, hc, hf, ht⟩ := hs.owned q (h.queue.subset hq)
    have ha : e.state.asks = true := by
      cases hk : q.kind with
      | first => rw [hf hk]; rfl
      | topup => rw [ht hk]; rfl
    obtain ⟨e', he', hs', hc'⟩ := h.asking q hq trivial e he ha
    exact ⟨e', he', hc.trans hc'.symm, fun k => hs'.trans (hf k), fun k => hs'.trans (ht k)⟩
  waiting := fun i e' he' hr => by
    obtain ⟨⟨e, he, hre⟩, hk⟩ := h.requesting i e' trivial he' hr
    obtain ⟨q, hq, hi, hf⟩ := hs.waiting i e he hre
    exact ⟨q, hk q hq hi, hi, hf⟩

/-- A request enters behind its class: its event is held in its class, a FIRST request's REQUESTING, a TOPUP request's INJECTING,
and has no other; the other entries stand. -/
theorem GrantQueueSound.enter {s t : State} {q : GrantRequest} {e : Event} (hs : GrantQueueSound s)
    (hn : ∀ r ∈ s.pool.grantQueue, r.event ≠ q.event) (hq : t.pool.grantQueue = insertByKey (·.cls) q s.pool.grantQueue)
    (he : t.entry q.event = some e) (hj : ∀ j, j ≠ q.event → t.entry j = s.entry j) (hc : q.cls = e.copy.cls)
    (hf : q.kind = .first → e.state = .requesting) (ht : q.kind = .topup → e.state = .injecting) : GrantQueueSound t where
  once := by
    rw [hq]
    exact ((insertByKey_perm _ _ _).map _).nodup_iff.2 (List.nodup_cons.2 ⟨by simpa using hn, hs.once⟩)
  sorted := by
    rw [hq]
    exact insertByKey_sorted q hs.sorted
  owned := fun r hr => by
    rw [hq, mem_insertByKey] at hr
    rcases hr with rfl | hr
    · exact ⟨e, he, hc, hf, ht⟩
    · rw [hj _ (hn r hr)]
      exact hs.owned r hr
  waiting := fun i e' he' hr => by
    rw [hq]
    by_cases hi : i = q.event
    · subst hi
      refine ⟨q, mem_insertByKey.2 (.inl rfl), rfl, ?_⟩
      cases hk : q.kind with
      | first => rfl
      | topup =>
        obtain rfl : e = e' := Option.some.inj (he.symm.trans he')
        simp [ht hk] at hr
    · rw [hj i hi] at he'
      obtain ⟨r, hr, h⟩ := hs.waiting i e' he' hr
      exact ⟨r, mem_insertByKey.2 (.inr hr), h⟩

end Sys2Proof.Machine
end

section
/-! SUPPORT. The Grant Queue across the movements of energy: the ways off the protected path, the life of a release, the waits and
the disposal (R35 to R37, R42, R78, R79, R90 to R98). -/

namespace Sys2Proof.Machine

/-! ## One entry -/

theorem Event.InPlace.of_same {e e' : Event} (hc : e'.copy = e.copy) (hs : e'.state = e.state) : e.InPlace e' :=
  ⟨congrArg _ hc, .inl hs⟩

/-- An event that may have no request moves, but not to REQUESTING. -/
theorem Event.InPlace.of_idle {e e' : Event} (hc : e'.copy = e.copy) (ha : e.state.asks = false) (hs : e'.state ≠ .requesting) :
    e.InPlace e' := ⟨congrArg _ hc, .inr ⟨ha, hs⟩⟩

theorem State.setEntry_lined {s : State} {i : EventIx} {e e' : Event} (he : s.entry i = some e) (h : e.InPlace e') :
    Lined s (s.setEntry i (some e')) :=
  .of_entries rfl fun j _ => by
    by_cases hj : i = j
    · subst hj
      exact .inr ⟨e, e', he, by simp, h⟩
    · exact .inl (by simp [hj])

theorem State.modEvent_lined {s : State} {i : EventIx} {f : Event → Event} (h : ∀ e, s.entry i = some e → e.InPlace (f e)) :
    Lined s (s.modEvent i f) := by
  cases he : s.entry i with
  | none => rw [State.modEvent_free f he]; exact .refl s
  | some e => rw [State.modEvent_eq f he]; exact State.setEntry_lined he (h e he)

theorem State.addMark_lined (s : State) (i : EventIx) (m : Mark) : Lined s (s.addMark i m) :=
  State.modEvent_lined fun _ _ => .of_same rfl rfl

theorem State.putRecounted_lined {s : State} {i : EventIx} {e e' : Event} (he : s.entry i = some e) (h : e.InPlace e') :
    Lined s (s.putRecounted i e') :=
  (State.setEntry_lined (e' := e'.recount) he h).trans (.of_eq rfl rfl)

/-- An entry spoken of by no one. -/
theorem State.modEvent_but_lined (s : State) (i : EventIx) (f : Event → Event) : LinedOn (· ≠ i) s (s.modEvent i f) :=
  .of_entries (by simp) fun j hj => .inl (by rw [State.entry_modEvent, if_neg (Ne.symm hj)])

theorem State.setEntry_but_lined (s : State) (i : EventIx) (o : Option Event) : LinedOn (· ≠ i) s (s.setEntry i o) :=
  .of_entries rfl fun j hj => .inl (by simp [Ne.symm hj])

/-! ## Free and requests -/

theorem State.duePass_lined (s : State) : Lined s s.duePass := .of_eq rfl rfl

theorem State.giveToFree_lined (s : State) (i : EventIx) : Lined s (s.giveToFree i) := by
  unfold State.giveToFree
  split
  · exact .refl s
  · next e he => exact (State.setEntry_lined (e' := e.giveUp) he (.of_same rfl rfl)).trans (.of_eq rfl rfl)

theorem State.dropRequest_but_lined (s : State) (i : EventIx) : LinedOn (· ≠ i) s (s.dropRequest i) where
  queue := List.filter_sublist
  asking := fun _ _ _ e he _ => ⟨e, he, rfl, rfl⟩
  requesting := fun j e hj he hr => ⟨⟨e, he, hr⟩, fun q hq hi => by simp [State.dropRequest, hq, hi, hj]⟩

/-- A request dropped of an event that is not REQUESTING. -/
theorem State.dropRequest_lined {s : State} {i : EventIx} (h : ∀ e, s.entry i = some e → e.state ≠ .requesting) :
    Lined s (s.dropRequest i) := (s.dropRequest_but_lined i).lined (s.dropRequest_none i) h

/-! ## Leaving the protected path and entering INJECTING -/

theorem State.leavePath_lined (s : State) (i : EventIx) (cause : EventOutcome) : Lined s (s.leavePath i cause) := by
  refine LinedOn.lined ((s.dropRequest_but_lined i).trans (State.modEvent_but_lined _ i _)) (fun q hq => ?_) fun e he => ?_
  · exact s.dropRequest_none i q (by simpa [State.leavePath] using hq)
  · rw [State.leavePath_state he]
    decide

theorem State.bypassIdle_lined (s : State) (i : EventIx) (cause : EventOutcome) : Lined s (s.bypassIdle i cause) :=
  (s.leavePath_lined i cause).trans (State.giveToFree_lined _ i)

/-- What follows the entry's own change as an event enters INJECTING: its record and its command. -/
theorem State.enterInjecting_but_lined (s : State) (i : EventIx) : LinedOn (· ≠ i) s (s.enterInjecting i) := by
  unfold State.enterInjecting
  split
  · exact .refl s
  · refine ((State.queueCommand_sheds _ _ _).lined.but i).after (LinedOn.after (t := s.setEntry i _) (.of_eq rfl rfl) ?_)
    exact s.setEntry_but_lined i _

theorem State.enterInjecting_lined {s : State} {i : EventIx} (h : ∀ e, s.entry i = some e → e.state.asks = false) :
    Lined s (s.enterInjecting i) := by
  unfold State.enterInjecting
  split
  · exact .refl s
  · next e he =>
    refine (State.queueCommand_sheds _ _ _).lined.after (LinedOn.after (t := s.setEntry i _) (.of_eq rfl rfl) ?_)
    exact State.setEntry_lined he (.of_idle rfl (h e he) (by simp))

theorem State.leaveHeld_lined (s : State) (i : EventIx) : Lined s (s.leaveHeld i) := by
  unfold State.leaveHeld
  split
  · exact .refl s
  · next e he =>
    split
    · next hh =>
      split
      · exact s.bypassIdle_lined i _
      · split
        · exact (s.addMark_lined i _).trans (State.bypassIdle_lined _ i _)
        · refine State.enterInjecting_lined fun e' he' => ?_
          rw [he] at he'
          rw [← Option.some.inj he', hh.1]
          rfl
    · exact .refl s

theorem State.freeOfStack_lined (k : Station) (s : State) (i : EventIx) : Lined s (State.freeOfStack k s i) := by
  unfold State.freeOfStack
  split
  · exact .refl s
  · next e he =>
    split
    · exact (State.leaveHeld_lined _ i).after (State.setEntry_lined he (.of_same rfl rfl))
    · exact .refl s

theorem State.availabilityCheck_lined (s : State) (k : Station) : Lined s (s.availabilityCheck k) :=
  .foldl (State.freeOfStack_lined k) _ s

/-! ## The life of a release -/

theorem payClaim_lined (r : ReleaseIx) (x : State × Nat) (c : ReleaseClaim) : Lined x.1 (payClaim r x c).1 := by
  unfold payClaim
  split
  · exact .refl x.1
  · next e he => exact State.putRecounted_lined he (.of_same rfl rfl)

theorem foldl_payClaim_lined (r : ReleaseIx) (l : List ReleaseClaim) (x : State × Nat) : Lined x.1 (l.foldl (payClaim r) x).1 := by
  induction l generalizing x with
  | nil => exact .refl x.1
  | cons c l ih => exact (payClaim_lined r x c).trans (ih _)

theorem State.payOut_lined (s : State) (r : ReleaseIx) (x : Release) : Lined s (s.payOut r x) :=
  (foldl_payClaim_lined r x.claims (s, x.amount)).trans (.of_eq rfl rfl)

theorem State.putNewRelease_lined {s : State} {i : EventIx} {e : Event} (r : ReleaseIx) (he : s.entry i = some e) :
    Lined s (s.putNewRelease i r e) :=
  .of_entries rfl fun j _ => by
    rw [State.putNewRelease_entry]
    split
    · next hj =>
      subst hj
      exact .inr ⟨e, _, he, rfl, .of_same rfl rfl⟩
    · exact .inl rfl

theorem State.toldToStop_lined (s : State) (e : Event) : Lined s (s.toldToStop e) := by
  unfold State.toldToStop
  split
  · exact (s.queueCommand_sheds _ _).lined
  · exact .refl s

theorem State.newRelease_lined (s : State) (i : EventIx) (r : ReleaseIx) : Lined s (s.newRelease i r) := by
  cases he : s.entry i with
  | none => simp only [State.newRelease, he]; exact .refl s
  | some e =>
    have hput : Lined s ((s.toldToStop e).putNewRelease i r e) :=
      (s.toldToStop_lined e).trans (State.putNewRelease_lined r ((s.toldToStop_entry e i).trans he))
    rw [State.newRelease_eq he]
    dsimp only
    split
    · exact hput.trans ((State.payOut_lined _ _ _).trans (State.availabilityCheck_lined _ _))
    · exact hput

/-! ## Waits -/

theorem State.forgetDrawing_lined (s : State) (i : EventIx) : Lined s (s.forgetDrawing i) := by
  unfold State.forgetDrawing
  exact .of_eq rfl rfl

/-- A CLOSING event enters REPORTING. -/
theorem State.enterReporting_lined {s : State} {i : EventIx} {e : Event} (he : s.entry i = some e) (hc : e.state = .closing) :
    Lined s (s.enterReporting i) := by
  have hm : Lined s ((s.modEvent i fun e => { e with state := .reporting }).forgetDrawing i) :=
    (State.forgetDrawing_lined _ i).after (State.modEvent_lined fun e' he' => by
      rw [he] at he'
      obtain rfl := Option.some.inj he'
      exact .of_idle rfl (by rw [hc]; rfl) (by simp))
  unfold State.enterReporting
  dsimp only
  split
  · refine hm.trans (Sheds.lined (Sheds.kick (State.queueClosed_sheds fun e' he' => ?_)))
    rw [State.entry_congr (s := s.modEvent i fun e => { e with state := .reporting }) (by simp) i, State.entry_modEvent,
      if_pos rfl, he] at he'
    cases he'
    rfl
  · exact hm

theorem State.afterWait_lined (s : State) (i : EventIx) : Lined s (s.afterWait i) := by
  unfold State.afterWait
  split
  · exact .refl s
  · next e he =>
    refine LinedOn.trans ?_ (State.availabilityCheck_lined _ _)
    split
    · next hc => exact State.enterReporting_lined he hc
    · exact .refl s

theorem State.endWait_lined (s : State) (i : EventIx) : Lined s (s.endWait i) :=
  (State.afterWait_lined _ i).after (State.modEvent_lined fun _ _ => .of_same rfl rfl)

theorem State.endSpentWait_lined (s : State) (i : EventIx) : Lined s (s.endSpentWait i) := by
  unfold State.endSpentWait
  split
  · exact .refl s
  · split
    · exact s.endWait_lined i
    · exact .refl s

theorem State.offer_lined (n : Nat) (s : State) : Lined s (State.offer n s) := by
  induction n generalizing s with
  | zero => exact .refl s
  | succ n ih =>
    unfold State.offer
    split
    · exact ((s.newRelease_lined _ _).trans (State.afterWait_lined _ _)).trans (ih _)
    · exact .refl s

theorem State.beginWait_lined (s : State) (i : EventIx) : Lined s (s.beginWait i) := by
  cases he : s.entry i with
  | none => simp only [State.beginWait, he]; exact .refl s
  | some e =>
    have hw : Lined s (s.waitBegun i e) :=
      LinedOn.after (t := s.setEntry i _) (.of_eq rfl rfl) (State.setEntry_lined he (.of_same rfl rfl))
    rw [State.beginWait_eq he]
    split
    · exact hw.trans (State.queueCommand_sheds _ _ _).lined
    · exact hw

/-! ## Disposal and BYPASSED -/

theorem State.dispose_lined (s : State) (i : EventIx) : Lined s (s.dispose i) := by
  unfold State.dispose
  split
  · exact .refl s
  · split
    · exact .refl s
    · split
      · exact s.giveToFree_lined i
      · split
        · exact s.newRelease_lined i _
        · exact s.beginWait_lined i

theorem State.bypass_lined (s : State) (i : EventIx) (cause : EventOutcome) (commanded : Bool) :
    Lined s (s.bypass i cause commanded) := by
  refine (s.leavePath_lined i cause).trans ?_
  unfold State.bypass
  dsimp only
  split
  · exact .refl _
  · next e he =>
    split
    · refine LinedOn.trans (State.setEntry_lined (e' := { e with stackOrder := .bypass }) he (.of_same rfl rfl))
        (LinedOn.trans ?_ (State.dispose_lined _ _))
      split
      · exact .refl _
      · exact (State.queueCommand_sheds _ _ _).lined
    · exact State.dispose_lined _ _

/-! ## Confirmation and its consequences -/

theorem State.settleBorrower_lined (s : State) (i : EventIx) : Lined s (s.settleBorrower i) := by
  unfold State.settleBorrower
  split
  · exact .refl s
  · next e he =>
    have hb : Lined s (if e.claims = [] then s.setEntry i (some { e with held.borrow := false }) else s) := by
      split
      · exact State.setEntry_lined he (.of_same rfl rfl)
      · exact .refl s
    dsimp only
    split
    · split
      · exact hb
      · exact hb.trans (State.giveToFree_lined _ _)
    · exact hb.trans (State.leaveHeld_lined _ _)

theorem State.confirmRelease_lined (s : State) (r : ReleaseIx) : Lined s (s.confirmRelease r) := by
  unfold State.confirmRelease
  split
  · exact .refl s
  · next x _ =>
    have hpaid := (s.payOut_lined r x).trans (LinedOn.foldl (fun s c => s.settleBorrower_lined c.event) x.claims _)
    exact ((hpaid.trans (State.availabilityCheck_lined _ _)).trans (State.offer_lined _ _)).trans (State.duePass_lined _)

end Sys2Proof.Machine
end

section
/-! SUPPORT. The Grant Queue across its own service (R73 to R85): a request served, displacement, the pass, the expiries of wait timers,
and a TOPUP request taken. -/

namespace Sys2Proof.Machine

/-! ## A request served (R76 to R78) -/

theorem State.growClaim_lined (s : State) (i : EventIx) (r : ReleaseIx) (n : Nat) : Lined s (s.growClaim i r n) := by
  have hm : Lined s (s.modEvent i fun e => { e with claims := growEventClaim r n e.claims }) :=
    State.modEvent_lined fun _ _ => .of_same rfl rfl
  exact hm.trans (.of_eq (by simp [State.growClaim]) (by simp [State.growClaim]))

theorem State.layClaims_lined (i : EventIx) (l : List (ReleaseIx × Nat)) (n : Nat) (s : State) :
    Lined s (State.layClaims i l n s) := by
  induction l generalizing n s with
  | nil => exact .refl s
  | cons x l ih =>
    unfold State.layClaims
    split
    · exact .refl s
    · exact (s.growClaim_lined _ _ _).trans (ih _ _)

/-- A request granted its firm part, and the rest of an amount laid on the releases open to it (R76, R77). -/
def State.funded (s : State) (q : GrantRequest) (e : Event) (amount : Nat) : State :=
  State.layClaims q.event (s.openTo q.event) (amount - min s.pool.free amount) (s.granted q e (min s.pool.free amount))

theorem State.serve_first {s : State} {q : GrantRequest} {e : Event} (he : s.entry q.event = some e) (hk : q.kind = .first)
    (amount : Nat) : s.serve q amount = (s.funded q e amount).afterFirst q.event (min s.pool.free amount) := by
  have he' : ({ s with pool.grantQueue := s.pool.grantQueue.filter fun r => decide (r.event ≠ q.event) } : State).entry
      q.event = some e := he
  simp only [State.serve, he', hk]
  rfl

theorem State.serve_topup {s : State} {q : GrantRequest} {e : Event} (he : s.entry q.event = some e) (hk : q.kind = .topup)
    (amount : Nat) : s.serve q amount = s.funded q e amount := by
  have he' : ({ s with pool.grantQueue := s.pool.grantQueue.filter fun r => decide (r.event ≠ q.event) } : State).entry
      q.event = some e := he
  simp only [State.serve, he', hk]
  rfl

theorem State.granted_but_lined (s : State) (q : GrantRequest) (e : Event) (n : Nat) :
    LinedOn (· ≠ q.event) s (s.granted q e n) :=
  LinedOn.trans (s.dropRequest_but_lined q.event)
    (.of_entries rfl fun j hj => .inl ((s.granted_entry q e n j).trans (if_neg (Ne.symm hj))))

theorem State.funded_but_lined (s : State) (q : GrantRequest) (e : Event) (amount : Nat) :
    LinedOn (· ≠ q.event) s (s.funded q e amount) :=
  (s.granted_but_lined q e _).trans ((State.layClaims_lined _ _ _ _).but q.event)

theorem State.funded_requests (s : State) (q : GrantRequest) (e : Event) (amount : Nat) :
    ∀ r ∈ (s.funded q e amount).pool.grantQueue, r.event ≠ q.event := fun r hr =>
  s.dropRequest_none q.event r
    ((State.layClaims_lined _ _ _ (s.granted q e (min s.pool.free amount))).queue.subset hr)

/-- An event's entry as it enters INJECTING (R36). -/
def Event.driven (e : Event) : Event :=
  { e with
    state := .injecting
    stackOrder := .inject
    held := .empty
    deepestStep := some (e.deepestStep.getD e.ladderStep) }

theorem State.enterInjecting_eq {s : State} {i : EventIx} {e : Event} (he : s.entry i = some e) :
    s.enterInjecting i = ((s.setEntry i (some e.driven)).setRecord e.copy.stack
      { s.record e.copy.stack with boundBus := some e.bus, drawingEvent := some i }).queueCommand e.copy.stack (.inject i) := by
  simp only [State.enterInjecting, he]
  rfl

theorem State.enterInjecting_entry {s : State} {i : EventIx} {e : Event} (he : s.entry i = some e) (j : EventIx) :
    (s.enterInjecting i).entry j = if i = j then some e.driven else s.entry j := by
  rw [State.enterInjecting_eq he, State.queueCommand_entry, State.entry_setRecord, State.entry_setEntry]

theorem State.afterFirst_but_lined (s : State) (i : EventIx) (firm : Nat) : LinedOn (· ≠ i) s (s.afterFirst i firm) := by
  unfold State.afterFirst
  split
  · exact .refl s
  · dsimp only
    split
    · exact s.enterInjecting_but_lined i
    · exact s.setEntry_but_lined i _

/-- The event of a served FIRST request is REQUESTING no longer (R78). -/
theorem State.afterFirst_state {s : State} {i : EventIx} {firm : Nat} {e' : Event}
    (he' : (s.afterFirst i firm).entry i = some e') : e'.state ≠ .requesting := by
  unfold State.afterFirst at he'
  split at he'
  · next hn => simp [hn] at he'
  · next e he =>
    dsimp only at he'
    split at he'
    · rw [State.enterInjecting_entry he, if_pos rfl] at he'
      simp [← Option.some.inj he', Event.driven]
    · rw [State.entry_setEntry, if_pos rfl] at he'
      simp [← Option.some.inj he']

/-- A request served, where a REQUESTING event's is a FIRST request. -/
theorem State.serve_lined {s : State} {q : GrantRequest} (amount : Nat)
    (hk : ∀ e, s.entry q.event = some e → e.state = .requesting → q.kind = .first) : Lined s (s.serve q amount) := by
  cases he : s.entry q.event with
  | none =>
    have he' : ({ s with pool.grantQueue := s.pool.grantQueue.filter fun r => decide (r.event ≠ q.event) } : State).entry
        q.event = none := he
    simp only [State.serve, he']
    exact (State.dropRequest_lined (i := q.event) fun e h => by simp [he] at h).trans (.of_eq rfl rfl)
  | some e =>
    have hbut := s.funded_but_lined q e amount
    have hnone := s.funded_requests q e amount
    cases hkind : q.kind with
    | first =>
      rw [State.serve_first he hkind]
      have hafter := State.afterFirst_but_lined (s.funded q e amount) q.event (min s.pool.free amount)
      exact (hbut.trans hafter).lined (fun r hr => hnone r (hafter.queue.subset hr)) fun _ => State.afterFirst_state
    | topup =>
      rw [State.serve_topup he hkind]
      refine hbut.lined hnone fun e' he' hr => ?_
      obtain ⟨⟨e0, he0, hr0⟩, -⟩ := (State.layClaims_lined _ _ _ _).requesting q.event e' trivial he' hr
      rw [State.granted_entry, if_pos rfl] at he0
      cases he0
      have := hk e he hr0
      simp [hkind] at this

/-! ## Displacement (R80, R81) -/

theorem State.displaceVictim_lined (s : State) (v : EventIx × ReleaseIx) : Lined s (s.displaceVictim v) := by
  have hl := s.leavePath_lined v.1 .displaced
  unfold State.displaceVictim
  dsimp only
  split
  · exact hl
  · next e he =>
    have hset := hl.trans (State.setEntry_lined (e' := { e with stackOrder := .bypass }) he (.of_same rfl rfl))
    exact (hset.trans (State.queueCommand_sheds _ _ _).lined).trans (State.newRelease_lined _ _ _)

/-! ## The pass (R75) -/

/-- In a sound queue a request of a REQUESTING event is a FIRST request. -/
theorem GrantQueueSound.first {s : State} (hs : GrantQueueSound s) {q : GrantRequest} (hq : q ∈ s.pool.grantQueue) {e : Event}
    (he : s.entry q.event = some e) (hr : e.state = .requesting) : q.kind = .first := by
  obtain ⟨e', he', -, -, ht⟩ := hs.owned q hq
  obtain rfl : e = e' := Option.some.inj (he.symm.trans he')
  cases hk : q.kind with
  | first => rfl
  | topup => simp [ht hk] at hr

theorem State.serveHead_lined {s t : State} {q : GrantRequest} (hs : GrantQueueSound s) (hq : q ∈ s.pool.grantQueue)
    (h : s.serveHead q = some t) : Lined s t := by
  unfold State.serveHead at h
  split at h
  · cases h
    exact State.serve_lined _ fun e => hs.first hq
  · split at h
    · cases h
      exact State.serve_lined _ fun e => hs.first hq
    · unfold State.serveByDisplacement at h
      dsimp only at h
      split at h
      · cases h
        have hdisplaced := LinedOn.foldl State.displaceVictim_lined (s.chooseVictims q.amount
          (s.pool.free + borrowable (s.openTo q.event)) (s.slotsLeft q.event)
          (allReleases.filter fun r => (s.release r).isNone) (s.candidates q.cls)).1 s
        refine hdisplaced.trans (State.serve_lined _ fun e he hr => ?_)
        obtain ⟨⟨e0, he0, hr0⟩, -⟩ := hdisplaced.requesting q.event e trivial he hr
        exact hs.first hq he0 hr0
      · cases h

theorem State.pass_lined (n : Nat) {s : State} (hs : GrantQueueSound s) : Lined s (State.pass n s) := by
  induction n generalizing s with
  | zero => exact .refl s
  | succ n ih =>
    unfold State.pass
    split
    · exact .refl s
    · next q rest hq =>
      split
      · next t ht =>
        have hl := State.serveHead_lined hs (hq ▸ List.mem_cons_self) ht
        exact hl.trans (ih (hl.grantQueueSound hs))
      · exact .refl s

theorem State.servicePass_grantQueueSound {s : State} (hs : GrantQueueSound s) : GrantQueueSound s.servicePass := by
  unfold State.servicePass
  split
  · have hu : Lined s { s with pool.passDue := false } := .of_eq rfl rfl
    have hus := hu.grantQueueSound hs
    exact (State.pass_lined _ hus).grantQueueSound hus
  · exact hs

/-! ## The wait timers and a TOPUP request taken (R73, R84, R85) -/

theorem State.firstExpires_lined (s : State) (i : EventIx) : Lined s (s.firstExpires i) := by
  unfold State.firstExpires
  split
  · exact s.bypass_lined i _ _
  · exact .refl s

theorem State.requestOf_spec {s : State} {i : EventIx} {q : GrantRequest} (h : s.requestOf i = some q) :
    q ∈ s.pool.grantQueue ∧ q.event = i :=
  ⟨List.mem_of_find?_eq_some h, by simpa using List.find?_some h⟩

theorem State.topupExpires_lined {s : State} (hs : GrantQueueSound s) (i : EventIx) : Lined s (s.topupExpires i) := by
  unfold State.topupExpires
  split
  · next hdue =>
    refine (State.dropRequest_lined fun e he hr => ?_).trans (State.addMark_lined _ _ _)
    unfold State.waitExpired at hdue
    split at hdue
    · next q hq =>
      obtain ⟨hm, rfl⟩ := State.requestOf_spec hq
      have hk : q.kind = .first := hs.first hm he hr
      simp [hk] at hdue
    · simp at hdue
  · exact .refl s

theorem State.requestOf_isNone {s : State} {i : EventIx} (h : s.requestOf i = none) :
    ∀ q ∈ s.pool.grantQueue, q.event ≠ i := by
  simpa [State.requestOf] using h

theorem State.takeTopup_grantQueueSound {s : State} (hs : GrantQueueSound s) (x : BroughtTopup) :
    GrantQueueSound (s.takeTopup x) := by
  unfold State.takeTopup
  split
  · exact hs
  · next e he =>
    split
    · next h =>
      obtain ⟨-, hi, hn⟩ := h
      exact hs.enter (q := ⟨x.event, .topup, e.firstAmount, e.copy.cls, s.now, s.now + e.copy.envelope.waitLimit * 1000⟩)
        (State.requestOf_isNone (by simpa using hn)) rfl he (fun _ _ => rfl) rfl (by simp) fun _ => hi
    · exact hs

end Sys2Proof.Machine
end

section
/-! SUPPORT. The Grant Queue across an event's end, the store, the Stack Command Channel, the Envelope and Injection Units, the ring
ports and the time base. -/

namespace Sys2Proof.Machine

/-! ## The end of an event (R43, R44) -/

theorem State.endStack_but_lined (s : State) (i : EventIx) (cause : EndCause) : LinedOn (· ≠ i) s (s.endStack i cause) := by
  unfold State.endStack
  split
  · exact .refl s
  · next e he =>
    split
    · cases cause with
      | recovered =>
        dsimp only
        split
        · exact (s.queueCommand_sheds _ _).lined.but i
        · exact .refl s
      | _ => exact (s.setEntry_but_lined i _).trans ((State.queueCommand_sheds _ _ _).lined.but i)
    · exact .refl s

theorem State.closeEvent_but_lined (s : State) (i : EventIx) : LinedOn (· ≠ i) s (s.closeEvent i) := by
  have hm := s.modEvent_but_lined i fun e =>
    { e with ladderStep := 3, state := .closing, closeOrder := some s.events.closeCounter }
  refine ((State.captureEnded_sheds _ i).lined.but i).after (hm.trans ?_)
  exact .of_eq rfl rfl

/-- A closed event is CLOSING (R43 step 5). -/
theorem State.closeEvent_state {s : State} {i : EventIx} {e' : Event} (he' : (s.closeEvent i).entry i = some e') :
    e'.state = .closing := by
  rw [State.closeEvent_entry, Option.map_eq_some_iff] at he'
  obtain ⟨e, -, rfl⟩ := he'
  rfl

theorem State.settleClosing_lined (s : State) (i : EventIx) : Lined s (s.settleClosing i) := by
  unfold State.settleClosing
  split
  · exact .refl s
  · next e he =>
    split
    · next hc => exact State.enterReporting_lined he hc.1
    · exact .refl s

theorem State.endEvent_lined (s : State) (i : EventIx) (cause : EndCause) : Lined s (s.endEvent i cause) := by
  have hdrop := s.dropRequest_but_lined i
  have hclaims : LinedOn (· ≠ i) (s.dropRequest i) ((s.dropRequest i).withdrawClaims i) := .of_eq rfl rfl
  have hended := hclaims.trans (State.modEvent_but_lined _ i (Event.ended cause))
  have hclosed := (hended.trans (State.endStack_but_lined _ i cause)).trans (State.closeEvent_but_lined _ i)
  have hlined := (hdrop.trans hclosed).lined (fun q hq => s.dropRequest_none i q (hclosed.queue.subset hq)) fun e he => by
    simp [State.closeEvent_state he]
  exact hlined.trans ((State.dispose_lined _ i).trans (State.settleClosing_lined _ i))

/-! ## The store (R70, R101 to R107) -/

theorem State.settleWithNothing_lined (s : State) (r : ReleaseIx) (c : ReleaseClaim) : Lined s (s.settleWithNothing r c) :=
  State.modEvent_lined fun _ _ => .of_same rfl rfl

theorem State.dissolve_lined (s : State) (r : ReleaseIx) : Lined s (s.dissolve r) := by
  unfold State.dissolve
  split
  · exact .refl s
  · next x _ =>
    have hclaims : Lined s (x.claims.foldl (fun s c => s.settleWithNothing r c) s) :=
      .foldl (fun s c => s.settleWithNothing_lined r c) _ s
    exact hclaims.trans (.of_eq rfl rfl)

theorem State.cutEvents_lined (l : List EventIx) (left : Nat) (s : State) : Lined s (State.cutEvents l left s).1 := by
  induction l generalizing left s with
  | nil => exact .refl s
  | cons i l ih =>
    unfold State.cutEvents
    split
    · exact .refl s
    · exact (ih _ _).after (State.modEvent_lined fun _ _ => .of_same rfl rfl)

theorem State.shortfallCut_lined (s : State) (n : Nat) : Lined s (s.shortfallCut n) :=
  (State.cutEvents_lined s.eventsToCut n s).trans (.of_eq (by simp [State.shortfallCut]) (by simp [State.shortfallCut]))

theorem State.withFree_lined (s : State) (n : Nat) : Lined s (s.withFree n) := .of_eq rfl rfl

theorem State.setFree_lined (s : State) (timestamp : U32) (voltage : Nat) : Lined s (s.setFree timestamp voltage).1 := by
  by_cases h : s.unspentSum + s.releaseSum ≤ s.pool.budget
  · rw [State.setFree_covered h]
    exact s.withFree_lined _
  · rw [State.setFree_short h rfl]
    exact (s.shortfallCut_lined _).trans (State.report_sheds _ _).lined

theorem State.freeOfStore_lined (cut : List EventIx) (s : State) (i : EventIx) : Lined s (State.freeOfStore cut s i) := by
  unfold State.freeOfStore
  split
  · exact .refl s
  · next e he =>
    split
    · have hset : Lined s (s.setEntry i (some { e with held.store := false })) := State.setEntry_lined he (.of_same rfl rfl)
      dsimp only
      split
      · exact hset
      · exact hset.trans (State.leaveHeld_lined _ i)
    · exact .refl s

theorem State.enterLive_lined (s : State) (p : StoreParameters) (cut : List EventIx) (timestamp : U32) (voltage : Nat) :
    Lined s (s.enterLive p cut timestamp voltage) := by
  have hlive : Lined s { s with pool.storeState := .live, pool.storeSilence := some (s.now + p.silenceTimeout) } :=
    .of_eq rfl rfl
  unfold State.enterLive
  dsimp only
  split
  · exact hlive
  · exact (State.report_sheds _ _).lined.after (hlive.trans (LinedOn.foldl (State.freeOfStore_lined cut) _ _))

theorem State.cutOutcome_lined (s : State) (i : EventIx) : Lined s (s.cutOutcome i) := by
  unfold State.cutOutcome
  split
  · exact s.bypass_lined _ _ _
  · exact .refl s

theorem State.cutConsequences_lined (s : State) (cut : List EventIx) : Lined s (s.cutConsequences cut) :=
  (LinedOn.foldl State.cutOutcome_lined cut s).trans (LinedOn.foldl State.endSpentWait_lined cut _)

theorem State.dissolutionConsequences_lined (s : State) (gone : List Release) : Lined s (s.dissolutionConsequences gone) := by
  have hborrowers : Lined s (gone.foldl (fun s x => x.claims.foldl (fun s c => s.settleBorrower c.event) s) s) :=
    .foldl (fun s (x : Release) => .foldl (fun s (c : ReleaseClaim) => s.settleBorrower_lined c.event) x.claims s) _ s
  have hstacks := hborrowers.trans (LinedOn.foldl (fun s (x : Release) => s.availabilityCheck_lined x.stack) gone _)
  unfold State.dissolutionConsequences
  dsimp only
  split
  · exact hstacks
  · exact hstacks.trans (State.offer_lined _ _)

theorem State.confirmStore_lined (s : State) (p : StoreParameters) (timestamp : U32) (voltage : Nat) :
    Lined s (s.confirmStore p timestamp voltage) := by
  have hset : Lined s { s with pool.inEffect := some p, pool.budget := storeBudget p voltage } := .of_eq rfl rfl
  have hgone : Lined s (s.unresolvedGone p voltage) := (hset.trans (LinedOn.foldl State.dissolve_lined _ _)).trans (.of_eq rfl rfl)
  have hfree := hgone.trans (State.setFree_lined _ timestamp voltage)
  have hlive := hfree.trans (State.enterLive_lined _ p ((s.unresolvedGone p voltage).setFree timestamp voltage).2 timestamp voltage)
  exact ((hlive.trans (State.cutConsequences_lined _ _)).trans (State.dissolutionConsequences_lined _ _)).trans
    (State.duePass_lined _)

theorem State.countPort_lined (s : State) (f : PortCounters → PortCounters) : Lined s (s.countPort f) := .of_eq rfl rfl

theorem State.takeStore_lined (s : State) (x : HandedStore) : Lined s (s.takeStore x) := by
  unfold State.takeStore
  dsimp only
  split
  · exact s.countPort_lined _
  · split
    · exact s.countPort_lined _
    · split
      · exact .of_eq rfl rfl
      · refine LinedOn.trans ?_ (State.confirmStore_lined _ _ _ _)
        exact .of_eq rfl rfl

theorem State.holdForStore_lined (s : State) : Lined s s.holdForStore :=
  .of_entries (by simp) fun i _ => by
    rw [State.entry_holdForStore]
    cases s.entry i with
    | none => exact .inl rfl
    | some e =>
      refine .inr ⟨e, _, rfl, rfl, .of_same ?_ e.holdForStore_state⟩
      unfold Event.holdForStore
      split <;> rfl

theorem State.storeExpires_lined (s : State) : Lined s s.storeExpires := by
  unfold State.storeExpires
  split
  · refine (State.report_sheds _ _).lined.after ((State.holdForStore_lined _).after ?_)
    exact .of_eq rfl rfl
  · exact .refl s

theorem State.storeCommitted_lined (s : State) : Lined s s.storeCommitted := by
  unfold State.storeCommitted
  split
  · refine (State.report_sheds _ _).lined.after ?_
    exact .of_eq rfl rfl
  · exact .refl s

/-! ## The Stack Command Channel (R136 to R141) -/

theorem State.faultEvent_lined (k : Station) (s : State) (i : EventIx) : Lined s (State.faultEvent k s i) := by
  unfold State.faultEvent
  split
  · exact .refl s
  · split
    · split
      · exact (s.addMark_lined i _).trans (State.bypass_lined _ i _ _)
      · exact s.addMark_lined i _
    · exact .refl s

theorem State.faultEffects_lined (s : State) (k : Station) : Lined s (s.faultEffects k) := by
  refine LinedOn.trans ?_ (LinedOn.foldl (State.faultEvent_lined k) _ _)
  split
  · exact .of_eq (by simp) (by simp)
  · exact .refl s

theorem State.reportFault_lined (s : State) (k : Station) (expired : Option Command) (flushed : Nat)
    (event : Option EventIx) (release : Option ReleaseIx) : Lined s (s.reportFault k expired flushed event release) := by
  unfold State.reportFault
  refine (State.report_sheds _ _).lined.after ?_
  split
  · exact .of_eq rfl rfl
  · exact .refl s

theorem State.modView_lined (s : State) (k : Station) (f : StackView → StackView) : Lined s (s.modView k f) := .of_eq rfl rfl

theorem State.trip_lined (s : State) (k : Station) : Lined s (s.trip k) := by
  unfold State.trip
  dsimp only
  split
  · exact .refl s
  · have hset : Lined s (s.setView k { s.view k with tripped := true }) := .of_eq rfl rfl
    split
    · exact hset.trans (State.reportFault_lined _ _ _ _ _ _)
    · refine (State.reportFault_lined _ _ _ _ _ _).after (LinedOn.trans (hset.trans (State.faultEffects_lined _ k)) ?_)
      split
      · exact (State.queueCommand_sheds _ _ _).lined
      · exact .refl _

theorem State.settleAcknowledged_lined (s : State) (k : Station) (q : Seq) : Lined s (s.settleAcknowledged k q) := by
  unfold State.settleAcknowledged
  split
  · exact .refl s
  · exact (s.modView_lined k _).trans (State.placeHeld_sheds _ k).lined

theorem State.settleFaults_lined (s : State) (k : Station) (x : StackState) : Lined s (s.settleFaults k x) := by
  unfold State.settleFaults
  split
  · exact s.trip_lined k
  · split
    · exact s.modView_lined k _
    · exact .refl s

theorem State.tidyStack_lined (s : State) (k : Station) (x : StackState) : Lined s (s.tidyStack k x) := by
  unfold State.tidyStack
  dsimp only
  split
  · exact (s.queueCommand_sheds _ _).lined
  · exact .refl s

theorem State.takeNotice_lined (s : State) (n : Notice) : Lined s (s.takeNotice n) := by
  have hconfirmed : Lined s (match s.releaseOf n.stack with
      | none => s
      | some r => match s.release r with
        | none => s
        | some x => if n.confirms x then s.confirmRelease r else s) := by
    split
    · exact .refl s
    · split
      · exact .refl s
      · split
        · exact s.confirmRelease_lined _
        · exact .refl s
  unfold State.takeNotice
  dsimp only
  split
  · exact hconfirmed.trans (State.availabilityCheck_lined _ _)
  · exact hconfirmed

theorem State.notify_lined (s : State) (n : Notice) (turn : NoticeTurn) : Lined s (s.notify n turn) := by
  unfold State.notify
  split
  · exact s.takeNotice_lined n
  · exact .of_eq rfl rfl

theorem State.statusSteps_lined (s : State) (k : Station) (x : HandedStatus) (turn : NoticeTurn) :
    Lined s (s.statusSteps k x turn) := by
  have hfields := (s.settleAcknowledged_lined k x.sequence).trans (State.modView_lined _ k (StackView.reports x))
  exact ((hfields.trans (State.settleFaults_lined _ k x.state)).trans (State.notify_lined _ _ turn)).trans
    (State.tidyStack_lined _ k x.state)

theorem State.takeStatus_lined (s : State) (x : HandedStatus) (turn : NoticeTurn) : Lined s (s.takeStatus x turn) := by
  unfold State.takeStatus
  dsimp only
  split
  · exact s.countPort_lined _
  · split
    · exact s.statusSteps_lined _ x turn
    · exact s.countPort_lined _

theorem State.flush_lined (s : State) (k : Station) : Lined s (s.flush k) := by
  unfold State.flush
  refine (State.queueCommand_sheds _ _ _).lined.after ?_
  exact .of_eq rfl rfl

theorem State.ackExpires_lined (s : State) (k : Station) : Lined s (s.ackExpires k) := by
  unfold State.ackExpires
  dsimp only
  split
  · exact .refl s
  · split
    · exact (s.flush_lined k).trans (State.reportFault_lined _ _ _ _ _ _)
    · exact ((s.flush_lined k).trans (State.faultEffects_lined _ k)).trans (State.reportFault_lined _ _ _ _ _ _)

/-! ## The Envelope Unit (R55 to R62) -/

theorem State.breach_lined (s : State) (i : EventIx) (e : Event) : Lined s (s.breach i e) := by
  have hmarked : Lined s ((s.addMark i .breach).addAlarm e.bus .breach) := (s.addMark_lined i _).trans (.of_eq rfl rfl)
  unfold State.breach
  dsimp only
  split
  · exact hmarked.trans (State.bypass_lined _ i _ _)
  · exact hmarked

theorem State.judge_lined {s : State} {i : EventIx} {e : Event} (he : s.entry i = some e) (f : SenseFrame) :
    Lined s (s.judge i e f) := by
  have hset : ∀ square below, Lined s (s.setEntry i (some (e.exposed square below))) := fun _ _ =>
    State.setEntry_lined he (.of_same rfl rfl)
  unfold State.judge
  dsimp only
  split
  · exact (hset _ _).trans (State.breach_lined _ i e)
  · exact hset _ _

theorem State.envelopeTakes_lined (s : State) (f : AcceptedFrame) : Lined s (s.envelopeTakes f) := by
  unfold State.envelopeTakes
  split
  · exact .refl s
  · split
    · exact .refl s
    · next he =>
      split
      · exact State.judge_lined he _
      · exact .refl s

/-! ## The Injection Unit (R114) -/

theorem State.meterEvent_lined {s : State} {i : EventIx} {e : Event} (he : s.entry i = some e) (n micros : Nat)
    (timestamp : U32) : Lined s (s.meterEvent i e n micros timestamp) := by
  have hput : Lined s (s.putRecounted i (e.metered n timestamp)) := State.putRecounted_lined he (.of_same rfl rfl)
  unfold State.meterEvent
  refine (State.endSpentWait_lined _ i).after (hput.trans ?_)
  split
  · exact .of_eq rfl rfl
  · exact .refl _

theorem State.meterInto_lined (s : State) (k : Station) (n micros : Nat) (timestamp : U32) :
    Lined s (s.meterInto k n micros timestamp) := by
  unfold State.meterInto
  split
  · split
    · split
      · exact .of_eq rfl rfl
      · exact .refl s
    · exact .refl s
  · split
    · exact .refl s
    · split
      · next he =>
        split
        · exact State.meterEvent_lined he _ _ _
        · exact .refl s
      · exact .refl s

theorem State.meter_lined (s : State) (f : AcceptedFrame) : Lined s (s.meter f) :=
  .foldl (fun s k => by
    unfold State.meterStack
    split
    · exact s.meterInto_lined _ _ _ _
    · exact .refl s) _ s

theorem State.bringTopup_lined (s : State) (i : EventIx) (e : Event) : Lined s (s.bringTopup i e) := by
  unfold State.bringTopup
  split
  · exact .of_eq rfl rfl
  · exact .refl s

theorem State.emitReference_lined {s : State} {i : EventIx} {e : Event} (he : s.entry i = some e) (f : SenseFrame) (t : Nat) :
    Lined s (s.emitReference i e f t) :=
  (State.placeReference_sheds _ _ _).lined.after (State.setEntry_lined he (.of_same rfl rfl))

theorem State.stepAndEmit_lined {s : State} {i : EventIx} {e : Event} (he : s.entry i = some e) (f : SenseFrame) :
    Lined s (s.stepAndEmit i e f) := by
  unfold State.stepAndEmit
  dsimp only
  split
  · have hset : Lined s (s.setEntry i (some e.steppedDown)) := State.setEntry_lined he (.of_same rfl rfl)
    split
    · exact hset.trans (State.bypass_lined _ _ _ _)
    · exact hset.trans (State.emitReference_lined (s.entry_setEntry i i _ |>.trans (if_pos rfl)) _ _)
  · exact State.emitReference_lined he _ _

theorem State.drive_lined {s : State} {i : EventIx} {e : Event} (he : s.entry i = some e) (f : SenseFrame) :
    Lined s (s.drive i e f) := by
  unfold State.drive
  split
  · exact State.bypass_lined _ _ _ _
  · exact (s.bringTopup_lined i e).trans (State.stepAndEmit_lined ((s.bringTopup_entry i i e).trans he) _)

theorem State.injectionTakes_lined (s : State) (f : AcceptedFrame) : Lined s (s.injectionTakes f) := by
  refine (s.meter_lined f).trans ?_
  unfold State.injectionTakes
  dsimp only
  split
  · exact .refl _
  · split
    · exact .refl _
    · next he =>
      split
      · exact State.drive_lined he _
      · exact .refl _

/-! ## The ring ports (R159 to R168) -/

theorem State.deliver_lined (s : State) (bytes : List Byte) : Lined s (s.deliver bytes) := by
  have hmalformed : Lined s s.malformed := .of_eq rfl rfl
  unfold State.deliver
  dsimp only
  split
  · unfold State.arriveSense
    split
    · exact .of_eq rfl rfl
    · exact hmalformed
  · unfold State.arriveStore
    split
    · exact .of_eq rfl rfl
    · exact hmalformed
  · unfold State.arriveStatus
    split
    · exact .of_eq rfl rfl
    · exact hmalformed
  · unfold State.arriveRequest
    split
    · exact s.countPort_lined _
    · split
      · unfold State.enterRequest
        split
        · exact .of_eq rfl rfl
        · exact s.countPort_lined _
      · exact hmalformed
  · exact s.countPort_lined _

theorem State.arrive_lined (s : State) (bytes : List Byte) : Lined s (s.arrive bytes) := by
  have hclass : ∀ u : State, Lined u (u.classify bytes) := fun u => by
    unfold State.classify
    split
    · exact .of_eq rfl rfl
    · split
      · exact u.countPort_lined _
      · split
        · exact (u.enqueueTransit_sheds bytes).lined
        · exact u.deliver_lined bytes
  unfold State.arrive
  dsimp only
  split
  · exact (s.countPort_lined _).trans (hclass _)
  · exact (s.countPort_lined _).trans (State.countPort_lined _ _)

theorem State.complete_lined (s : State) : Lined s s.complete := by
  unfold State.complete
  split
  · exact .refl s
  · next p _ =>
    refine LinedOn.trans ?_ (State.kick_sheds _).lined
    refine (s.countPort_lined (PortCounters.sent p.frame)).trans (LinedOn.trans (t := State.completionNotices _ p.frame) ?_
      (.of_eq rfl rfl))
    unfold State.completionNotices
    split
    · dsimp only
      split
      · exact .of_eq rfl rfl
      · exact .of_eq rfl rfl
    · exact .refl _
    · exact .refl _
    · exact .refl _

/-! ## Bus Watch without an opening -/

theorem State.modChannel_lined (s : State) (b : Bus) (f : BusChannel → BusChannel) : Lined s (s.modChannel b f) := .of_eq rfl rfl

theorem State.enterNormal_lined (s : State) (b : Bus) : Lined s (s.enterNormal b) := by
  rw [State.enterNormal_eq]
  refine (State.tidyBus_sheds _ b).lined.after ?_
  exact .of_eq rfl rfl

theorem State.endUntracked_lined (s : State) (b : Bus) : Lined s (s.endUntracked b) := by
  rw [State.endUntracked_eq]
  exact .of_eq rfl rfl

theorem State.endSag_lined (s : State) (b : Bus) (cause : EndCause) : Lined s (s.endSag b cause) := by
  cases h : (s.channel b).openEvent with
  | none =>
    rw [State.endSag_none cause h]
    exact s.endUntracked_lined b
  | some i =>
    rw [State.endSag_some cause h]
    exact ((s.endUntracked_lined b).trans (State.endEvent_lined _ i cause)).trans (State.modChannel_lined _ b _)

theorem State.silenceExpires_lined (s : State) (b : Bus) : Lined s (s.silenceExpires b) := by
  unfold State.silenceExpires
  split
  · exact (State.report_sheds _ _).lined.after
      ((s.endSag_lined b _).trans ((State.modChannel_lined _ b _).trans (State.modChannel_lined _ b _)))
  · exact .refl s

/-! ## The time base -/

theorem State.expire_lined {s : State} (hs : GrantQueueSound s) (x : Timer) : Lined s (s.expire x) := by
  cases x with
  | silence b => exact s.silenceExpires_lined b
  | store => exact s.storeExpires_lined
  | acknowledgement k => exact s.ackExpires_lined k
  | wait kind i => cases kind with
    | first => exact s.firstExpires_lined i
    | topup => exact State.topupExpires_lined hs i

theorem foldl_expireInTime_grantQueueSound {s : State} (hs : GrantQueueSound s) (l : List Running) :
    GrantQueueSound (l.foldl State.expireInTime s) := by
  induction l generalizing s with
  | nil => exact hs
  | cons x l ih =>
    have hn : Lined s { s with now := max s.now x.expiry } := .of_eq rfl rfl
    have hns := hn.grantQueueSound hs
    exact ih ((State.expire_lined hns x.timer).grantQueueSound hns)

theorem State.at_grantQueueSound {s : State} (hs : GrantQueueSound s) (time : Nat) : GrantQueueSound (s.at time) := by
  have hn : Lined ((s.overdue (max s.now time)).foldl State.expireInTime s) (s.at time) := .of_eq rfl rfl
  exact hn.grantQueueSound (foldl_expireInTime_grantQueueSound hs _)

end Sys2Proof.Machine
end

section
/-! SUPPORT. The Grant Queue across an opening, the management requests and every command; the settlement of O5 and O12. -/

namespace Sys2Proof.Machine

/-! ## Openings (R29 to R31) -/

/-- What every operation is to do: keep the Grant Queue sound. -/
def Upkeeps (s t : State) : Prop := GrantQueueSound s → GrantQueueSound t

theorem LinedOn.upkeeps {s t : State} (h : Lined s t) : Upkeeps s t := h.grantQueueSound

theorem Upkeeps.refl (s : State) : Upkeeps s s := id

theorem Upkeeps.trans {s t u : State} (h : Upkeeps s t) (k : Upkeeps t u) : Upkeeps s u := fun hs => k (h hs)

/-- The second of two changes named first. -/
theorem Upkeeps.after {s t u : State} (k : Upkeeps t u) (h : Upkeeps s t) : Upkeeps s u := h.trans k

/-- A free entry has no request. -/
theorem GrantQueueSound.free {s : State} (hs : GrantQueueSound s) {i : EventIx} (hi : s.entry i = none) :
    ∀ q ∈ s.pool.grantQueue, q.event ≠ i := by
  rintro q hq rfl
  obtain ⟨e, he, -⟩ := hs.owned q hq
  simp [hi] at he

/-- An event started in a free entry (R31): UNPROTECTED, or REQUESTING with its FIRST request. -/
theorem State.startEvent_upkeeps {s : State} {i : EventIx} {e : Event} (hi : s.entry i = none) (hr : e.state = .requesting)
    (f : SenseFrame) : Upkeeps s (s.startEvent i e f) := by
  intro hs
  have hn := hs.free hi
  unfold State.startEvent
  dsimp only
  split
  · refine (LinedOn.lined (s.setEntry_but_lined i (some e.unprotected)) hn fun e' he' => ?_).grantQueueSound hs
    rw [State.entry_setEntry, if_pos rfl] at he'
    cases he'
    simp [Event.unprotected]
  · generalize e.copy.firstAmount (s.view e.copy.stack).derate s.minimumGrant f = amount
    exact hs.enter (q := ⟨i, .first, amount, e.copy.cls, s.now, s.now + e.copy.envelope.waitLimit * 1000⟩)
      (e := { e with firstAmount := amount }) hn rfl ((s.entry_setEntry i i _).trans (if_pos rfl))
      (fun j hj => (s.entry_setEntry i j _).trans (if_neg (Ne.symm hj))) rfl (fun _ => hr) (by simp)

theorem State.truncatePass_lined (s : State) (k : CaptureIx) : Lined s (s.truncatePass k) := by
  unfold State.truncatePass
  split
  · split
    · exact .refl s
    · exact s.addMark_lined _ _
  · exact .refl s

theorem State.attachRecorder_lined (s : State) (k : CaptureIx) (i : EventIx) (f : AcceptedFrame) :
    Lined s (s.attachRecorder k i f) := by
  unfold State.attachRecorder
  refine (State.modRecorder_sheds _ _ _).lined.after ((State.writeRecord_sheds _ _ _ _).lined.after
    (LinedOn.after (State.modEvent_lined fun _ _ => .of_same rfl rfl) (s.modRecorder_sheds k _).lined))

theorem State.captureOpening_lined (s : State) (i : EventIx) (choice : Option CaptureIx) (f : AcceptedFrame) :
    Lined s (s.captureOpening i choice f) := by
  unfold State.captureOpening
  split
  · exact .refl s
  · split
    · exact s.addMark_lined _ _
    · have hcaught := (s.captureCaughtUp_sheds f.bus).lined
      refine LinedOn.trans ?_ (State.attachRecorder_lined _ _ _ _)
      split
      · exact hcaught.trans (State.truncatePass_lined _ _)
      · exact hcaught

theorem State.openEvent_upkeeps {s t : State} {r : BusRow} {start : U32} {lowest : Nat} {f : AcceptedFrame} {i : EventIx}
    (h : s.openEvent r start lowest f = some (i, t)) : Upkeeps s t := by
  unfold State.openEvent at h
  split at h
  · cases h
  · next j hj =>
    simp only [Option.some.injEq, Prod.mk.injEq] at h
    obtain ⟨rfl, rfl⟩ := h
    refine (State.captureOpening_lined _ _ _ _).upkeeps.after (.after
      (t := ({ s with events.openCounter := s.events.openCounter + 1 } : State).setRate j none) ?_ (LinedOn.upkeeps ?_))
    · refine State.startEvent_upkeeps ?_ ?_ _
      · exact State.freeEntry_free hj
      · rfl
    · exact .of_eq rfl rfl

/-! ## Bus Watch -/

theorem State.confirmSag_upkeeps (s : State) (b : Bus) (r : BusRow) (f : AcceptedFrame) : Upkeeps s (s.confirmSag b r f) := by
  unfold State.confirmSag
  dsimp only
  split
  · next h =>
    refine (State.openEvent_upkeeps h).trans (LinedOn.upkeeps ?_)
    exact .of_eq rfl rfl
  · exact LinedOn.upkeeps (.of_eq rfl rfl)

theorem State.evaluateSwell_lined (s : State) (b : Bus) (r : BusRow) (f : AcceptedFrame) : Lined s (s.evaluateSwell b r f) := by
  rw [State.evaluateSwell_eq]
  exact .of_eq rfl rfl

theorem State.evaluateNormal_upkeeps (s : State) (b : Bus) (r : BusRow) (f : AcceptedFrame) :
    Upkeeps s (s.evaluateNormal b r f) := by
  have hswell := s.evaluateSwell_lined b r f
  unfold State.evaluateNormal
  dsimp only
  split
  · split
    · exact (State.confirmSag_upkeeps _ b r f).after (hswell.trans (State.modChannel_lined _ b _)).upkeeps
    · exact (hswell.trans (State.modChannel_lined _ b _)).upkeeps
  · exact hswell.upkeeps

theorem State.evaluateSuspect_upkeeps (s : State) (b : Bus) (r : BusRow) (f : AcceptedFrame) :
    Upkeeps s (s.evaluateSuspect b r f) := by
  unfold State.evaluateSuspect
  split
  · dsimp only
    split
    · exact (State.confirmSag_upkeeps _ b r f).after (s.modChannel_lined b _).upkeeps
    · exact (s.modChannel_lined b _).upkeeps
  · exact ((s.modChannel_lined b _).trans (State.enterNormal_lined _ b)).upkeeps

theorem State.lowerStrike_lined (s : State) (b : Bus) (f : AcceptedFrame) : Lined s (s.lowerStrike b f) := by
  unfold State.lowerStrike
  split
  · refine State.modEvent_lined fun e _ => ?_
    unfold Event.lowerStrike
    split <;> exact .of_same rfl rfl
  · exact .refl s

theorem State.renewStrike_lined (s : State) (b : Bus) (f : AcceptedFrame) : Lined s (s.renewStrike b f) := by
  unfold State.renewStrike
  split
  · refine State.modEvent_lined fun e _ => ?_
    unfold Event.addStrike
    split <;> exact .of_same rfl rfl
  · exact .refl s

theorem State.completeRecovery_lined (s : State) (b : Bus) : Lined s (s.completeRecovery b) :=
  (s.endSag_lined b _).trans (State.enterNormal_lined _ b)

theorem State.evaluateSag_lined (s : State) (b : Bus) (r : BusRow) (f : AcceptedFrame) : Lined s (s.evaluateSag b r f) := by
  refine (s.lowerStrike_lined b f).trans ?_
  unfold State.evaluateSag
  dsimp only
  split
  · exact .refl _
  · split
    · exact (State.modChannel_lined _ b _).trans (State.completeRecovery_lined _ b)
    · exact State.modChannel_lined _ b _

theorem State.evaluateRecovering_lined (s : State) (b : Bus) (r : BusRow) (f : AcceptedFrame) :
    Lined s (s.evaluateRecovering b r f) := by
  unfold State.evaluateRecovering
  split
  · dsimp only
    split
    · exact (s.modChannel_lined b _).trans (State.completeRecovery_lined _ b)
    · exact s.modChannel_lined b _
  · split
    · exact s.modChannel_lined b _
    · exact (s.modChannel_lined b _).trans (State.renewStrike_lined _ b f)

theorem State.enterFaulted_lined (s : State) (b : Bus) (f : AcceptedFrame) : Lined s (s.enterFaulted b f) :=
  ((s.endSag_lined b _).trans (State.modChannel_lined _ b _)).trans (State.report_sheds _ _).lined

theorem State.evaluateFaulted_lined (s : State) (b : Bus) (r : BusRow) (f : AcceptedFrame) :
    Lined s (s.evaluateFaulted b r f) := by
  unfold State.evaluateFaulted
  split
  · exact s.modChannel_lined b _
  · dsimp only
    split
    · exact (State.report_sheds _ _).lined.after ((s.modChannel_lined b _).trans (State.enterNormal_lined _ b))
    · exact s.modChannel_lined b _

theorem State.evaluate_upkeeps (s : State) (b : Bus) (r : BusRow) (f : AcceptedFrame) : Upkeeps s (s.evaluate b r f) := by
  have hfault := (s.enterFaulted_lined b f).upkeeps
  unfold State.evaluate
  split
  · exact (s.evaluateFaulted_lined b r f).upkeeps
  · exact ((State.report_sheds _ _).lined.after (s.enterNormal_lined b)).upkeeps
  · exact .refl _
  · split
    · exact hfault
    · exact s.evaluateNormal_upkeeps b r f
  · split
    · exact hfault
    · exact s.evaluateSuspect_upkeeps b r f
  · split
    · exact hfault
    · exact (s.evaluateSag_lined b r f).upkeeps
  · split
    · exact hfault
    · exact (s.evaluateRecovering_lined b r f).upkeeps

theorem State.takeSense_upkeeps (s : State) (x : HandedSense) : Upkeeps s (s.takeSense x) := by
  unfold State.takeSense
  split
  · exact (s.countPort_lined _).upkeeps
  · exact (s.modChannel_lined _ _).upkeeps
  · exact (s.modChannel_lined _ _).upkeeps
  · exact (s.modChannel_lined _ _).upkeeps
  · next b r _ =>
    have heval := State.evaluate_upkeeps (s.modChannel b (BusChannel.accept s.now r x)) b r ((s.channel b).acceptedFrame b r x)
    exact (heval.after (s.modChannel_lined b _).upkeeps).trans (LinedOn.upkeeps (.of_eq rfl rfl))

theorem State.takeNextSense_upkeeps (s : State) : Upkeeps s s.takeNextSense := by
  unfold State.takeNextSense
  split
  · exact .refl _
  · refine (State.takeSense_upkeeps _ _).after (LinedOn.upkeeps ?_)
    exact .of_eq rfl rfl

theorem State.settleAhead_upkeeps (s : State) : Upkeeps s s.settleAhead := by
  unfold State.settleAhead
  split
  · exact .refl _
  · split
    · exact s.takeNextSense_upkeeps
    · exact .refl _

theorem State.markAhead_lined (s : State) (mark : TakenAhead → TakenAhead) : Lined s (s.markAhead mark) := by
  unfold State.markAhead
  split
  · exact .refl s
  · exact .of_eq rfl rfl

theorem State.serviceOff_lined (s : State) (b : Bus) : Lined s (s.serviceOff b) := by
  unfold State.serviceOff
  dsimp only
  split
  · exact .refl s
  · exact (State.report_sheds _ _).lined.after
      ((s.endSag_lined b _).trans ((State.modChannel_lined _ b _).trans (State.modChannel_lined _ b _)))

theorem State.startSilence_lined (s : State) (b : Bus) : Lined s (s.startSilence b) := by
  unfold State.startSilence
  split
  · exact .refl s
  · exact s.modChannel_lined b _

theorem State.serviceOn_lined {s t : State} {b : Bus} (h : s.serviceOn b = some t) : Lined s t := by
  unfold State.serviceOn at h
  split at h
  · cases h; exact .refl s
  · split at h
    · cases h
    · cases h
      exact (State.report_sheds _ _).lined.after (((s.modChannel_lined b _).trans (State.enterNormal_lined _ b)).trans
        (State.startSilence_lined _ b))

/-! ## The management requests -/

/-- What a command may change of the budget and the banks (R66, R173). -/
structure Scope where
  budget : Bool
  standby : Bool
  selector : Bool

/-- A command that changes nothing of them. -/
def Scope.none : Scope := ⟨false, false, false⟩

/-- A load of the standby bank (R174). -/
def Scope.loads : Scope := ⟨false, true, false⟩

/-- COMMIT BANK (R180). -/
def Scope.commits : Scope := ⟨false, false, true⟩

/-- A store confirmation and RESTART (R103, R189). -/
def Scope.budgets : Scope := ⟨true, false, false⟩

/-- The Grant Queue is kept, and of the budget, the banks and the selector what is out of the scope. -/
structure Handles (a : Scope) (s t : State) : Prop where
  upkeeps : Upkeeps s t
  budget : a.budget = false → t.pool.budget = s.pool.budget
  bank : a.standby = false → t.banks.bank = s.banks.bank
  active : a.selector = false → t.banks.active = s.banks.active
  activeBank : a.selector = false → t.activeBank = s.activeBank

section Handling

variable {a : Scope} {s t u : State}

theorem Handles.trans (h : Handles a s t) (k : Handles a t u) : Handles a s u :=
  ⟨h.upkeeps.trans k.upkeeps, fun x => (k.budget x).trans (h.budget x), fun x => (k.bank x).trans (h.bank x),
    fun x => (k.active x).trans (h.active x), fun x => (k.activeBank x).trans (h.activeBank x)⟩

theorem Handles.of_upkeeps (h : Upkeeps s t) (hb : t.pool.budget = s.pool.budget) (hk : t.banks = s.banks) : Handles a s t :=
  ⟨h, fun _ => hb, fun _ => by rw [hk], fun _ => by rw [hk], fun _ => State.activeBank_congr hk⟩

theorem Handles.of_lined (h : Lined s t) (hb : t.pool.budget = s.pool.budget) (hk : t.banks = s.banks) : Handles a s t :=
  .of_upkeeps h.upkeeps hb hk

theorem Handles.refl (s : State) : Handles a s s := .of_lined (.refl s) rfl rfl

theorem State.unless_handles {reason : Option Reason} {go : Handled} (h : Handles a s go.1) :
    Handles a s (s.unless reason go).1 := by
  cases reason with
  | none => exact h
  | some r => exact .refl s

theorem State.onBus_handles {fields : List Byte} {go : Bus → Handled} (h : ∀ b, Handles a s (go b).1) :
    Handles a s (s.onBus fields go).1 := by
  unfold State.onBus
  split
  · exact .refl s
  · exact h _

theorem State.onRecorder_handles {n : Nat} {fields : List Byte} {go : CaptureIx → Handled}
    (h : ∀ k, Handles a s (go k).1) : Handles a s (s.onRecorder n fields go).1 := by
  unfold State.onRecorder
  split
  · exact .refl s
  · exact h _

theorem State.answerHead_handles {f : Request → State → Handled} (h : ∀ r s, Handles a s (f r s).1) (row : RequestRow)
    (s : State) : Handles a s (s.answerHead row f) := by
  unfold State.answerHead
  split
  · exact .refl s
  · split
    · next r rest _ _ =>
      have htaken : Handles a s { s with management.requests := rest } := .of_lined (.of_eq rfl rfl) rfl rfl
      exact (htaken.trans (h r _)).trans (.of_lined (State.respond_sheds _ _).lined (by simp) (by simp))
    · exact .refl s

theorem State.answerSettled_handles {f : Request → State → Handled} (h : ∀ r s, Handles a s (f r s).1) (row : RequestRow)
    (s : State) : Handles a s (s.answerSettled row f) := by
  unfold State.answerSettled
  refine Handles.trans ?_ (State.answerHead_handles h row _)
  split
  · exact .of_upkeeps s.settleAhead_upkeeps (by simp) (by simp)
  · exact .refl s

end Handling

/-- A load changes the bank that is not active (R173). -/
theorem State.setStandby_handles (s : State) (b : Bank) : Handles .loads s (s.setStandby b) where
  upkeeps := LinedOn.upkeeps (.of_eq rfl rfl)
  budget := fun _ => rfl
  bank := fun h => by cases h
  active := fun _ => rfl
  activeBank := fun _ => by
    have hne := BankIx.other_ne s.banks.active
    simp [State.activeBank, State.bank, State.setStandby, State.standbyIx, Fin.val_inj, hne]

theorem loadBusRow_handles (r : Request) (s : State) : Handles .loads s (loadBusRow r s).1 := by
  refine State.unless_handles (State.unless_handles ?_)
  split
  · exact .refl s
  · refine State.unless_handles ?_
    unfold State.loadRowOf
    split
    · exact s.setStandby_handles _
    · refine State.unless_handles ?_
      split
      · exact .refl s
      · exact s.setStandby_handles _

theorem loadEnvelopeRow_handles (r : Request) (s : State) : Handles .loads s (loadEnvelopeRow r s).1 := by
  refine State.unless_handles (State.unless_handles (State.unless_handles ?_))
  split
  · exact .refl s
  · exact s.setStandby_handles _

theorem loadStoreParameters_handles (r : Request) (s : State) : Handles .loads s (loadStoreParameters r s).1 := by
  refine State.unless_handles (State.unless_handles (State.unless_handles ?_))
  unfold State.loadStoreOf
  split
  · exact s.setStandby_handles _
  · refine State.unless_handles ?_
    split
    · exact .refl s
    · exact s.setStandby_handles _

theorem readRow_handles (r : Request) (s : State) : Handles .none s (readRow r s).1 := by
  refine State.unless_handles ?_
  split
  · exact .refl s
  · unfold State.readTable
    split
    · split <;> exact .refl s
    · split <;> exact .refl s
    · exact .refl s
    · exact .refl s

theorem commitBank_handles (r : Request) (s : State) : Handles .commits s (commitBank r s).1 := by
  refine State.unless_handles (State.unless_handles ?_)
  obtain ⟨hp, -, he, -, -⟩ := s.switched_frame
  have hswitched : Handles .commits s s.switched :=
    ⟨LinedOn.upkeeps (.of_eq (by rw [he]) (by rw [hp])), fun _ => by rw [hp], fun _ => rfl, nofun,
      nofun⟩
  rw [State.commit_fst]
  exact hswitched.trans (.of_lined s.switched.storeCommitted_lined (by simp) (by simp))

theorem setServiceOff_handles (r : Request) (s : State) : Handles .none s (setServiceOff r s).1 :=
  State.unless_handles (State.onBus_handles fun b => State.unless_handles
    (.of_lined (t := s.serviceOff b) (s.serviceOff_lined b) (by simp) (by simp)))

theorem State.serviceOn_handles {s t : State} {b : Bus} (h : s.serviceOn b = some t) : Handles .none s t := by
  refine .of_lined (State.serviceOn_lined h) ?_ ?_
  all_goals
    unfold State.serviceOn at h
    split at h
    · cases h; rfl
    · split at h
      · cases h
      · cases h; simp

theorem setServiceOn_handles (r : Request) (s : State) : Handles .none s (setServiceOn r s).1 := by
  refine State.unless_handles (State.onBus_handles fun b => ?_)
  split
  · next h => exact State.serviceOn_handles h
  · exact .refl s

theorem captureMask_handles (r : Request) (s : State) : Handles .none s (captureMask r s).1 := by
  refine State.unless_handles (State.onRecorder_handles fun k => ?_)
  refine Handles.of_lined (t := s.maskRecorder k) ?_ (by simp) (by simp)
  unfold State.maskRecorder
  refine (State.modRecorder_sheds _ _ _).lined.after ?_
  split
  · exact s.truncatePass_lined k
  · exact .refl s

theorem captureUnmask_handles (r : Request) (s : State) : Handles .none s (captureUnmask r s).1 :=
  State.unless_handles (State.onRecorder_handles fun k => State.unless_handles (.of_lined (s.modRecorder_sheds k _).lined rfl rfl))

theorem loadCaptureChannel_handles (r : Request) (s : State) : Handles .none s (loadCaptureChannel r s).1 := by
  refine State.unless_handles (State.onRecorder_handles fun k => State.unless_handles (State.unless_handles (State.unless_handles ?_)))
  split
  · exact .refl s
  · exact .of_lined (s.modRecorder_sheds k _).lined rfl rfl

theorem readCaptureRecords_handles (r : Request) (s : State) : Handles .none s (readCaptureRecords r s).1 :=
  State.unless_handles (State.unless_handles (State.unless_handles (State.unless_handles (State.unless_handles (.refl s)))))

theorem readCaptureChannel_handles (r : Request) (s : State) : Handles .none s (readCaptureChannel r s).1 :=
  State.unless_handles (State.onRecorder_handles fun _ => .refl s)

theorem readIdentity_handles (r : Request) (s : State) : Handles .none s (readIdentity r s).1 := State.unless_handles (.refl s)

theorem readBus_handles (r : Request) (s : State) : Handles .none s (readBus r s).1 :=
  State.unless_handles (State.onBus_handles fun _ => .refl s)

theorem takeAlarmsBus_handles (r : Request) (s : State) : Handles .none s (takeAlarmsBus r s).1 :=
  State.unless_handles (State.onBus_handles fun _ => Handles.of_lined (.of_eq rfl rfl) rfl rfl)

theorem takeAlarmsPool_handles (r : Request) (s : State) : Handles .none s (takeAlarmsPool r s).1 :=
  State.unless_handles (Handles.of_lined (.of_eq rfl rfl) rfl rfl)

theorem readEvent_handles (r : Request) (s : State) : Handles .none s (readEvent r s).1 := by
  refine State.unless_handles ?_
  split <;> exact .refl s

theorem readPool_handles (r : Request) (s : State) : Handles .none s (readPool r s).1 := State.unless_handles (.refl s)

theorem readRelease_handles (r : Request) (s : State) : Handles .none s (readRelease r s).1 := by
  refine State.unless_handles ?_
  split <;> exact .refl s

theorem readPorts_handles (r : Request) (s : State) : Handles .none s (readPorts r s).1 := State.unless_handles (.refl s)

theorem latchMetering_handles (r : Request) (s : State) : Handles .none s (latchMetering r s).1 := by
  refine State.unless_handles ?_
  split
  · exact .refl s
  · exact Handles.of_lined (.of_eq rfl rfl) rfl rfl

theorem readSnapshot_handles (r : Request) (s : State) : Handles .none s (readSnapshot r s).1 := by
  refine State.unless_handles (State.unless_handles (State.unless_handles ?_))
  split
  · exact .refl s
  · show Handles .none s (if byteAt r.fields 1 = 1 then { s with management.snapshot := none } else s)
    split
    · exact Handles.of_lined (.of_eq rfl rfl) rfl rfl
    · exact .refl s

/-- A restart leaves no entry and no request (R189). -/
theorem State.restart_grantQueueSound (s : State) (force : Bool) : GrantQueueSound (s.restart force).1 := by
  obtain ⟨-, -, -, he, -⟩ := s.restart_parts force
  have hfold : (allBuses.foldl State.restartBus (s.emptied s.restartStacks)).pool.grantQueue =
      (s.emptied s.restartStacks).pool.grantQueue := by simp
  have hq : (s.restart force).1.pool.grantQueue = [] := by
    rw [State.restart_fst]
    generalize allBuses.foldl State.restartBus (s.emptied s.restartStacks) = t at hfold ⊢
    exact hfold
  exact ⟨by simp [hq], by simp [hq], by simp [hq], fun i e h => by simp [he] at h⟩

theorem restart_handles (r : Request) (s : State) : Handles .budgets s (restart r s).1 := by
  refine State.unless_handles (State.unless_handles ?_)
  split
  · exact .refl s
  · obtain ⟨-, -, hb, -, -⟩ := s.restart_parts (decide (byteAt r.fields 0 = 1))
    exact ⟨fun _ => s.restart_grantQueueSound _, nofun, fun _ => by rw [hb], fun _ => by rw [hb],
      fun _ => State.activeBank_congr hb⟩

/-! ## Every command -/

/-- What each command may change of the budget and the banks. -/
def scopeOf : Instr → Scope
  | .storeFrame => .budgets
  | .loadBusRow => .loads
  | .loadEnvelopeRow => .loads
  | .loadStoreParameters => .loads
  | .commitBank => .commits
  | .restart => .budgets
  | _ => .none

/-- A command answers a next state, with the Grant Queue kept and nothing changed out of its scope. -/
def Executes (c : Instr) (s : State) : Prop := ∃ t, exec c s = .next t ∧ Handles (scopeOf c) s t

theorem request_executes (row : RequestRow) (s : State) : Executes row.command s := by
  cases row with
  | readIdentity => exact ⟨_, rfl, State.answerHead_handles readIdentity_handles _ s⟩
  | loadBusRow => exact ⟨_, rfl, State.answerHead_handles loadBusRow_handles _ s⟩
  | loadEnvelopeRow => exact ⟨_, rfl, State.answerHead_handles loadEnvelopeRow_handles _ s⟩
  | loadStoreParameters => exact ⟨_, rfl, State.answerHead_handles loadStoreParameters_handles _ s⟩
  | readRow => exact ⟨_, rfl, State.answerHead_handles readRow_handles _ s⟩
  | commitBank => exact ⟨_, rfl, State.answerSettled_handles commitBank_handles _ s⟩
  | setServiceOff => exact ⟨_, rfl, State.answerSettled_handles setServiceOff_handles _ s⟩
  | setServiceOn => exact ⟨_, rfl, State.answerHead_handles setServiceOn_handles _ s⟩
  | captureMask => exact ⟨_, rfl, State.answerHead_handles captureMask_handles _ s⟩
  | captureUnmask => exact ⟨_, rfl, State.answerHead_handles captureUnmask_handles _ s⟩
  | loadCaptureChannel => exact ⟨_, rfl, State.answerHead_handles loadCaptureChannel_handles _ s⟩
  | readBus => exact ⟨_, rfl, State.answerHead_handles readBus_handles _ s⟩
  | takeAlarmsBus => exact ⟨_, rfl, State.answerHead_handles takeAlarmsBus_handles _ s⟩
  | takeAlarmsPool => exact ⟨_, rfl, State.answerHead_handles takeAlarmsPool_handles _ s⟩
  | readEvent => exact ⟨_, rfl, State.answerHead_handles readEvent_handles _ s⟩
  | readPool => exact ⟨_, rfl, State.answerHead_handles readPool_handles _ s⟩
  | readRelease => exact ⟨_, rfl, State.answerHead_handles readRelease_handles _ s⟩
  | readPorts => exact ⟨_, rfl, State.answerHead_handles readPorts_handles _ s⟩
  | latchMetering => exact ⟨_, rfl, State.answerHead_handles latchMetering_handles _ s⟩
  | readSnapshot => exact ⟨_, rfl, State.answerHead_handles readSnapshot_handles _ s⟩
  | readCaptureRecords => exact ⟨_, rfl, State.answerHead_handles readCaptureRecords_handles _ s⟩
  | readCaptureChannel => exact ⟨_, rfl, State.answerHead_handles readCaptureChannel_handles _ s⟩
  | restart => exact ⟨_, rfl, State.answerSettled_handles restart_handles _ s⟩
  | unknownRequest => exact ⟨_, rfl, State.answerHead_handles (fun _ s => .refl s) _ s⟩

/-- What a frame command does: its unit takes a frame from a state of the same entries, pool and banks. -/
theorem executes_of_frame {c : Instr} {s u : State} {f : AcceptedFrame} {take : State → AcceptedFrame → State}
    (ht : ∀ s f, Handles (scopeOf c) s (take s f)) (h : exec c s = .next (take u f)) (he : u.events = s.events)
    (hp : u.pool = s.pool) (hk : u.banks = s.banks) : Executes c s := by
  have hu : Handles (scopeOf c) s u := .of_lined (.of_eq (by rw [he]) (by rw [hp])) (by rw [hp]) hk
  exact ⟨_, h, hu.trans (ht u f)⟩

theorem State.markAhead_kept (s : State) (mark : TakenAhead → TakenAhead) :
    (s.markAhead mark).events = s.events ∧ (s.markAhead mark).pool = s.pool ∧ (s.markAhead mark).banks = s.banks := by
  unfold State.markAhead
  split <;> exact ⟨rfl, rfl, rfl⟩

theorem State.injectionTakes_handles (a : Scope) (s : State) (f : AcceptedFrame) : Handles a s (s.injectionTakes f) :=
  .of_lined (s.injectionTakes_lined f) (by simp) (by simp)

theorem State.envelopeTakes_handles (a : Scope) (s : State) (f : AcceptedFrame) : Handles a s (s.envelopeTakes f) :=
  .of_lined (s.envelopeTakes_lined f) (by simp) (by simp)

theorem State.captureTakes_handles (a : Scope) (s : State) (f : AcceptedFrame) : Handles a s (s.captureTakes f) :=
  .of_lined (s.captureTakes_sheds f).lined (by simp) (by simp)

theorem injectionFrame_executes (turn : FrameTurn) (s : State) : Executes (.injectionFrame turn) s := by
  cases turn with
  | passedOn =>
    cases hq : s.handed.injection with
    | nil => exact ⟨s, by simp [exec, execInjectionFrame, hq], .refl s⟩
    | cons f rest =>
      exact executes_of_frame (u := { s with handed.injection := rest }) (f := f) (State.injectionTakes_handles _)
        (by simp only [exec, execInjectionFrame, hq]) rfl rfl rfl
  | ahead =>
    cases hq : s.frameAhead s.handed.injection (·.injection) with
    | none => exact ⟨s, by simp [exec, execInjectionFrame, hq], .refl s⟩
    | some f =>
      obtain ⟨he, hp, hk⟩ := s.markAhead_kept fun t => { t with injection := true }
      exact executes_of_frame (f := f) (State.injectionTakes_handles _) (by simp only [exec, execInjectionFrame, hq]) he hp hk

theorem envelopeJudge_executes (turn : FrameTurn) (s : State) : Executes (.envelopeJudge turn) s := by
  cases turn with
  | passedOn =>
    cases hq : s.handed.envelope with
    | nil => exact ⟨s, by simp [exec, execEnvelopeJudge, hq], .refl s⟩
    | cons f rest =>
      exact executes_of_frame (u := { s with handed.envelope := rest }) (f := f) (State.envelopeTakes_handles _)
        (by simp only [exec, execEnvelopeJudge, hq]) rfl rfl rfl
  | ahead =>
    cases hq : s.frameAhead s.handed.envelope (·.envelope) with
    | none => exact ⟨s, by simp [exec, execEnvelopeJudge, hq], .refl s⟩
    | some f =>
      obtain ⟨he, hp, hk⟩ := s.markAhead_kept fun t => { t with envelope := true }
      exact executes_of_frame (f := f) (State.envelopeTakes_handles _) (by simp only [exec, execEnvelopeJudge, hq]) he hp hk

theorem captureFrame_executes (turn : FrameTurn) (s : State) : Executes (.captureFrame turn) s := by
  cases turn with
  | passedOn =>
    cases hq : s.handed.capture with
    | nil => exact ⟨s, by simp [exec, execCaptureFrame, hq], .refl s⟩
    | cons f rest =>
      exact executes_of_frame (u := { s with handed.capture := rest }) (f := f) (State.captureTakes_handles _)
        (by simp only [exec, execCaptureFrame, hq]) rfl rfl rfl
  | ahead =>
    cases hq : s.frameAhead s.handed.capture (·.capture) with
    | none => exact ⟨s, by simp [exec, execCaptureFrame, hq], .refl s⟩
    | some f =>
      obtain ⟨he, hp, hk⟩ := s.markAhead_kept fun t => { t with capture := true }
      exact executes_of_frame (f := f) (State.captureTakes_handles _) (by simp only [exec, execCaptureFrame, hq]) he hp hk

theorem storeFrame_executes (s : State) : Executes .storeFrame s := by
  cases hq : s.handed.store with
  | nil => exact ⟨s, by simp [exec, execStoreFrame, hq], .refl s⟩
  | cons x rest =>
    have h : Lined s { s with handed.store := rest } := .of_eq rfl rfl
    have hbanks : (State.takeStore { s with handed.store := rest } x).banks = s.banks := by simp
    exact ⟨_, by simp [exec, execStoreFrame, hq], (h.trans (State.takeStore_lined _ x)).upkeeps, nofun,
      fun _ => by rw [hbanks], fun _ => by rw [hbanks], fun _ => State.activeBank_congr hbanks⟩

theorem stackStatus_executes (turn : NoticeTurn) (s : State) : Executes (.stackStatus turn) s := by
  cases hq : s.handed.status with
  | nil => exact ⟨s, by simp [exec, execStackStatus, hq], .refl s⟩
  | cons x rest =>
    have h : Lined s { s with handed.status := rest } := .of_eq rfl rfl
    exact ⟨_, by simp [exec, execStackStatus, hq],
      .of_lined (h.trans (State.takeStatus_lined _ x turn)) (by simp) (by simp)⟩

theorem stackNotice_executes (s : State) : Executes .stackNotice s := by
  cases hq : s.handed.notices with
  | nil => exact ⟨s, by simp [exec, execStackNotice, hq], .refl s⟩
  | cons n rest =>
    have h : Lined s { s with handed.notices := rest } := .of_eq rfl rfl
    exact ⟨_, by simp [exec, execStackNotice, hq], .of_lined (h.trans (State.takeNotice_lined _ n)) (by simp) (by simp)⟩

theorem topupRequest_executes (s : State) : Executes .topupRequest s := by
  cases hq : s.handed.topups with
  | nil => exact ⟨s, by simp [exec, execTopupRequest, hq], .refl s⟩
  | cons x rest =>
    have h : Lined s { s with handed.topups := rest } := .of_eq rfl rfl
    exact ⟨_, by simp [exec, execTopupRequest, hq],
      .of_upkeeps (h.upkeeps.trans fun hs => State.takeTopup_grantQueueSound hs x) (by simp) (by simp)⟩

theorem State.at_handles (a : Scope) (s : State) (time : Nat) : Handles a s (s.at time) :=
  .of_upkeeps (fun hs => State.at_grantQueueSound hs time) (by simp) (by simp)

/-- An expiry taken after the move of the time base. -/
theorem State.at_expire_handles (a : Scope) (s : State) (time : Nat) (x : Timer) : Handles a s ((s.at time).expire x) :=
  (s.at_handles a time).trans (.of_upkeeps (fun hs => (State.expire_lined hs x).grantQueueSound hs) (by simp) (by simp))

theorem silenceExpiry_executes (time bus : Nat) (s : State) : Executes (.silenceExpiry time bus) s := by
  cases hb : busAt? bus with
  | none => exact ⟨_, by simp [exec, execSilenceExpiry, hb], s.at_handles _ time⟩
  | some b => exact ⟨_, by simp [exec, execSilenceExpiry, hb, State.expire], s.at_expire_handles _ time (.silence b)⟩

theorem ackTimerExpiry_executes (time stack : Nat) (s : State) : Executes (.ackTimerExpiry time stack) s := by
  cases hk : stationAt? stack with
  | none => exact ⟨_, by simp [exec, execAckTimerExpiry, hk], s.at_handles _ time⟩
  | some k => exact ⟨_, by simp [exec, execAckTimerExpiry, hk, State.expire], s.at_expire_handles _ time (.acknowledgement k)⟩

theorem firstWaitExpiry_executes (time event : Nat) (s : State) : Executes (.firstWaitExpiry time event) s := by
  cases hi : eventAt? event with
  | none => exact ⟨_, by simp [exec, execFirstWaitExpiry, hi], s.at_handles _ time⟩
  | some i => exact ⟨_, by simp [exec, execFirstWaitExpiry, hi, State.expire], s.at_expire_handles _ time (.wait .first i)⟩

theorem topupWaitExpiry_executes (time event : Nat) (s : State) : Executes (.topupWaitExpiry time event) s := by
  cases hi : eventAt? event with
  | none => exact ⟨_, by simp [exec, execTopupWaitExpiry, hi], s.at_handles _ time⟩
  | some i => exact ⟨_, by simp [exec, execTopupWaitExpiry, hi, State.expire], s.at_expire_handles _ time (.wait .topup i)⟩

/-- Every command but POWER_ON. -/
theorem exec_executes (c : Instr) (s : State) (hc : c ≠ .powerOn) : Executes c s := by
  cases c with
  | powerOn => exact absurd rfl hc
  | frameArrival time bytes =>
    exact ⟨_, rfl, (s.at_handles _ time).trans (.of_lined (State.arrive_lined _ bytes) (by simp) (by simp))⟩
  | senseFrame => exact ⟨_, rfl, .of_upkeeps s.takeNextSense_upkeeps (by simp) (by simp)⟩
  | injectionFrame turn => exact injectionFrame_executes turn s
  | envelopeJudge turn => exact envelopeJudge_executes turn s
  | captureFrame turn => exact captureFrame_executes turn s
  | silenceExpiry time bus => exact silenceExpiry_executes time bus s
  | storeFrame => exact storeFrame_executes s
  | storeSilenceExpiry time => exact ⟨_, rfl, s.at_expire_handles _ time .store⟩
  | stackStatus turn => exact stackStatus_executes turn s
  | stackNotice => exact stackNotice_executes s
  | ackTimerExpiry time stack => exact ackTimerExpiry_executes time stack s
  | topupRequest => exact topupRequest_executes s
  | servicePass => exact ⟨_, rfl, .of_upkeeps State.servicePass_grantQueueSound (by simp) (by simp)⟩
  | firstWaitExpiry time event => exact firstWaitExpiry_executes time event s
  | topupWaitExpiry time event => exact topupWaitExpiry_executes time event s
  | frameCompletion time => exact ⟨_, rfl, (s.at_handles _ time).trans (.of_lined (State.complete_lined _) (by simp) (by simp))⟩
  | readIdentity => exact request_executes .readIdentity s
  | loadBusRow => exact request_executes .loadBusRow s
  | loadEnvelopeRow => exact request_executes .loadEnvelopeRow s
  | loadStoreParameters => exact request_executes .loadStoreParameters s
  | readRow => exact request_executes .readRow s
  | commitBank => exact request_executes .commitBank s
  | setServiceOff => exact request_executes .setServiceOff s
  | setServiceOn => exact request_executes .setServiceOn s
  | captureMask => exact request_executes .captureMask s
  | captureUnmask => exact request_executes .captureUnmask s
  | loadCaptureChannel => exact request_executes .loadCaptureChannel s
  | readBus => exact request_executes .readBus s
  | takeAlarmsBus => exact request_executes .takeAlarmsBus s
  | takeAlarmsPool => exact request_executes .takeAlarmsPool s
  | readEvent => exact request_executes .readEvent s
  | readPool => exact request_executes .readPool s
  | readRelease => exact request_executes .readRelease s
  | readPorts => exact request_executes .readPorts s
  | latchMetering => exact request_executes .latchMetering s
  | readSnapshot => exact request_executes .readSnapshot s
  | readCaptureRecords => exact request_executes .readCaptureRecords s
  | readCaptureChannel => exact request_executes .readCaptureChannel s
  | restart => exact request_executes .restart s
  | unknownRequest => exact request_executes .unknownRequest s

theorem exec_handles {c : Instr} {s t : State} (hc : c ≠ .powerOn) (h : exec c s = .next t) : Handles (scopeOf c) s t := by
  obtain ⟨u, hu, hh⟩ := exec_executes c s hc
  cases hu.symm.trans h
  exact hh

/-- Every command, POWER_ON too, keeps the Grant Queue. -/
theorem exec_grantQueueSound {c : Instr} {s t : State} (hs : GrantQueueSound s) (h : exec c s = .next t) :
    GrantQueueSound t := by
  by_cases hc : c = .powerOn
  · subst hc
    cases h
    have hreset : Lined State.reset { State.reset with pending := s.pending } := .of_eq rfl rfl
    exact hreset.grantQueueSound reset_grantQueueSound
  · exact (exec_handles hc h).upkeeps hs

/-- Settles O5, by what every command and every move of the time base does to the queue and to the events that ask. -/
theorem grantQueueKept : Obligations.GrantQueueKept := fun s t hs h => by
  cases hp : s.pending with
  | nil =>
    rw [step, hp] at h
    cases h
    exact State.at_grantQueueSound hs _
  | cons c rest =>
    rw [step, hp] at h
    have hrest : Lined s { s with pending := rest } := .of_eq rfl rfl
    exact exec_grantQueueSound (hrest.grantQueueSound hs) h

/-! ## What only some commands touch -/

theorem scopeOf_budget {c : Instr} (hf : c ≠ .storeFrame) (hr : c ≠ .restart) : (scopeOf c).budget = false := by
  cases c with
  | storeFrame => exact absurd rfl hf
  | restart => exact absurd rfl hr
  | _ => rfl

theorem scopeOf_selector {c : Instr} (hc : c ≠ .commitBank) : (scopeOf c).selector = false := by
  cases c with
  | commitBank => exact absurd rfl hc
  | _ => rfl

theorem scopeOf_standby {c : Instr} (hb : c ≠ .loadBusRow) (he : c ≠ .loadEnvelopeRow) (hs : c ≠ .loadStoreParameters) :
    (scopeOf c).standby = false := by
  cases c with
  | loadBusRow => exact absurd rfl hb
  | loadEnvelopeRow => exact absurd rfl he
  | loadStoreParameters => exact absurd rfl hs
  | _ => rfl

/-- The bank that was active stays as it was: a load changes the other, and COMMIT BANK the selector alone. -/
theorem exec_bank_active {c : Instr} {s t : State} (hc : c ≠ .powerOn) (h : exec c s = .next t) :
    t.bank s.banks.active = s.bank s.banks.active := by
  have hh := exec_handles hc h
  by_cases hcommit : c = .commitBank
  · subst hcommit
    simp only [State.bank, hh.bank rfl]
  · have hsel := scopeOf_selector hcommit
    have hact := hh.activeBank hsel
    rwa [State.activeBank, hh.active hsel] at hact

/-- Settles O12, by the scope of every command. -/
theorem budgetAndBanksMoveOnlyByTheirCommands : Obligations.BudgetAndBanksMoveOnlyByTheirCommands :=
  ⟨fun _ _ _ h hp hf hr => (exec_handles hp h).budget (scopeOf_budget hf hr),
    fun _ _ _ h hp => ⟨fun hc => (exec_handles hp h).active (scopeOf_selector hc),
      fun hb he hs => (exec_handles hp h).bank (scopeOf_standby hb he hs), exec_bank_active hp h⟩⟩

end Sys2Proof.Machine
end

section
/-! SUPPORT. What brings and withdraws a request without a pass: a TOPUP request taken (R73, R74, R83), the wait timers (R84, R85), and
the store's silence (R70, R107, R109). -/

namespace Sys2Proof.Machine

/-! ## A TOPUP request taken (R73, R74) -/

/-- Insertion in order of a key goes behind every equal key (R74). -/
theorem insertByKey_append {α : Type} {key : α → Nat} {x : α} {before after : List α} (hb : ∀ y ∈ before, key y ≤ key x)
    (ha : ∀ y ∈ after, key x < key y) : insertByKey key x (before ++ after) = before ++ x :: after := by
  induction before with
  | nil =>
    cases after with
    | nil => rfl
    | cons y after => exact if_pos (ha y (by simp))
  | cons y before ih =>
    have hy : ¬ key x < key y := Nat.not_lt.2 (hb y (by simp))
    have hrest := ih fun z hz => hb z (List.mem_cons_of_mem _ hz)
    simp only [List.cons_append, insertByKey, if_neg hy, hrest]

theorem exec_topupRequest {s : State} {x : BroughtTopup} {rest : List BroughtTopup} (h : s.handed.topups = x :: rest) :
    exec .topupRequest s = .next (State.takeTopup { s with handed.topups := rest } x) := by
  simp only [exec, execTopupRequest, h]

theorem State.takeTopup_absent {s : State} {x : BroughtTopup} (he : s.entry x.event = none) : s.takeTopup x = s := by
  simp only [State.takeTopup, he]

theorem State.takeTopup_enters {s : State} {x : BroughtTopup} {e : Event} (he : s.entry x.event = some e)
    (hi : e.state = .injecting) (hn : s.requestOf x.event = none) (ho : e.openOrder = x.openOrder) :
    s.takeTopup x = s.enqueueRequest x.event e .topup e.firstAmount := by
  simp only [State.takeTopup, he, ho, hi, hn, Option.isNone_none, and_self, if_true]

theorem State.takeTopup_discarded {s : State} {x : BroughtTopup} {e : Event} (he : s.entry x.event = some e)
    (h : e.state ≠ .injecting ∨ s.requestOf x.event ≠ none ∨ e.openOrder ≠ x.openOrder) : s.takeTopup x = s := by
  simp only [State.takeTopup, he]
  refine if_neg fun ⟨ho, hi, hn⟩ => ?_
  rcases h with h | h | h
  · exact h hi
  · exact h (Option.isNone_iff_eq_none.1 hn)
  · exact h ho

/-- Settles O38, by the cases of the request taken and the place of an insertion in order. -/
theorem topupRequestTaken : Obligations.TopupRequestTaken := by
  refine ⟨fun s x rest hh => ⟨fun hn => ?_, fun e he => ⟨fun hi hq ho => ?_, fun hd => ?_⟩⟩,
    fun q before after hb ha => insertByKey_append hb ha⟩
  · rw [exec_topupRequest hh, State.takeTopup_absent (s := { s with handed.topups := rest }) hn]
  · rw [exec_topupRequest hh, State.takeTopup_enters (s := { s with handed.topups := rest }) he hi hq ho]
    rfl
  · rw [exec_topupRequest hh, State.takeTopup_discarded (s := { s with handed.topups := rest }) he hd]

/-! ## The wait timers (R84, R85) -/

theorem exec_firstWaitExpiry {s : State} {time : Nat} (h : s.InTime time) (i : EventIx) :
    exec (.firstWaitExpiry time i.val) s = .next (State.firstExpires { s with now := max s.now time } i) := by
  simp only [exec, execFirstWaitExpiry, eventAt?_val, State.at_of_inTime h]

theorem exec_topupWaitExpiry {s : State} {time : Nat} (h : s.InTime time) (i : EventIx) :
    exec (.topupWaitExpiry time i.val) s = .next (State.topupExpires { s with now := max s.now time } i) := by
  simp only [exec, execTopupWaitExpiry, eventAt?_val, State.at_of_inTime h]

theorem State.waitExpired_iff {s : State} {i : EventIx} {q : GrantRequest} (hq : s.requestOf i = some q) (kind : RequestKind) :
    s.waitExpired i kind = true ↔ q.kind = kind ∧ q.expiry ≤ s.now := by
  simp only [State.waitExpired, hq, decide_eq_true_eq]

/-- The denial of a FIRST request: its event has nothing to give up and commands no stack (R37, R42, R84). -/
theorem State.bypass_denied {s : State} {i : EventIx} {e : Event} (he : s.entry i = some e) (hg : e.grant = 0)
    (ho : e.stackOrder = .none) : s.bypass i .denied false = s.bypassEntered i e .denied := by
  have hu : (e.bypassed .denied).unspent = 0 := by simp [Event.bypassed, Event.unspent, hg]
  rw [State.bypass_eq he, if_neg (by simp [ho])]
  exact State.dispose_settled (s.bypassEntered_entry i e .denied) (.inl hu)

/-- The denial of a TOPUP request (R85). -/
theorem State.topupDenied_eq {s : State} {i : EventIx} {e : Event} (he : s.entry i = some e) :
    (s.dropRequest i).addMark i .topupDenied =
      (s.dropRequest i).setEntry i (some { e with marks := { e.marks with topupDenied := true } }) := by
  rw [State.addMark, State.modEvent_eq _ (e := e)]
  · rfl
  · exact he

/-- Settles O42, by the denial of a FIRST request and the withdrawal of a TOPUP request at the moment of the expiry. -/
theorem waitTimersExpire : Obligations.WaitTimersExpire := by
  refine ⟨fun s time i q e ht hq hk he hr hg _ ho hn => ⟨fun hx => ?_, fun hx => ?_⟩,
    fun s time i q e ht hq hk he => ⟨fun hx => ?_, fun hx => ?_⟩⟩
  · rw [exec_firstWaitExpiry ht, State.firstExpires,
      if_pos ((State.waitExpired_iff (s := { s with now := max s.now time }) hq .first).2 ⟨hk, hx⟩),
      State.bypass_denied (s := { s with now := max s.now time }) he hg ho]
    simp only [State.bypassEntered, Event.bypassed, hn, ho, Option.getD_none]
  · rw [exec_firstWaitExpiry ht, State.firstExpires, if_neg fun h => ?_]
    obtain ⟨-, hle⟩ := (State.waitExpired_iff (s := { s with now := max s.now time }) hq .first).1 h
    exact Nat.not_le.2 hx hle
  · rw [exec_topupWaitExpiry ht, State.topupExpires,
      if_pos ((State.waitExpired_iff (s := { s with now := max s.now time }) hq .topup).2 ⟨hk, hx⟩),
      State.topupDenied_eq (s := { s with now := max s.now time }) he, State.dropRequest_eq]
  · rw [exec_topupWaitExpiry ht, State.topupExpires, if_neg fun h => ?_]
    obtain ⟨-, hle⟩ := (State.waitExpired_iff (s := { s with now := max s.now time }) hq .topup).1 h
    exact Nat.not_le.2 hx hle

/-! ## The store's silence (R70, R107) -/

theorem exec_storeSilenceExpiry {s : State} {time : Nat} (h : s.InTime time) :
    exec (.storeSilenceExpiry time) s = .next (State.storeExpires { s with now := max s.now time }) := by
  simp only [exec, execStoreSilenceExpiry, State.at_of_inTime h]

/-- The store silent, every HELD event held for STORE (R70, R107). -/
def State.storeSilenced (s : State) : State :=
  State.holdForStore { s with
    pool.storeState := .silent
    pool.storeSilence := none
    pool.storeBaseline := none }

theorem State.storeExpires_due {s : State} {expiry : Nat} (h : s.pool.storeSilence = some expiry) (hx : expiry ≤ s.now) :
    s.storeExpires = s.storeSilenced.report (.storeState s.pool.storeState .silent .expiry s.pool.budget none) := by
  have hdue : s.storeSilenceDue = true := by simp only [State.storeSilenceDue, h, decide_eq_true_eq, hx]
  simp only [State.storeExpires, hdue, if_true]
  rfl

theorem State.storeExpires_early {s : State} (h : ∀ expiry, s.pool.storeSilence = some expiry → s.now < expiry) :
    s.storeExpires = s := by
  have hdue : s.storeSilenceDue = false := by
    unfold State.storeSilenceDue
    split
    · next t ht => simpa using h t ht
    · rfl
  simp [State.storeExpires, hdue]

/-- Settles O45, by the store silenced at the moment of the expiry, and by nothing due before it. -/
theorem storeSilenceTaken : Obligations.StoreSilenceTaken := by
  intro s time ht u
  refine ⟨fun expiry hs hx => ⟨u.storeSilenced, ?_, fun i => ?_, rfl⟩, fun hx => ?_⟩
  · rw [exec_storeSilenceExpiry ht, State.storeExpires_due (s := u) hs hx]
  · exact State.entry_holdForStore _ i
  · rw [exec_storeSilenceExpiry ht, State.storeExpires_early (s := u) hx]

end Sys2Proof.Machine
end

section
/-! SUPPORT. The service pass and its head request (R75, R76, R78): that a pass serves its head as if it stood alone, and what an
event granted its firm part becomes. -/

namespace Sys2Proof.Machine

/-! ## The pass (R75) -/

theorem exec_servicePass (s : State) : exec .servicePass s = .next s.servicePass := rfl

/-- The state in which the pass that was due is made. -/
def State.passing (s : State) : State := { s with pool.passDue := false }

theorem State.servicePass_due {s : State} (hl : s.pool.storeState = .live) (hd : s.pool.passDue = true) :
    s.servicePass = State.pass s.pool.grantQueue.length s.passing := if_pos ⟨hd, hl⟩

theorem State.pass_cons {s t : State} {q : GrantRequest} {rest : List GrantRequest} (hq : s.pool.grantQueue = q :: rest)
    (ht : s.serveHead q = some t) (n : Nat) : State.pass (n + 1) s = State.pass n t := by
  simp only [State.pass, hq, ht]

/-- What Free and the releases open to a request can give of its amount (R75, R76). -/
def State.obtainable (s : State) (q : GrantRequest) : Nat := min q.amount (s.pool.free + borrowable (s.openTo q.event))

/-- Step 1 or step 2 of R75 serves the head. -/
theorem State.serveHead_obtainable {s : State} {q : GrantRequest}
    (h : q.amount ≤ s.pool.free ∨ s.minimumGrant ≤ s.pool.free + borrowable (s.openTo q.event)) :
    s.serveHead q = some (s.serve q (s.obtainable q)) := by
  unfold State.serveHead
  by_cases hfree : q.amount ≤ s.pool.free
  · have hall : s.obtainable q = q.amount := Nat.min_eq_left (hfree.trans (Nat.le_add_right _ _))
    rw [if_pos hfree, hall]
  · rw [if_neg hfree, if_pos (h.resolve_left hfree)]
    rfl

/-- The releases open to an event are a matter of the entries, the releases and the order of their creation. -/
theorem State.openTo_congr {s t : State} (he : t.events.entries = s.events.entries) (hr : t.pool.releases = s.pool.releases)
    (hc : t.pool.creationCounter = s.pool.creationCounter) (i : EventIx) : t.openTo i = s.openTo i := by
  have hrelease : t.release = s.release := funext fun r => by rw [State.release, hr, State.release]
  have hopen (claims : List EventClaim) (n : Nat) (l : List ReleaseIx) :
      t.openReleases claims n l = s.openReleases claims n l := by
    induction l generalizing n with
    | nil => rfl
    | cons r l ih => simp only [State.openReleases, hrelease, ih]
  simp only [State.openTo, State.claimsOf, State.entry, State.pendingOldestFirst, he, hc, hrelease, hopen]

theorem State.openTo_passing (s : State) (i : EventIx) : s.passing.openTo i = s.openTo i :=
  State.openTo_congr (s := s) (t := s.passing) rfl rfl rfl i

theorem State.obtainable_passing (s : State) (q : GrantRequest) : s.passing.obtainable q = s.obtainable q := by
  rw [State.obtainable, State.openTo_passing]
  rfl

/-! ## The rest of the queue -/

/-- The state with other requests in the Grant Queue. -/
def State.withQueue (s : State) (l : List GrantRequest) : State := { s with pool.grantQueue := l }

theorem State.openTo_withQueue (s : State) (l : List GrantRequest) (i : EventIx) :
    (s.withQueue l).openTo i = s.openTo i := State.openTo_congr (s := s) (t := s.withQueue l) rfl rfl rfl i

theorem State.obtainable_withQueue (s : State) (l : List GrantRequest) (q : GrantRequest) :
    (s.withQueue l).obtainable q = s.obtainable q := by
  rw [State.obtainable, State.openTo_withQueue]
  rfl

theorem State.growClaim_withQueue (s : State) (l : List GrantRequest) (i : EventIx) (r : ReleaseIx) (n : Nat) :
    (s.withQueue l).growClaim i r n = (s.growClaim i r n).withQueue l := by
  have hmod (t : State) (f : Release → Release) : (t.withQueue l).modRelease r f = (t.modRelease r f).withQueue l := by
    have hr : (t.withQueue l).release r = t.release r := rfl
    simp only [State.modRelease, hr]
    cases t.release r <;> rfl
  have he : (s.withQueue l).entry i = s.entry i := rfl
  simp only [State.growClaim, State.modEvent, he]
  cases s.entry i with
  | none => exact hmod s _
  | some e => exact hmod (s.setEntry i _) _

theorem State.layClaims_withQueue (i : EventIx) (x : List (ReleaseIx × Nat)) (n : Nat) (s : State) (l : List GrantRequest) :
    State.layClaims i x n (s.withQueue l) = (State.layClaims i x n s).withQueue l := by
  induction x generalizing n s with
  | nil => rfl
  | cons a x ih =>
    simp only [State.layClaims]
    split
    · rfl
    · rw [State.growClaim_withQueue, ih]

/-- With a DRIVE frame waiting, the choice of a frame does not read the Grant Queue. -/
theorem State.kick_withQueue {s : State} (h : s.ring.drive ≠ []) (l : List GrantRequest) :
    (s.withQueue l).kick = s.kick.withQueue l := by
  obtain ⟨f, rest, hf⟩ := List.exists_cons_of_ne_nil h
  have hr : (s.withQueue l).ring = s.ring := rfl
  simp only [State.kick, hr]
  cases s.ring.port with
  | some p => rfl
  | none =>
    simp only [Ring.choose, hf, State.startNotices]
    cases f.command <;> rfl

theorem State.queueCommand_withQueue (s : State) (l : List GrantRequest) (k : Station) (c : CommandKind) :
    (s.withQueue l).queueCommand k c = (s.queueCommand k c).withQueue l := by
  have hv : (s.withQueue l).view k = s.view k := rfl
  have hc : (s.withQueue l).commanded k c = (s.commanded k c).withQueue l := rfl
  simp only [State.queueCommand_eq, hv, hc]
  split
  · exact State.kick_withQueue (s := { s.commanded k c with
      ring.drive := placeInDrive k (fun x => { x with command := some ⟨(s.view k).takenSequence, c⟩ })
        ⟨k, none, some ⟨(s.view k).takenSequence, c⟩⟩ (s.commanded k c).ring.drive }) (placeInDrive_ne_nil _ _ _ _) l
  · rfl

theorem State.afterFirst_withQueue (s : State) (l : List GrantRequest) (i : EventIx) (firm : Nat) :
    (s.withQueue l).afterFirst i firm = (s.afterFirst i firm).withQueue l := by
  have he : (s.withQueue l).entry i = s.entry i := rfl
  have ha (k : Station) : (s.withQueue l).stackAvailable k = s.stackAvailable k := rfl
  simp only [State.afterFirst, he, ha]
  cases hs : s.entry i with
  | none => rfl
  | some e =>
    dsimp only
    split
    · rw [State.enterInjecting_eq hs, State.enterInjecting_eq (he.trans hs)]
      exact State.queueCommand_withQueue ((s.setEntry i (some e.driven)).setRecord e.copy.stack _) l _ _
    · rfl

/-- A request served leaves the other requests as they stand. -/
theorem State.serve_withQueue {s : State} {q : GrantRequest} {e : Event} (he : s.entry q.event = some e)
    (l : List GrantRequest) (n : Nat) :
    (s.withQueue l).serve q n = (s.serve q n).withQueue (l.filter fun r => decide (r.event ≠ q.event)) := by
  have he' : (s.withQueue l).entry q.event = some e := he
  have hfunded : (s.withQueue l).funded q e n =
      (s.funded q e n).withQueue (l.filter fun r => decide (r.event ≠ q.event)) := by
    rw [State.funded, State.openTo_withQueue]
    exact State.layClaims_withQueue _ _ _ (s.granted q e (min s.pool.free n)) _
  cases hk : q.kind with
  | first =>
    rw [State.serve_first he hk, State.serve_first he' hk, hfunded]
    exact State.afterFirst_withQueue _ _ _ _
  | topup => rw [State.serve_topup he hk, State.serve_topup he' hk, hfunded]

/-- A pass serves its head, and goes on with the requests behind it. -/
theorem State.servicePass_head {s : State} {q : GrantRequest} {rest : List GrantRequest}
    (hl : s.pool.storeState = .live) (hd : s.pool.passDue = true) (hq : s.pool.grantQueue = q :: rest)
    (h : q.amount ≤ s.pool.free ∨ s.minimumGrant ≤ s.pool.free + borrowable (s.openTo q.event)) :
    s.servicePass = State.pass rest.length (s.passing.serve q (s.obtainable q)) := by
  have hhead : s.passing.serveHead q = some (s.passing.serve q (s.obtainable q)) := by
    rw [State.serveHead_obtainable, State.obtainable_passing]
    rwa [State.openTo_passing]
  rw [State.servicePass_due hl hd, hq]
  exact State.pass_cons (s := s.passing) hq hhead _

/-- What serving the head of a queue leaves in it. -/
theorem State.serve_queue {s : State} {q : GrantRequest} {e : Event} (he : s.entry q.event = some e) (n : Nat) :
    (s.serve q n).pool.grantQueue = s.pool.grantQueue.filter fun r => decide (r.event ≠ q.event) := by
  rw [show s.serve q n = _ from State.serve_withQueue he s.pool.grantQueue n]
  rfl

/-! ## A firm grant (R76, R78) -/

theorem State.layClaims_nothing (i : EventIx) (l : List (ReleaseIx × Nat)) (s : State) : State.layClaims i l 0 s = s := by
  cases l with
  | nil => rfl
  | cons x l => simp [State.layClaims]

/-- What Free covers is not borrowed. -/
theorem State.funded_firm {s : State} {n : Nat} (h : n ≤ s.pool.free) (q : GrantRequest) (e : Event) :
    s.funded q e n = s.granted q e n := by
  rw [State.funded, Nat.min_eq_right h, Nat.sub_self, State.layClaims_nothing]

/-- The grant of a firm part changes nothing that the availability of a stack is a matter of (R78). -/
theorem State.granted_stackAvailable {s : State} {q : GrantRequest} {e : Event} (he : s.entry q.event = some e) (n : Nat)
    (k : Station) : (s.granted q e n).stackAvailable k = s.stackAvailable k := by
  have hwait : (s.granted q e n).waitsOn k = s.waitsOn k := by
    unfold State.waitsOn
    congr 1
    funext i
    by_cases hi : q.event = i
    · simp only [State.granted_entry, ← hi, he]
      rfl
    · simp only [State.granted_entry, if_neg hi]
  rw [State.stackAvailable, hwait]
  rfl

theorem State.afterFirst_injects {s : State} {i : EventIx} {e : Event} {firm : Nat} (he : s.entry i = some e)
    (hf : 0 < firm) (ha : s.stackAvailable e.copy.stack = true) : s.afterFirst i firm = s.enterInjecting i := by
  simp only [State.afterFirst, he, hf, ha, and_self, if_true]

theorem State.afterFirst_holds {s : State} {i : EventIx} {e : Event} {firm : Nat} (he : s.entry i = some e)
    (h : firm = 0 ∨ s.stackAvailable e.copy.stack = false) : s.afterFirst i firm =
      s.setEntry i (some { e with state := .held, held := ⟨decide (firm = 0), !s.stackAvailable e.copy.stack, false⟩ }) := by
  simp only [State.afterFirst, he]
  refine if_neg fun ⟨hf, ha⟩ => ?_
  rcases h with h | h
  · omega
  · simp [h] at ha

/-- A pass over one request makes what it serves of it. -/
theorem exec_servicePass_one {s : State} {q : GrantRequest} (hl : s.pool.storeState = .live) (hd : s.pool.passDue = true)
    (hq : s.pool.grantQueue = [q])
    (h : q.amount ≤ s.pool.free ∨ s.minimumGrant ≤ s.pool.free + borrowable (s.openTo q.event)) :
    exec .servicePass s = .next (s.passing.serve q (s.obtainable q)) := by
  rw [exec_servicePass, State.servicePass_head hl hd hq h]
  rfl

/-- With no release PENDING there is none to borrow from (R77). -/
theorem State.openTo_unresolved {s : State} (h : ∀ r y, s.release r = some y → y.state = .unresolved) (i : EventIx) :
    s.openTo i = [] := by
  have hnone : s.pendingOldestFirst = [] := List.eq_nil_iff_forall_not_mem.2 fun r hr => by
    rw [State.pendingOldestFirst, mem_sortByKey, List.mem_filter] at hr
    cases hx : s.release r with
    | none => simp [hx] at hr
    | some x => simp [hx, h r x hx] at hr
  rw [State.openTo, hnone]
  rfl

/-- The pass over the requests behind a head that has been served. -/
theorem State.servicePass_resumed {s : State} (hl : s.pool.storeState = .live) (hd : s.pool.passDue = false)
    {l : List GrantRequest} (hq : s.pool.grantQueue = l) :
    State.servicePass { s with pool.grantQueue := l, pool.passDue := true } = State.pass l.length s := by
  have hsame : ({ s with pool.grantQueue := l, pool.passDue := false } : State) = s := by rw [← hq, ← hd]
  have hdue := State.servicePass_due (s := { s with pool.grantQueue := l, pool.passDue := true }) hl rfl
  exact hdue.trans (congrArg (State.pass l.length) hsame)

/-- A pass serves its head as if it stood alone, and then the requests behind it. -/
theorem exec_servicePass_alone {s : State} {q : GrantRequest} {rest : List GrantRequest} {e : Event}
    (hl : s.pool.storeState = .live) (hd : s.pool.passDue = true) (hq : s.pool.grantQueue = q :: rest)
    (hrest : ∀ p ∈ rest, p.event ≠ q.event) (he : s.entry q.event = some e)
    (h : q.amount ≤ s.pool.free ∨ s.minimumGrant ≤ s.pool.free + borrowable (s.openTo q.event)) :
    ∃ w : State, exec .servicePass { s with pool.grantQueue := [q] } = .next w ∧ w.pool.grantQueue = [] ∧
      exec .servicePass s = exec .servicePass { w with pool.grantQueue := rest, pool.passDue := true } := by
  have hx := State.serve_withQueue (s := s.passing) he [q] (s.obtainable q)
  have hqueue : (s.passing.serve q (s.obtainable q)).pool.grantQueue = rest := by
    rw [State.serve_queue (s := s.passing) he, show s.passing.pool.grantQueue = q :: rest from hq]
    simpa using hrest
  have hdue : (s.passing.serve q (s.obtainable q)).pool.passDue = false := by simp [State.passing]
  have hlive : (s.passing.serve q (s.obtainable q)).pool.storeState = .live := by simp [State.passing, hl]
  generalize hserved : s.passing.serve q (s.obtainable q) = x at hx hqueue hdue hlive
  refine ⟨x.withQueue [], ?_, rfl, ?_⟩
  · have hone := exec_servicePass_one (s := s.withQueue [q]) hl hd rfl
      (by rw [State.openTo_withQueue]; exact h)
    rw [State.obtainable_withQueue] at hone
    have hfilter : ([q].filter fun r => decide (r.event ≠ q.event)) = [] := by simp
    rw [hfilter] at hx
    exact hone.trans (congrArg _ hx)
  · rw [exec_servicePass, State.servicePass_head hl hd hq h, hserved, ← State.servicePass_resumed hlive hdue hqueue]
    rfl

/-- Settles O40, by the pass over one request and the grant of its firm part. -/
theorem firstRequestServed : Obligations.FirstRequestServed := by
  refine ⟨fun s q rest e hl hd hq hrest he h => exec_servicePass_alone hl hd hq hrest he h, ?_⟩
  intro s q e hl hd hq he firm hfirm h grant spent granted u available
  have hopen : q.amount ≤ s.pool.free ∨ s.minimumGrant ≤ s.pool.free ∧ s.openTo q.event = [] :=
    h.imp_right fun ⟨hm, hu⟩ => ⟨hm, State.openTo_unresolved hu q.event⟩
  have hserves : q.amount ≤ s.pool.free ∨ s.minimumGrant ≤ s.pool.free + borrowable (s.openTo q.event) :=
    hopen.imp_right fun ⟨hm, _⟩ => hm.trans (Nat.le_add_right _ _)
  have hn : s.obtainable q = firm := by
    rcases hopen with hfree | ⟨-, hnone⟩
    · rw [State.obtainable]
      omega
    · rw [State.obtainable, hnone]
      rfl
  have he' : s.passing.entry q.event = some e := he
  have hpass := exec_servicePass_one hl hd hq hserves
  rw [hn] at hpass
  have hle : firm ≤ s.passing.pool.free := Nat.min_le_right _ _
  have hmin : min s.passing.pool.free firm = firm := Nat.min_eq_right hle
  have hgranted : s.passing.granted q e firm = u.setEntry q.event (some granted) := by
    simp only [State.granted, State.drawn, State.passing, hq, u]
    simp [State.putRecounted, State.setEntry, Event.recount, granted, spent, grant, Config.nanoPerJoule, clampJoules,
      Config.maxJoules]
  have hentry : (u.setEntry q.event (some granted)).entry q.event = some granted := by simp
  have havailable : (u.setEntry q.event (some granted)).stackAvailable e.copy.stack = true ↔ available := by
    rw [← hgranted, State.granted_stackAvailable he', State.stackAvailable_iff, not_or]
    simp only [Bool.not_eq_true, and_assoc]
    rfl
  refine ⟨fun hk => ?_, fun hk ha => ?_, fun hk ha => ?_⟩
  · rw [hpass, State.serve_topup he' hk, State.funded_firm hle, hgranted]
  · rw [hpass, State.serve_first he' hk, State.funded_firm hle, hgranted, hmin,
      State.afterFirst_injects hentry hfirm (havailable.2 ha), State.enterInjecting_eq hentry, State.setEntry_setEntry]
    rfl
  · have hfault : (u.setEntry q.event (some granted)).stackAvailable e.copy.stack = false := by
      rwa [← Bool.not_eq_true, havailable]
    rw [hpass, State.serve_first he' hk, State.funded_firm hle, hgranted, hmin,
      State.afterFirst_holds hentry (.inr hfault), State.setEntry_setEntry, hfault, decide_eq_false hfirm.ne']
    rfl

end Sys2Proof.Machine
end

section
/-! SUPPORT. Borrowing (R77): which releases are open to a request, the claims laid on them, and what a request that Free does not cover
leaves its event with (R76, R78). -/

namespace Sys2Proof.Machine

/-! ## The PENDING releases, oldest first -/

theorem sortByKey_pair {α : Type} {key : α → Nat} {l : List α} {a b : α} (hl : l.Perm [a, b]) (h : key a < key b) :
    sortByKey key l = [a, b] := by
  have hab : b ≠ a := fun hba => by simp [hba] at h
  have hperm := (sortByKey_perm key l).trans hl
  have hhead : (sortByKey key l).head? = some a := head?_sortByKey (hl.symm.subset (by simp)) fun y hy hne => by
    obtain rfl : y = b := by simpa [hne] using hl.subset hy
    exact h
  obtain ⟨rest, hrest⟩ := List.head?_eq_some_iff.1 hhead
  rw [hrest, List.perm_cons, List.perm_singleton] at hperm
  rw [hrest, hperm]

/-- The releases that are PENDING, in rising index. -/
def State.pendingReleases (s : State) : List ReleaseIx :=
  allReleases.filter fun r => match s.release r with
    | some x => decide (x.state = .pending)
    | none => false

theorem State.mem_pendingReleases {s : State} {r : ReleaseIx} :
    r ∈ s.pendingReleases ↔ ∃ x, s.release r = some x ∧ x.state = .pending := by
  rw [State.pendingReleases, List.mem_filter]
  cases s.release r <;> simp [allReleases]

theorem State.pendingReleases_nodup (s : State) : s.pendingReleases.Nodup := (List.nodup_finRange 16).filter _

theorem State.pendingOldestFirst_one {s : State} {r : ReleaseIx} {x : Release} (hx : s.release r = some x)
    (hp : x.state = .pending) (hother : ∀ p z, s.release p = some z → p ≠ r → z.state = .unresolved) :
    s.pendingOldestFirst = [r] := by
  have hperm : s.pendingReleases.Perm [r] := (List.perm_ext_iff_of_nodup s.pendingReleases_nodup (by simp)).2 fun p => by
    rw [State.mem_pendingReleases, List.mem_singleton]
    refine ⟨fun ⟨z, hz, hpz⟩ => ?_, fun h => ⟨x, h ▸ hx, hp⟩⟩
    by_contra hne
    simp [hother p z hz hne] at hpz
  exact List.perm_singleton.1 ((sortByKey_perm _ _).trans hperm)

theorem State.pendingOldestFirst_two {s : State} {r p : ReleaseIx} {x y : Release} (hx : s.release r = some x)
    (hy : s.release p = some y) (hrp : r ≠ p) (hpx : x.state = .pending) (hpy : y.state = .pending)
    (hother : ∀ n z, s.release n = some z → n ≠ r → n ≠ p → z.state = .unresolved)
    (hold : orderAge s.pool.creationCounter y.creationOrder < orderAge s.pool.creationCounter x.creationOrder) :
    s.pendingOldestFirst = [r, p] := by
  have hperm : s.pendingReleases.Perm [r, p] :=
    (List.perm_ext_iff_of_nodup s.pendingReleases_nodup (by simp [hrp])).2 fun n => by
      rw [State.mem_pendingReleases, List.mem_pair]
      refine ⟨fun ⟨z, hz, hpz⟩ => ?_, fun h => ?_⟩
      · by_contra hne
        obtain ⟨hnr, hnp⟩ := not_or.1 hne
        simp [hother n z hz hnr hnp] at hpz
      · rcases h with rfl | rfl
        · exact ⟨x, hx, hpx⟩
        · exact ⟨y, hy, hpy⟩
  refine sortByKey_pair hperm ?_
  have hage := orderAge_lt s.pool.creationCounter x.creationOrder
  simp only [hx, hy, oldestKey]
  omega

/-! ## The releases open to a request -/

theorem State.openReleases_new {s : State} {r : ReleaseIx} {x : Release} (hx : s.release r = some x)
    (ha : 0 < x.available) {claims : List EventClaim} (hc : claimsOn claims r = false) (hroom : x.claims.length < 4)
    (n : Nat) (rest : List ReleaseIx) :
    s.openReleases claims (n + 1) (r :: rest) = (r, x.available) :: s.openReleases claims n rest := by
  have hfull : ¬ Config.claimCapacity ≤ x.claims.length := Nat.not_le.2 hroom
  simp only [State.openReleases, hx, if_neg ha.ne', hc, Bool.false_eq_true, if_false, if_neg hfull]

theorem State.openReleases_claimed {s : State} {r : ReleaseIx} {x : Release} (hx : s.release r = some x)
    (ha : 0 < x.available) {claims : List EventClaim} (hc : claimsOn claims r = true) (n : Nat) (rest : List ReleaseIx) :
    s.openReleases claims n (r :: rest) = (r, x.available) :: s.openReleases claims n rest := by
  simp only [State.openReleases, hx, if_neg ha.ne', hc, if_true]

theorem State.claimsOf_eq {s : State} {i : EventIx} {e : Event} (he : s.entry i = some e) : s.claimsOf i = e.claims := by
  simp only [State.claimsOf, he]

theorem State.openTo_eq {s : State} {i : EventIx} {e : Event} (he : s.entry i = some e) :
    s.openTo i = s.openReleases e.claims (4 - e.claims.length) s.pendingOldestFirst := by
  rw [State.openTo, State.claimsOf_eq he]
  rfl

/-! ## Claims laid (R77) -/

theorem growEventClaim_new {r : ReleaseIx} {l : List EventClaim} (h : claimsOn l r = false) (n : Nat) :
    growEventClaim r n l = l ++ [⟨r, n⟩] := by
  simp [growEventClaim, h]

theorem growReleaseClaim_new {i : EventIx} {l : List ReleaseClaim} (h : ∀ c ∈ l, c.event ≠ i) (n : Nat) :
    growReleaseClaim i n l = l ++ [⟨i, n⟩] := by
  have hnone : (l.any fun c => decide (c.event = i)) = false := by simpa using h
  simp [growReleaseClaim, hnone]

theorem growReleaseClaim_grown {i : EventIx} {before after : List ReleaseClaim} (hb : ∀ c ∈ before, c.event ≠ i)
    (ha : ∀ c ∈ after, c.event ≠ i) (m n : Nat) :
    growReleaseClaim i n (before ++ ⟨i, m⟩ :: after) = before ++ ⟨i, m + n⟩ :: after := by
  have hkept (l : List ReleaseClaim) (h : ∀ c ∈ l, c.event ≠ i) :
      (l.map fun c => if c.event = i then { c with amount := c.amount + n } else c) = l :=
    (List.map_congr_left fun c hc => if_neg (h c hc)).trans (List.map_id' l)
  simp [growReleaseClaim, hkept before hb, hkept after ha]

theorem State.growClaim_entry {s : State} {i : EventIx} {e : Event} (he : s.entry i = some e) (r : ReleaseIx) (n : Nat) :
    (s.growClaim i r n).entry i = some { e with claims := growEventClaim r n e.claims } := by
  rw [State.growClaim_eq he, State.entry_modRelease, State.entry_setEntry, if_pos rfl]

theorem State.growClaim_release {s : State} {r : ReleaseIx} {x : Release} (hx : s.release r = some x) (i : EventIx)
    (n : Nat) (p : ReleaseIx) : (s.growClaim i r n).release p =
      if r = p then some { x with claims := growReleaseClaim i n x.claims } else s.release p := by
  have hr : (s.modEvent i fun e => { e with claims := growEventClaim r n e.claims }).release = s.release :=
    funext fun q => by simp [State.release]
  rw [State.growClaim, State.release_modRelease, hr]
  by_cases h : r = p
  · rw [if_pos h, if_pos h, ← h, hx]
    rfl
  · rw [if_neg h, if_neg h]

theorem State.layClaims_cons {left available : Nat} (h : 0 < min left available) (i : EventIx) (r : ReleaseIx)
    (rest : List (ReleaseIx × Nat)) (s : State) : State.layClaims i ((r, available) :: rest) left s =
      State.layClaims i rest (left - min left available) (s.growClaim i r (min left available)) := by
  simp only [State.layClaims, if_neg h.ne']

/-- What one release can lend is laid on it alone. -/
theorem State.layClaims_one {left available : Nat} (h : 0 < left) (hle : left ≤ available) (i : EventIx) (r : ReleaseIx)
    (s : State) : State.layClaims i [(r, available)] left s = s.growClaim i r left := by
  have hmin : min left available = left := Nat.min_eq_left hle
  rw [State.layClaims_cons (by omega), hmin]
  rfl

/-- A claim laid on the older of two releases, and one on the newer where the older does not lend all. -/
theorem State.layClaims_two {s : State} {i : EventIx} {e : Event} {r p : ReleaseIx} {x y : Release} {older newer left : Nat}
    (he : s.entry i = some e) (hnone : e.claims = []) (hx : s.release r = some x) (hy : s.release p = some y) (hrp : r ≠ p)
    (hxi : ∀ c ∈ x.claims, c.event ≠ i) (hyi : ∀ c ∈ y.claims, c.event ≠ i) (ho : 0 < older)
    (hl : 0 < left) (hle : left ≤ older + newer) :
    (State.layClaims i [(r, older), (p, newer)] left s).entry i = some { e with
      claims := ⟨r, min left older⟩ :: if 0 < left - min left older then [⟨p, left - min left older⟩] else [] } ∧
    (State.layClaims i [(r, older), (p, newer)] left s).release r =
      some { x with claims := x.claims ++ [⟨i, min left older⟩] } ∧
    (State.layClaims i [(r, older), (p, newer)] left s).release p = some { y with
      claims := y.claims ++ if 0 < left - min left older then [⟨i, left - min left older⟩] else [] } := by
  rw [State.layClaims_cons (by omega)]
  have hentry := State.growClaim_entry he r (min left older)
  have hrelease := State.growClaim_release hx i (min left older)
  rw [hnone, growEventClaim_new rfl] at hentry
  simp only [growReleaseClaim_new hxi] at hrelease
  generalize s.growClaim i r (min left older) = t at hentry hrelease
  have hr := (hrelease r).trans (if_pos rfl)
  have hp := (hrelease p).trans ((if_neg hrp).trans hy)
  by_cases hsecond : 0 < left - min left older
  · have hclaim : claimsOn ([] ++ [⟨r, min left older⟩]) p = false := by simp [claimsOn, hrp]
    rw [State.layClaims_one hsecond (by omega), State.growClaim_entry hentry, State.growClaim_release hp,
      State.growClaim_release hp, if_neg hrp.symm, if_pos rfl, hr, growReleaseClaim_new hyi, growEventClaim_new hclaim]
    simp [hsecond]
  · have hzero : left - min left older = 0 := by omega
    rw [hzero, State.layClaims_nothing, hentry, hr, hp]
    simp

/-! ## What a request served leaves its event with (R76, R78) -/

/-- What the service of a request with a firm part makes of its event's entry, once the grant and the claims are made. -/
structure GrantServed (q : GrantRequest) (firm : Nat) (f e' : Event) : Prop where
  grant : e'.grant = f.grant
  claims : e'.claims = f.claims
  topup : q.kind = .topup → e'.state = f.state
  borrow : q.kind = .first → firm = 0 → e'.state = .held ∧ e'.held.borrow = true ∧ e'.held.store = false
  firm : q.kind = .first → 0 < firm → e'.state = .injecting ∨ e'.state = .held ∧ e'.held = ⟨false, true, false⟩

/-- A command for a stack without a release changes no release (R91). -/
theorem State.queueCommand_release_unowned {s : State} {k : Station} (h : ∀ r y, s.release r = some y → y.stack ≠ k)
    (c : CommandKind) (r : ReleaseIx) : (s.queueCommand k c).release r = s.release r := by
  rw [State.queueCommand_release]
  cases hx : s.release r with
  | none => rfl
  | some x => exact congrArg some (if_neg (h r x hx))

/-- An event enters INJECTING on a stack that is available, and so has no release. -/
theorem State.enterInjecting_release {s : State} {i : EventIx} {e : Event} (he : s.entry i = some e)
    (ha : s.stackAvailable e.copy.stack = true) (r : ReleaseIx) : (s.enterInjecting i).release r = s.release r := by
  obtain ⟨-, hfree, -⟩ := State.stackAvailable_iff.1 ha
  rw [State.enterInjecting_eq he, State.queueCommand_release_unowned]
  · rfl
  · exact hfree

theorem State.afterFirst_served {s : State} {q : GrantRequest} {f : Event} {firm : Nat} (hf : s.entry q.event = some f)
    (hk : q.kind = .first) : (∃ e', (s.afterFirst q.event firm).entry q.event = some e' ∧ GrantServed q firm f e') ∧
      ∀ r, (s.afterFirst q.event firm).release r = s.release r := by
  have htopup : q.kind ≠ .topup := by simp [hk]
  by_cases h : 0 < firm ∧ s.stackAvailable f.copy.stack = true
  · obtain ⟨hpos, ha⟩ := h
    rw [State.afterFirst_injects hf hpos ha]
    refine ⟨⟨f.driven, (State.enterInjecting_entry hf _).trans (if_pos rfl), rfl, rfl, fun h => (htopup h).elim,
      fun _ h => ?_, fun _ _ => .inl rfl⟩, State.enterInjecting_release hf ha⟩
    omega
  · have hwhy : firm = 0 ∨ s.stackAvailable f.copy.stack = false := by
      by_contra hn
      obtain ⟨hne, ha⟩ := not_or.1 hn
      exact h ⟨Nat.pos_of_ne_zero hne, by simpa using ha⟩
    rw [State.afterFirst_holds hf hwhy]
    refine ⟨⟨_, (State.entry_setEntry _ _ _ _).trans (if_pos rfl), rfl, rfl, fun h => (htopup h).elim,
      fun _ h => ⟨rfl, decide_eq_true h, rfl⟩, fun _ hpos => .inr ⟨rfl, ?_⟩⟩, fun _ => rfl⟩
    simp [hwhy.resolve_left hpos.ne', hpos.ne']

theorem State.serve_served {s : State} {q : GrantRequest} {e f : Event} {n : Nat} (he : s.entry q.event = some e)
    (hf : (s.funded q e n).entry q.event = some f) :
    (∃ e', (s.serve q n).entry q.event = some e' ∧ GrantServed q (min s.pool.free n) f e') ∧
      ∀ r, (s.serve q n).release r = (s.funded q e n).release r := by
  cases hk : q.kind with
  | first =>
    rw [State.serve_first he hk]
    exact State.afterFirst_served hf hk
  | topup =>
    rw [State.serve_topup he hk]
    exact ⟨⟨f, hf, rfl, rfl, fun _ => rfl, by simp [hk], by simp [hk]⟩, fun _ => rfl⟩

/-- The firm part of a request is taken out of Free (R76). -/
theorem State.serve_taken {s : State} {q : GrantRequest} {e : Event} (he : s.entry q.event = some e) (n : Nat) :
    (s.serve q n).pool.free = s.pool.free - min s.pool.free n := by
  have hfunded : (s.funded q e n).pool.free = s.pool.free - min s.pool.free n := by
    rw [State.funded]
    simp [State.granted, State.drawn, State.putRecounted]
  cases hk : q.kind with
  | first => simp [State.serve_first he hk, hfunded]
  | topup => rw [State.serve_topup he hk, hfunded]

/-- A request that Free does not cover served: what is borrowed is laid on the releases open to it, and Free is taken whole (R76). -/
def State.borrowing (s : State) (q : GrantRequest) (e : Event) : State :=
  State.layClaims q.event (s.openTo q.event) (s.obtainable q - s.pool.free) (s.passing.granted q e s.pool.free)

/-- A pass over one request that Free does not cover, and that Free and the releases open to it can serve (R75 step 2). -/
theorem exec_servicePass_borrows {s : State} {q : GrantRequest} {e f : Event} (hl : s.pool.storeState = .live)
    (hd : s.pool.passDue = true) (hq : s.pool.grantQueue = [q]) (he : s.entry q.event = some e)
    (hfree : s.pool.free < q.amount) (hm : s.minimumGrant ≤ s.pool.free + borrowable (s.openTo q.event))
    (hf : (s.borrowing q e).entry q.event = some f) :
    ∃ t e', exec .servicePass s = .next t ∧ t.entry q.event = some e' ∧ GrantServed q s.pool.free f e' ∧
      (∀ r, t.release r = (s.borrowing q e).release r) ∧ t.pool.free = 0 ∧ t.pool.grantQueue = [] := by
  have he' : s.passing.entry q.event = some e := he
  have hmin : min s.passing.pool.free (s.obtainable q) = s.pool.free :=
    Nat.min_eq_left (Nat.le_min.2 ⟨hfree.le, Nat.le_add_right _ _⟩)
  have hfunded : s.passing.funded q e (s.obtainable q) = s.borrowing q e := by
    rw [State.funded, hmin, State.openTo_passing, State.borrowing]
  rw [← hfunded] at hf ⊢
  obtain ⟨⟨e', hentry, hserved⟩, hrelease⟩ := State.serve_served he' hf
  rw [hmin] at hserved
  refine ⟨_, e', exec_servicePass_one hl hd hq (.inr hm), hentry, hserved, hrelease, ?_, ?_⟩
  · rw [State.serve_taken he', hmin]
    exact Nat.sub_self _
  · rw [State.serve_queue he', show s.passing.pool.grantQueue = [q] from hq]
    simp

/-! ## The settlement of O41 -/

/-- The entry of a request's event once it is granted all of Free. -/
theorem State.passing_granted_entry (s : State) (q : GrantRequest) (e : Event) :
    (s.passing.granted q e s.pool.free).entry q.event = some (Event.recount { e with grant := e.grant + s.pool.free }) :=
  (State.granted_entry _ _ _ _ _).trans (if_pos rfl)

/-- Where two releases are open, the older and the newer, both claims are laid as far as the older does not lend all. -/
theorem State.borrowing_two {s : State} {q : GrantRequest} {e : Event} {r p : ReleaseIx} {x y : Release} {older newer : Nat}
    (hopen : s.openTo q.event = [(r, older), (p, newer)]) (hnone : e.claims = []) (hx : s.release r = some x)
    (hy : s.release p = some y) (hrp : r ≠ p) (hxi : ∀ c ∈ x.claims, c.event ≠ q.event)
    (hyi : ∀ c ∈ y.claims, c.event ≠ q.event) (ho : 0 < older) (hfree : s.pool.free < q.amount) :
    let borrowed := min q.amount (s.pool.free + (older + newer)) - s.pool.free
    let second := borrowed - min borrowed older
    (s.borrowing q e).entry q.event = some { Event.recount { e with grant := e.grant + s.pool.free } with
      claims := ⟨r, min borrowed older⟩ :: if 0 < second then [⟨p, second⟩] else [] } ∧
    (s.borrowing q e).release r = some { x with claims := x.claims ++ [⟨q.event, min borrowed older⟩] } ∧
    (s.borrowing q e).release p = some { y with claims := y.claims ++ if 0 < second then [⟨q.event, second⟩] else [] } := by
  intro borrowed second
  have hborrowed : s.obtainable q - s.pool.free = borrowed := by simp [State.obtainable, hopen, borrowable, borrowed]
  rw [State.borrowing, hopen, hborrowed]
  exact State.layClaims_two (s.passing_granted_entry q e) hnone hx hy hrp hxi hyi ho (by omega) (by omega)

/-- Where one release is open, all that is borrowed is a claim on it. -/
theorem State.borrowing_one {s : State} {q : GrantRequest} {e : Event} {r : ReleaseIx} {x : Release} {available : Nat}
    (hopen : s.openTo q.event = [(r, available)]) (hx : s.release r = some x) (ha : 0 < available)
    (hfree : s.pool.free < q.amount) :
    let lent := min q.amount (s.pool.free + available) - s.pool.free
    (s.borrowing q e).entry q.event = some { Event.recount { e with grant := e.grant + s.pool.free } with
      claims := growEventClaim r lent e.claims } ∧
    (s.borrowing q e).release r = some { x with claims := growReleaseClaim q.event lent x.claims } := by
  intro lent
  have hlent : s.obtainable q - s.pool.free = lent := by simp [State.obtainable, hopen, borrowable, lent]
  rw [State.borrowing, hopen, hlent, State.layClaims_one (by omega) (by omega)]
  exact ⟨State.growClaim_entry (s.passing_granted_entry q e) r lent,
    (State.growClaim_release (s := s.passing.granted q e s.pool.free) hx q.event lent r).trans (if_pos rfl)⟩

/-- Settles O41, by the releases open to the request and the claims laid on them. -/
theorem firstRequestBorrows : Obligations.FirstRequestBorrows := by
  refine ⟨?_, ?_, ?_⟩
  · intro s q e r p x y hl hd hq he hnone hfree hx hy hrp hpx hpy hother hold hxroom hyroom hxi hyi older newer ho hn hm
      borrowed first second
    have hopen : s.openTo q.event = [(r, older), (p, newer)] := by
      rw [State.openTo_eq he, State.pendingOldestFirst_two hx hy hrp hpx hpy hother hold, hnone]
      exact (State.openReleases_new hx ho rfl hxroom 3 [p]).trans
        (congrArg _ (State.openReleases_new hy hn rfl hyroom 2 []))
    have hm' : s.minimumGrant ≤ s.pool.free + borrowable (s.openTo q.event) := by simpa [hopen, borrowable] using hm
    obtain ⟨hentry, hr, hp⟩ := State.borrowing_two hopen hnone hx hy hrp hxi hyi ho hfree
    obtain ⟨t, e', hexec, he', hs, hrelease, hzero, hempty⟩ := exec_servicePass_borrows hl hd hq he hfree hm' hentry
    exact ⟨t, e', hexec, he', hs.grant, hs.claims, (hrelease r).trans hr, (hrelease p).trans hp, hzero, hempty, hs.topup,
      fun hk h0 => (hs.borrow hk h0).imp_right And.left, hs.firm⟩
  · intro s q e r x n before after hl hd hq hk he hclaims hfree hx hpx hother hxc hb ha available havailable hm lent
    have hopen : s.openTo q.event = [(r, available)] := by
      rw [State.openTo_eq he, State.pendingOldestFirst_one hx hpx hother]
      exact State.openReleases_claimed hx havailable (by simp [claimsOn, hclaims]) _ []
    have hm' : s.minimumGrant ≤ s.pool.free + borrowable (s.openTo q.event) := by simpa [hopen, borrowable] using hm
    obtain ⟨hentry, hr⟩ := State.borrowing_one (e := e) hopen hx havailable hfree
    rw [hxc, growReleaseClaim_grown hb ha] at hr
    obtain ⟨t, e', hexec, he', hs, hrelease, hzero, -⟩ := exec_servicePass_borrows hl hd hq he hfree hm' hentry
    refine ⟨t, e', hexec, he', hs.grant, hs.topup hk, hs.claims.trans ?_, (hrelease r).trans hr, hzero⟩
    simp [growEventClaim, claimsOn, hclaims, lent]
  · intro s q e r x hl hd hq hk he hclaims hzero hamount hmin hx hpx hother hroom hxi available hm lent
    have havailable : 0 < available := hmin.trans_le hm
    have hopen : s.openTo q.event = [(r, available)] := by
      rw [State.openTo_eq he, State.pendingOldestFirst_one hx hpx hother, hclaims]
      exact State.openReleases_new hx havailable rfl hroom 3 []
    have hm' : s.minimumGrant ≤ s.pool.free + borrowable (s.openTo q.event) := by
      simpa [hopen, borrowable, hzero] using hm
    obtain ⟨hentry, hr⟩ := State.borrowing_one (e := e) hopen hx havailable (hzero ▸ hamount)
    rw [hclaims, growEventClaim_new rfl] at hentry
    rw [growReleaseClaim_new hxi] at hr
    obtain ⟨t, e', hexec, he', hs, hrelease, hfree, hempty⟩ :=
      exec_servicePass_borrows hl hd hq he (hzero ▸ hamount) hm' hentry
    obtain ⟨hheld, hborrow, hstore⟩ := hs.borrow hk hzero
    refine ⟨t, e', hexec, he', hheld, hborrow, hstore, hs.grant.trans ?_, hs.claims.trans ?_, ((hrelease r).trans hr).trans ?_,
      hfree, hempty⟩
    · simp [Event.recount, hzero]
    · simp [hzero, lent]
    · simp [hzero, lent]

end Sys2Proof.Machine
end

section
/-! SUPPORT. The state that refutes O39, and its evaluation. Displacement may deny the event it serves: the release made of the victim's
unspent may be paid out at once (R90), the availability check that follows frees an event HELD for that stack (R79), and one
without a grant goes to BYPASSED with DENIED, its request withdrawn (R35, R37). The pass still serves that request, while a pass
made anew over the state after the displacement finds it gone. In a sound Grant Queue (O5) no HELD event has a request, but O39 speaks
of every state. -/

namespace Sys2Proof.Machine

/-- An event of stack 0 with a class, a grant none of which is spent, and reasons to be HELD. -/
def ofStackZero (state : EventState) (cls grant : Nat) (order : StackOrder) (held : HeldReasons) : Event where
  bus := 0
  openOrder := 0
  start := 0
  state := state
  copy := ⟨0, 0, 0, cls, .presag, .hold, 0, 0, none, ⟨[], 0, 0, 0⟩⟩
  strikes := []
  strikeOverflow := 0
  ladderStep := 0
  deepestStep := none
  lastReference := none
  lastFrame := 0
  stackOrder := order
  grant := grant
  accumulator := 0
  spent := 0
  overdraw := 0
  returned := 0
  firstAmount := 0
  claims := []
  held := held
  releaseWait := none
  releaseQueued := false
  releaseCreated := false
  lowestResidual := none
  breachRun := 0
  outcome := none
  marks := ⟨false, false, false, false, false, false, false, false⟩
  capture := none
  closeOrder := none

/-- The one request, of the event that is HELD for stack 0. -/
def heldRequest : GrantRequest := ⟨0, .first, 5, 0, 0, 0⟩

/-- Event 0 of class 0, HELD for stack 0 with no grant, requests 5 J; event 1 of class 3 is INJECTING on stack 0 with 10 J unspent; the
stack has acknowledged and reported the sequence number that the next command will take. -/
def heldOnVictimsStack : State :=
  let s := { State.reset with
    pool.storeState := .live
    pool.passDue := true
    pool.grantQueue := [heldRequest] }
  let s := s.setEntry 0 (some (ofStackZero .held 0 0 .none ⟨false, true, false⟩))
  let s := s.setEntry 1 (some (ofStackZero .injecting 3 10 .inject ⟨false, false, false⟩))
  s.setView 0 { StackView.reset with lastReported := some 0, lastAcknowledged := some 0 }

/-- The walk of `heldOnVictimsStack` for its request: event 1 alone, on Release Map entry 0. -/
theorem heldOnVictimsStack_victims :
    heldOnVictimsStack.chooseVictims heldRequest.amount
      (heldOnVictimsStack.pool.free + borrowable (heldOnVictimsStack.openTo heldRequest.event))
      (heldOnVictimsStack.slotsLeft heldRequest.event)
      (allReleases.filter fun r => (heldOnVictimsStack.release r).isNone)
      (heldOnVictimsStack.candidates heldRequest.cls) = ([(1, 0)], 10) := by decide +kernel

/-- `heldOnVictimsStack` after its victim is displaced. -/
def heldAfterDisplacement : State := State.displaceVictim { heldOnVictimsStack with pool.passDue := false } (1, 0)

/-- The victim's 10 J are in Free, and the request has gone with the denial of its event. -/
theorem heldAfterDisplacement_denied :
    heldAfterDisplacement.pool.free = 10 ∧ heldAfterDisplacement.pool.grantQueue = [] ∧
      (heldAfterDisplacement.entry 0).map (fun e => (e.state, e.outcome)) = some (.bypassed, some .denied) := by
  decide +kernel

/-- The pass over the state before the displacement takes 5 J out of Free, that over the state after it none. -/
theorem heldOnVictimsStack_passes :
    heldOnVictimsStack.servicePass.pool.free = 5 ∧
      (State.servicePass { heldAfterDisplacement with pool.passDue := true }).pool.free = 10 := by decide +kernel

/-- Refutes O39: where its head request is served by displacement, the pass is not the pass made anew over the state after the
displacement. In `heldOnVictimsStack` the displacement denies the event of the request and withdraws the request. -/
theorem not_headRequestWaits : ¬ Obligations.HeadRequestWaits := by
  rintro ⟨-, -, -, hdisplaced, -⟩
  obtain ⟨-, hserved⟩ := hdisplaced heldOnVictimsStack heldRequest [] (by decide +kernel)
    (by decide +kernel) (by decide +kernel) (by decide +kernel) (by decide +kernel)
  rw [heldOnVictimsStack_victims] at hserved
  obtain ⟨-, hanew⟩ := hserved (by decide +kernel) (by decide +kernel)
  obtain ⟨t, ht, hs⟩ := hanew (.inl (by decide +kernel))
  obtain ⟨hbefore, hafter⟩ := heldOnVictimsStack_passes
  rw [exec_servicePass, Host.Outcome.next.injEq] at ht hs
  have hfree : heldOnVictimsStack.servicePass.pool.free = t.pool.free := by rw [hs]
  have hfree' : (State.servicePass { heldAfterDisplacement with pool.passDue := true }).pool.free = t.pool.free := by
    simp only [← ht, heldAfterDisplacement, List.foldl_cons, List.foldl_nil]
  omega

end Sys2Proof.Machine
end
